-- ==== Sys2Proof/Word.lean ====
section
/-! DEFINITION. The vocabulary of the JN-48: bytes, samples and gains, the identifiers that 00_scope.md numbers, and the
containers that hold one thing per zone, path, voice, source or microphone set. -/

namespace Sys2Proof

/-- One byte of a link frame. -/
abbrev Byte := BitVec 8

/-- One sample of the clip pool (R62: 16 bits). -/
abbrev Sample := BitVec 16

/-- A gain in qdB: `none` is mute, which lies below every number (00_scope.md, Gains). -/
abbrev Gain := Option Int

/-- The four zones, ids 0..3 in this order (R1). -/
inductive Zone
  | cabin | driver | rearL | rearR
deriving DecidableEq, Repr

/-- The twelve sources, ids 0..11 in this order (00_scope.md, Source identifiers). -/
inductive Source
  | mediaA | mediaB | radio1 | radio2 | traffic1 | traffic2
  | voiceChime | voicePrompt | voiceTraffic | voiceRing | call | telem
deriving DecidableEq, Repr

/-- The two tuner paths P1 and P2 (R100). -/
inductive Path
  | p1 | p2
deriving DecidableEq, Repr

/-- The four voices, numbers 0..3 in this order (R81). -/
inductive Voice
  | chime | prompt | traffic | ring
deriving DecidableEq, Repr

/-- The two bands (00_scope.md, Frequencies); FM is 0 and AM is 1 where a byte carries them (R192). -/
inductive Band
  | fm | am
deriving DecidableEq, Repr

/-- The three volume kinds, numbers 0..2 in this order (R24). -/
inductive Kind
  | media | voice | call
deriving DecidableEq, Repr

/-- The mic sets of R150. -/
inductive MicSet
  | front | rearL | rearR | all
deriving DecidableEq, Repr

/-- The four microphones (00_scope.md). -/
inductive Mic
  | m1 | m2 | m3 | m4
deriving DecidableEq, Repr

/-- A tuner station: band and frequency in the band's units (R100). -/
structure Station where
  band : Band
  freq : Nat
deriving DecidableEq, Repr

def Zone.all : List Zone := [.cabin, .driver, .rearL, .rearR]

def Source.all : List Source :=
  [.mediaA, .mediaB, .radio1, .radio2, .traffic1, .traffic2,
   .voiceChime, .voicePrompt, .voiceTraffic, .voiceRing, .call, .telem]

def Voice.all : List Voice := [.chime, .prompt, .traffic, .ring]

def Kind.all : List Kind := [.media, .voice, .call]

def Mic.all : List Mic := [.m1, .m2, .m3, .m4]

def Zone.num : Zone → Nat
  | .cabin => 0 | .driver => 1 | .rearL => 2 | .rearR => 3

/-- The two headphone zones (R1). -/
def Zone.rear : Zone → Bool
  | .cabin => false | .driver => false | .rearL => true | .rearR => true

def Source.num : Source → Nat
  | .mediaA => 0 | .mediaB => 1 | .radio1 => 2 | .radio2 => 3 | .traffic1 => 4 | .traffic2 => 5
  | .voiceChime => 6 | .voicePrompt => 7 | .voiceTraffic => 8 | .voiceRing => 9 | .call => 10 | .telem => 11

def Voice.num : Voice → Nat
  | .chime => 0 | .prompt => 1 | .traffic => 2 | .ring => 3

/-- One thing per zone. -/
structure PerZone (α : Type) where
  cabin : α
  driver : α
  rearL : α
  rearR : α
deriving DecidableEq, Repr

def PerZone.get {α : Type} (p : PerZone α) : Zone → α
  | .cabin => p.cabin | .driver => p.driver | .rearL => p.rearL | .rearR => p.rearR

def PerZone.set {α : Type} (p : PerZone α) (z : Zone) (a : α) : PerZone α :=
  match z with
  | .cabin => { p with cabin := a }
  | .driver => { p with driver := a }
  | .rearL => { p with rearL := a }
  | .rearR => { p with rearR := a }

def PerZone.all {α : Type} (a : α) : PerZone α := ⟨a, a, a, a⟩

/-- One thing per tuner path. -/
structure PerPath (α : Type) where
  p1 : α
  p2 : α
deriving DecidableEq, Repr

def PerPath.get {α : Type} (p : PerPath α) : Path → α
  | .p1 => p.p1 | .p2 => p.p2

def PerPath.set {α : Type} (p : PerPath α) (i : Path) (a : α) : PerPath α :=
  match i with
  | .p1 => { p with p1 := a }
  | .p2 => { p with p2 := a }

/-- One thing per voice. -/
structure PerVoice (α : Type) where
  chime : α
  prompt : α
  traffic : α
  ring : α
deriving DecidableEq, Repr

def PerVoice.get {α : Type} (p : PerVoice α) : Voice → α
  | .chime => p.chime | .prompt => p.prompt | .traffic => p.traffic | .ring => p.ring

def PerVoice.set {α : Type} (p : PerVoice α) (v : Voice) (a : α) : PerVoice α :=
  match v with
  | .chime => { p with chime := a }
  | .prompt => { p with prompt := a }
  | .traffic => { p with traffic := a }
  | .ring => { p with ring := a }

/-- One thing per source, in source-id order. -/
structure PerSource (α : Type) where
  mediaA : α
  mediaB : α
  radio1 : α
  radio2 : α
  traffic1 : α
  traffic2 : α
  voiceChime : α
  voicePrompt : α
  voiceTraffic : α
  voiceRing : α
  call : α
  telem : α
deriving DecidableEq, Repr

def PerSource.get {α : Type} (p : PerSource α) : Source → α
  | .mediaA => p.mediaA | .mediaB => p.mediaB | .radio1 => p.radio1 | .radio2 => p.radio2
  | .traffic1 => p.traffic1 | .traffic2 => p.traffic2 | .voiceChime => p.voiceChime
  | .voicePrompt => p.voicePrompt | .voiceTraffic => p.voiceTraffic | .voiceRing => p.voiceRing
  | .call => p.call | .telem => p.telem

def PerSource.set {α : Type} (p : PerSource α) (i : Source) (a : α) : PerSource α :=
  match i with
  | .mediaA => { p with mediaA := a } | .mediaB => { p with mediaB := a }
  | .radio1 => { p with radio1 := a } | .radio2 => { p with radio2 := a }
  | .traffic1 => { p with traffic1 := a } | .traffic2 => { p with traffic2 := a }
  | .voiceChime => { p with voiceChime := a } | .voicePrompt => { p with voicePrompt := a }
  | .voiceTraffic => { p with voiceTraffic := a } | .voiceRing => { p with voiceRing := a }
  | .call => { p with call := a } | .telem => { p with telem := a }

def PerSource.all {α : Type} (a : α) : PerSource α := ⟨a, a, a, a, a, a, a, a, a, a, a, a⟩

/-- The map of a function over the twelve sources, each with its own name. -/
def PerSource.ofFn {α : Type} (f : Source → α) : PerSource α :=
  ⟨f .mediaA, f .mediaB, f .radio1, f .radio2, f .traffic1, f .traffic2,
   f .voiceChime, f .voicePrompt, f .voiceTraffic, f .voiceRing, f .call, f .telem⟩

/-- One thing per microphone. -/
structure PerMic (α : Type) where
  m1 : α
  m2 : α
  m3 : α
  m4 : α
deriving DecidableEq, Repr

def PerMic.get {α : Type} (p : PerMic α) : Mic → α
  | .m1 => p.m1 | .m2 => p.m2 | .m3 => p.m3 | .m4 => p.m4

def PerMic.all {α : Type} (a : α) : PerMic α := ⟨a, a, a, a⟩

/-- One thing per mic set. -/
structure PerMicSet (α : Type) where
  front : α
  rearL : α
  rearR : α
  all : α
deriving DecidableEq, Repr

def PerMicSet.get {α : Type} (p : PerMicSet α) : MicSet → α
  | .front => p.front | .rearL => p.rearL | .rearR => p.rearR | .all => p.all

def PerMicSet.set {α : Type} (p : PerMicSet α) (m : MicSet) (a : α) : PerMicSet α :=
  match m with
  | .front => { p with front := a }
  | .rearL => { p with rearL := a }
  | .rearR => { p with rearR := a }
  | .all => { p with all := a }

/-- A value of each of the three volume kinds. -/
structure PerKind (α : Type) where
  media : α
  voice : α
  call : α
deriving DecidableEq, Repr

def PerKind.get {α : Type} (p : PerKind α) : Kind → α
  | .media => p.media | .voice => p.voice | .call => p.call

def PerKind.set {α : Type} (p : PerKind α) (k : Kind) (a : α) : PerKind α :=
  match k with
  | .media => { p with media := a }
  | .voice => { p with voice := a }
  | .call => { p with call := a }

/-- A set of zones, one mark per zone. -/
abbrev ZoneSet := PerZone Bool

def ZoneSet.empty : ZoneSet := PerZone.all false

end Sys2Proof
end

