-- ==== Sys2Proof/Syntax.lean ====
section
/-! DEFINITION. The commands of the JN-48: one constructor of `Instr` for each row of spec/opcode_table.json, with its operands.
A request of the control link carries its sequence byte `q` first (R184). A parameter that the manual numbers is a number; a
parameter whose values the manual only names is an `Option`, and `none` is a value that names none of them (log 15). -/

namespace Sys2Proof

/-- The three operations of a set edit (00_scope.md, Set edits). -/
inductive SetOp
  | set | clear | replace
deriving DecidableEq, Repr

/-- The effect of a policy row by name, the depth being a field of its own in the request (R7). -/
inductive EffectName
  | exclusive | duck | mix
deriving DecidableEq, Repr

/-- The owners a POOL.ALLOC or POOL.CANCEL may name; CAPTURE and every other value is `none` (R64, R69). -/
inductive LinkOwner
  | control | vehicle
deriving DecidableEq, Repr

/-- The direction of the pool cursor (R70). -/
inductive CursorDir
  | write | read
deriving DecidableEq, Repr

/-- The direction of a seek (R113). -/
inductive SeekDir
  | up | down
deriving DecidableEq, Repr

/-- The two copies of a profile (R53). -/
inductive ProfileCopy
  | staged | current
deriving DecidableEq, Repr

/-- The fifteen fields of R51, in the order of its table. -/
inductive ProfileField
  | mediaCurve | voiceCurve | callCurve | eqPreset | loudness | balance | fade | slope | v0 | smax
  | rampRate | yieldTime | cap | privacy | trafficMode
deriving DecidableEq, Repr

/-- The four tuner flags of R112, as a set. -/
structure TunerFlags where
  diversity : Bool
  scan : Bool
  af : Bool
  ta : Bool
deriving DecidableEq, Repr

/-- The fields a STATION.WRITE may name (R133); `none` is a field not named. -/
structure StationFields where
  band : Option Nat
  code : Option Nat
  name : Option (List Byte)
  pty : Option Nat
  tp : Option Bool
  freqs : Option (List Nat)
deriving DecidableEq, Repr

/-- One item the data decoder reads (R104); `af` is one frequency of the AF list, as it is decoded. -/
inductive DecodedItem
  | sync (on : Bool)
  | code (c : Nat)
  | name (n : List Byte)
  | pty (p : Nat)
  | af (f : Nat)
  | tp (on : Bool)
  | ta (on : Bool)
deriving DecidableEq, Repr

/-- The quantity field of WATCH.SET (R178); `volume` carries the zone and kind as sent. -/
inductive QuantityField
  | speed | q1 | q2 | freePages | maxThermalL | erle | noise
  | volume (zone kind : Nat)
deriving DecidableEq, Repr

/-- The condition of a watch (R180). -/
inductive WatchCond
  | eq | ne | lt | ge | gt | le | lo | hs
deriving DecidableEq, Repr

/-- The mode of a watch (R178). -/
inductive WatchMode
  | edge | level
deriving DecidableEq, Repr

/-- The action field of WATCH.SET, with the zone as sent (R178). -/
inductive ActionField
  | notify
  | take (zone : Nat)
  | release (zone : Nat)
deriving DecidableEq, Repr

/-- A frame on the vehicle link (R168). -/
structure VehicleFrame where
  id : Nat
  extended : Bool
  remote : Bool
  data : List Byte
deriving DecidableEq, Repr

/-- What reaches the part's audio inputs in one render frame, in units of 2^-23 of full scale: 48 stereo samples of the media
inputs and of each path's demodulated programme, whether a path's demodulator receives its FM station in mono (R22), 16 samples of
each 16 kHz downlink, and 16 samples of the signal that the canceller leaves of each microphone (its filters are outside the manual,
9.5; log 10). -/
structure FrameInput where
  mediaA : List (Int × Int)
  mediaB : List (Int × Int)
  programme : PerPath (List (Int × Int))
  mono : PerPath Bool
  callDown : List Int
  telemDown : List Int
  cancelled : PerMic (List Int)
deriving DecidableEq, Repr

/-- The commands, in the order of spec/opcode_table.json. -/
inductive Instr
  | coldReset
  | warmReset
  | frameReceived (bytes : List Byte)
  | frameGapTimeout
  | unknownRequest (code q : Byte) (payloadLength : Nat)
  | sysIdentify (q : Byte)
  | sysLoadTableOnly (q : Byte) (table : Nat) (bytes : List Byte)
  | sysLoadTableFirst (q : Byte) (table : Nat) (bytes : List Byte)
  | sysLoadTableMore (q : Byte) (table : Nat) (bytes : List Byte)
  | sysLoadTableLast (q : Byte) (table : Nat) (bytes : List Byte)
  | sysStart (q : Byte)
  | sysReset (q : Byte)
  | sysNoticeMask (q : Byte) (op : Option SetOp) (flags : BitVec 64)
  | sysNoticeAck (q : Byte) (flags : BitVec 64)
  | noticeFrameSent
  | zoneSelect (q : Byte) (zone source : Nat)
  | zonePolicy (q : Byte) (zone row : Nat) (effect : Option EffectName) (depth : Nat)
  | zoneStatus (q : Byte) (zone : Nat)
  | zoneVolume (q : Byte) (zone kind step : Nat)
  | zoneTrim (q : Byte) (zone source : Nat) (trim : Int)
  | zoneLevels (q : Byte) (zone source : Nat)
  | yieldExpiry (z : Zone)
  | renderFrame (inp : FrameInput)
  | coolCountExpiry (channel : Nat)
  | profileStage (q : Byte) (zone : Nat) (fields : List (Option ProfileField × Int))
  | profileRead (q : Byte) (zone : Nat) (copy : Option ProfileCopy)
  | profileTakeNow (q : Byte) (zone : Nat) (modeKnown : Bool)
  | profileTakeHold (q : Byte) (zone : Nat)
  | profileRelease (q : Byte) (zone : Nat)
  | profileDiscard (q : Byte) (zone : Nat)
  | poolAlloc (q : Byte) (n rate : Nat) (owner : Option LinkOwner) (auto : Bool)
  | poolPending (q : Byte)
  | poolCancel (q : Byte) (slot : Option LinkOwner)
  | poolSeek (q : Byte) (clip position : Nat) (dir : Option CursorDir)
  | poolWrite (q : Byte) (samples : List Sample)
  | poolRead (q : Byte) (count : Nat)
  | poolSeal (q : Byte) (clip length : Nat)
  | poolRelease (q : Byte) (clip : Nat)
  | poolStatus (q : Byte)
  | poolClip (q : Byte) (clip : Nat)
  | voiceEnqueue (q : Byte) (voice clip mask repeats gap threshold : Nat) (trim : Int) (maxWait : Nat)
  | voiceCompletions (q : Byte)
  | voiceFlush (q : Byte) (voice : Nat)
  | voiceSkip (q : Byte) (voice : Nat)
  | voiceStatus (q : Byte) (voice : Nat)
  | maxWaitExpiry (v : Voice)
  | gapExpiry (v : Voice)
  | fadeComplete (v : Voice)
  | tunerFront (q : Byte) (band : Option Band) (freq : Nat)
  | tunerRear (q : Byte) (zone : Nat) (band : Option Band) (freq : Nat)
  | tunerFlags (q : Byte) (op : Option SetOp) (flags : TunerFlags)
  | tunerConfig (q : Byte) (afThreshold afHold afMargin seekThreshold : Nat)
  | tunerSeek (q : Byte) (dir : Option SeekDir)
  | tunerStatus (q : Byte)
  | tuneFadeDone (p : Path)
  | tuneConfirmation (p : Path) (at_ : Station)
  | confirmTimeout (p : Path)
  | settleDone (p : Path)
  | failureRetry (p : Path)
  | pathMeasurement (p : Path) (fs mp adj : Nat)
  | decodedField (p : Path) (item : DecodedItem)
  | seekStepMeasurement (fs mp adj : Nat)
  | afCheckBegin
  | afTrialEnd
  | peekStart
  | peekCandidateCommand
  | peekMeasurement (fs mp adj : Nat)
  | peekReturn
  | stationList (q : Byte) (first : Nat)
  | stationRead (q : Byte) (slot : Nat) (reserve : Bool)
  | stationWrite (q : Byte) (slot : Nat) (fields : StationFields)
  | stationWriteCond (q : Byte) (slot : Nat) (fields : StationFields)
  | stationDelete (q : Byte) (slot : Nat)
  | stationPresetAssign (q : Byte) (preset slot : Nat)
  | stationPresetClear (q : Byte) (preset : Nat)
  | stationPresetQuery (q : Byte) (preset : Nat) (opKnown : Bool)
  | stationAdmit (q : Byte) (op : Option SetOp) (mask : BitVec 32)
  | stationAgeTick
  | scanConfig (q : Byte) (interval permit admitQ : Nat)
  | scanIntervalExpiry
  | scanVisitMeasurement (fs mp adj : Nat)
  | codeDwellEnd
  | scanWindowTimeout
  | trafficStatus (q : Byte)
  | tailExpiry (p : Path)
  | announcementAgeLimit (p : Path)
  | callRing (q : Byte) (mode clip gap : Nat)
  | callAnswer (q : Byte)
  | callHold (q : Byte)
  | callResume (q : Byte)
  | callEnd (q : Byte)
  | callMode (q : Byte) (mode : Nat)
  | callTrim (q : Byte) (down up : Int)
  | callEchoConfig (q : Byte) (tc tt : Nat)
  | callStatus (q : Byte)
  | micLevelDelivery (speech noise : PerMic Gain)
  | noiseForming
  | echoEstimate (erle : Nat) (doubleTalk : Bool)
  | echoConverged
  | frozenHangEnd
  | vehicleSpeed (q : Byte) (parameters : List Byte)
  | vehicleChime (q : Byte) (parameters : List Byte)
  | vehicleChimeStop (q : Byte) (parameters : List Byte)
  | vehicleOverride (q : Byte) (parameters : List Byte)
  | vehicleStatus (q : Byte)
  | speed (v : Nat)
  | speedStale
  | chime (clip mask repeats gap : Nat)
  | chimeStop
  | overrideEnter
  | overrideExitResume
  | overrideExitDrop
  | vehicleFrameIgnored (frame : VehicleFrame)
  | statusPeriod
  | statusSent
  | chimeDoneSent
  | watchSet (q : Byte) (slot : Nat) (quantity : Option QuantityField) (threshold : Int) (cond : Option WatchCond) (hold : Nat) (mode : Option WatchMode) (action : Option ActionField)
  | watchClear (q : Byte) (slot : Nat)
  | watchQuery (q : Byte) (slot : Nat)
  | watchFire (slot : Nat)
  | replyFrameSent
deriving DecidableEq, Repr

end Sys2Proof
end

