-- ==== Sys2Proof/Decode.lean ====
section
/-! DEFINITION. The command that a word spells. No row of spec/opcode_table.json gives bits, so no word spells one (log 14). The byte
layouts that the spec does give are read where they arrive: the CRC and the frames of R190 in Machine/LinkFrames.lean, the request that
a held frame spells in Machine/ControlPort.lean, the records of R191 in Machine/VehicleOps.lean, the station record of R192 in
Machine/StationCommands.lean, the tables in Machine/Tables.lean. -/

namespace Sys2Proof

def decodeTableWord (_nbits _w : Nat) : Option Instr := none

end Sys2Proof
end

