-- ==== Sys2Proof/Config.lean ====
section
/-! DEFINITION. What the part fixes (numbers the manual gives) and the FREE VALUES: constants without a body for what the manual
names without giving a value. No proof can see what a free value is. -/

namespace Sys2Proof.Config

/-- R62: pages of the pool. -/
def pages : Nat := 1024

/-- R62: samples of a page. -/
def pageSamples : Nat := 1024

/-- R65: the pages that clips not owned by VEHICLE may hold. -/
def otherLimit : Nat := 928

/-- R65: the vehicle reserve. -/
def reserve : Nat := 96

/-- R188: the assembly buffer, in bytes. -/
def assemblyBytes : Nat := 24576

/-- R187: the family code. -/
def familyCode : Nat := 0x0A48

/-- R187: the revision. -/
def revision : Nat := 1

/-- R183, R190: the marker byte. -/
def marker : Byte := 0xC5

/-- R41: full scale of the energy, 2^31 - 1. -/
def energyMax : Nat := 2147483647

/-- FREE (log 9): R184 refuses a payload whose length matches no form of the request's format; but for SYS.NOTICE_ACK's (R190),
and those without a parameter, the formats are not given. The arguments are the code byte and the payload length. -/
opaque payloadLengthAllowed : Byte → Nat → Bool

/-- FREE (log 9): the request that a frame's payload spells, for the requests whose parameters the manual gives no byte layout. The
arguments are the code byte, the sequence byte and the payload. -/
opaque requestSpelled : Byte → Byte → List Byte → Option Instr

/-- FREE (log 9): the operation that the bytes before the flag set of a SYS.NOTICE_MASK name; how they name it is not given. -/
opaque maskOperation : List Byte → Option SetOp

/-- FREE (log 10): R88 converts clip samples at 24000 or 16000 Hz to 48 kHz; the conversion is not given.
The first argument is the number of clip samples of a whole frame (24 or 16). -/
opaque convertTo48 : Nat → List Int → List Int

/-- FREE (log 10): R158, R174 upsample a 16 kHz downlink to 48 kHz; the filter is not given. -/
opaque upsampleDownlink : List Int → List Int

/-- FREE (log 10): R144 stores the capture at 24000 Hz from a 48 kHz source; the decimation is not given. -/
opaque decimate : List Int → List Int

/-- FREE (log 10): R110 weights each path by its quality; the weights are not given. Arguments: the two qualities, the two
samples. -/
opaque diversityCombine : Nat → Nat → Int → Int → Int

/-- FREE (log 10): R39 gives the shelf's corner and boost; its coefficients b0, b1, b2, a1, a2 at a boost are not given. -/
opaque shelfCoefficients : Nat → Int × Int × Int × Int × Int

/-- FREE (log 10): R37, R83, R144, R165 scale samples; to what precision a stored 16-bit capture sample is rounded is not given. -/
opaque captureRound : Int → Sample

/-- FREE (log 11): R158 compares the far-end level with -200 qdB; levels are whole qdB and the rounding of a level between -200
and -199 is not given. The argument is the sum of squares. -/
opaque farBandActive : Nat → Bool

/-- FREE (log 11): R160 reports a mean as a whole figure; its rounding is not given. Arguments: the sum and the number of terms
of a mean that is not whole. -/
opaque noiseRoundsUp : Nat → Nat → Bool

/-- FREE (log 12): whether an estimate with double talk first sets ERLE and makes the threshold tests by R162, or holds ERLE and makes no
test by R163. -/
opaque doubleTalkSetsErle : Bool

/-- FREE (log 3): the coefficients that the canceller's adaptation, which is outside the manual (9.5), has reached; a name for
them, fresh for each value of the counter in State. -/
opaque adaptedCoefficients : Nat → Nat

end Sys2Proof.Config
end

