-- ==== Sys2Proof/Machine/State.lean ====
section
/-! DEFINITION. The state of the JN-48 as plain data, one structure per block of 00_scope.md, the reasons a step can stop, and the
state after a cold reset. INVENTORY.md lists every field with the rule that names it. -/

namespace Sys2Proof.Machine

/-! ## Zone arbiter (01_zones_and_claims.md) -/

/-- R5. -/
inductive ClaimClass
  | entertainment | traffic | prompt | ring | call | chime | emergency
deriving DecidableEq, Repr

/-- R2: state and, when DUCKED, depth. -/
inductive ClaimState
  | audible
  | ducked (depth : Nat)
  | held
  | waiting
deriving DecidableEq, Repr

/-- R2. -/
structure Claim where
  source : Source
  cls : ClaimClass
  state : ClaimState
  arrival : Nat
  shadow : Bool
  yielding : Bool
deriving DecidableEq, Repr

/-- R6: the effect of a policy row. -/
inductive Effect
  | exclusive
  | duck (depth : Nat)
  | mix
deriving DecidableEq, Repr

/-- R6: the eight rows of a zone. -/
structure PolicyRows where
  entertainment : Effect
  traffic : Effect
  prompt : Effect
  ring : Effect
  call : Effect
  chime : Effect
  emergency : Effect
  privateCall : Effect
deriving DecidableEq, Repr

/-- R6: the default effects. -/
def PolicyRows.default : PolicyRows where
  entertainment := .mix
  traffic := .exclusive
  prompt := .duck 40
  ring := .exclusive
  call := .exclusive
  chime := .mix
  emergency := .exclusive
  privateCall := .duck 80

/-- What the arbiter keeps for one zone. A yield timer at `some 0` has expired and YIELD_EXPIRY is due (log 1). -/
structure ZoneState where
  claims : List Claim
  nextArrival : Nat
  yieldTimer : Option Nat
  leading : Option Source
  entHeld : Bool
deriving DecidableEq, Repr

structure Arbiter where
  zones : PerZone ZoneState
  policy : PerZone PolicyRows
  policyLoaded : Bool
deriving DecidableEq, Repr

/-- R21. -/
def ZoneState.empty : ZoneState where
  claims := []
  nextArrival := 1
  yieldTimer := none
  leading := none
  entHeld := false

/-! ## Renderer (02_gain_arithmetic.md) -/

/-- R22, R34 to R36: target and applied gain, and what its rate is when it is not the zone's ramp rate: a yield rate, a hush
rate, or the jump of R16. `restart` says that the applied gain is set to mute at the next render frame (R4, R47). -/
structure MixPoint where
  target : Gain
  applied : Gain
  yieldRate : Option Nat
  hushRate : Option Nat
  jump : Bool
  restart : Bool
deriving DecidableEq, Repr

/-- R44: a mix point after a reset. -/
def MixPoint.mute : MixPoint := ⟨none, none, none, none, false, false⟩

/-- R41. A cool count of 16 has COOL_COUNT_EXPIRY due (log 1). -/
structure Thermal where
  energy : Nat
  reduction : Nat
  cool : Nat
deriving DecidableEq, Repr

/-- R48: the four memories of a second-order section, exact and in units of 2^-64 of full scale (log 10). -/
structure SectionMem where
  x1 : Rat
  x2 : Rat
  y1 : Rat
  y2 : Rat
deriving DecidableEq, Repr

/-- The audio that the last render frame put out, exact and in units of 2^-64 of full scale (log 10): R45's slots of the two
amplifier TDM ports, one list of samples for each slot, and the headphone pairs. -/
structure AudioOut where
  tdm1 : List (List Rat)
  tdm2 : List (List Rat)
  phonesL : List (List Rat)
  phonesR : List (List Rat)
deriving DecidableEq, Repr

/-- R45: channel k leaves in slot k of the first port, or in slot k - 11 of the second. -/
def AudioOut.ofSpeakers (channels phonesL phonesR : List (List Rat)) : AudioOut :=
  ⟨channels.take 11, channels.drop 11, phonesL, phonesR⟩

/-- R45: the loudspeaker channels in channel order. -/
def AudioOut.speakers (o : AudioOut) : List (List Rat) := o.tdm1 ++ o.tdm2

structure Renderer where
  volume : PerZone (PerKind Nat)
  trims : PerZone (PerSource Int)
  mix : PerZone (PerSource (List MixPoint))
  hush : PerSource Bool
  thermal : List Thermal
  eqMem : PerZone (List (List SectionMem))
  shelfMem : PerZone (List SectionMem)
  out : AudioOut
  uplink : List Int
  telemUplink : List Int
deriving DecidableEq, Repr

/-- R22: how many mix points a source has in a zone. -/
def slotsOf : Zone → Nat
  | .cabin => 22 | .driver => 2 | .rearL => 2 | .rearR => 2

def silence (channels : Nat) : List (List Rat) := List.replicate channels (List.replicate 48 0)

def AudioOut.silent : AudioOut := ⟨silence 11, silence 11, silence 2, silence 2⟩

def mixReset (z : Zone) : PerSource (List MixPoint) :=
  PerSource.all (List.replicate (slotsOf z) MixPoint.mute)

/-- R44. -/
def Renderer.reset : Renderer where
  volume := PerZone.all ⟨0, 0, 0⟩
  trims := PerZone.all (PerSource.all 0)
  mix := ⟨mixReset .cabin, mixReset .driver, mixReset .rearL, mixReset .rearR⟩
  hush := PerSource.all false
  thermal := List.replicate 22 ⟨0, 0, 0⟩
  eqMem := PerZone.all []
  shelfMem := PerZone.all []
  out := AudioOut.silent
  uplink := List.replicate 16 0
  telemUplink := List.replicate 16 0

/-! ## Profile bank (03_rendering_profiles_and_the_loudspeaker_map.md) -/

inductive TrafficMode
  | off | live | liveOrCapture
deriving DecidableEq, Repr

/-- R51. -/
structure Profile where
  mediaCurve : Nat
  voiceCurve : Nat
  callCurve : Nat
  eqPreset : Nat
  loudness : Bool
  balance : Int
  fade : Int
  slope : Nat
  v0 : Nat
  smax : Nat
  rampRate : Nat
  yieldTime : Nat
  cap : Int
  privacy : Nat
  trafficMode : TrafficMode
deriving DecidableEq, Repr

/-- R51: the zeroed default. -/
def Profile.zeroed : Profile where
  mediaCurve := 0
  voiceCurve := 0
  callCurve := 0
  eqPreset := 0
  loudness := false
  balance := 0
  fade := 0
  slope := 0
  v0 := 0
  smax := 0
  rampRate := 1
  yieldTime := 0
  cap := 0
  privacy := 0
  trafficMode := .off

inductive TakeState
  | idle | holding | deferred
deriving DecidableEq, Repr

inductive Row
  | f | r | x | h
deriving DecidableEq, Repr

inductive Side
  | l | r | c
deriving DecidableEq, Repr

/-- R45, the channel number being the entry's place. -/
structure ChannelEntry where
  row : Row
  side : Side
  trim : Int
  rated : Nat
  tau : Nat
  group : Nat
deriving DecidableEq, Repr

/-- R48: five coefficients, each a signed 32-bit integer with 30 fraction bits. -/
structure Biquad where
  b0 : Int
  b1 : Int
  b2 : Int
  a1 : Int
  a2 : Int
deriving DecidableEq, Repr

structure Bank where
  staged : PerZone Profile
  current : PerZone Profile
  take : PerZone TakeState
  map : List ChannelEntry
  mapLoaded : Bool
  eq : List (List (List Biquad))
  eqLoaded : Bool
  curves : List (List Int)
  curvesLoaded : Bool
deriving DecidableEq, Repr

/-- R61. -/
def Bank.reset : Bank where
  staged := PerZone.all Profile.zeroed
  current := PerZone.all Profile.zeroed
  take := PerZone.all .idle
  map := []
  mapLoaded := false
  eq := List.replicate 16 (List.replicate 9 [])
  eqLoaded := false
  curves := []
  curvesLoaded := false

/-! ## Pool allocator (04_the_clip_pool.md) -/

inductive ClipState
  | free | filling | capturing | ready
deriving DecidableEq, Repr

inductive Owner
  | control | vehicle | capture
deriving DecidableEq, Repr

inductive UseMarker
  | unused
  | queued (v : Voice)
  | playing (v : Voice)
deriving DecidableEq, Repr

/-- R63. The allocated length is 1024 times the number of pages. -/
structure Clip where
  state : ClipState
  owner : Option Owner
  rate : Option Nat
  pages : List Nat
  fill : Nat
  sealedLen : Nat
  auto : Bool
  use : UseMarker
deriving DecidableEq, Repr

/-- R63: the empty values of a FREE record. -/
def Clip.empty : Clip := ⟨.free, none, none, [], 0, 0, false, .unused⟩

/-- R67. -/
inductive Slot
  | empty
  | waiting (n rate : Nat) (auto : Bool)
  | granted (clip : Nat)
deriving DecidableEq, Repr

/-- R70. -/
structure Cursor where
  clip : Nat
  position : Nat
  dir : CursorDir
deriving DecidableEq, Repr

structure Pool where
  clips : List Clip
  freePages : List Nat
  mem : List (Nat × Sample)
  vehicleSlot : Slot
  controlSlot : Slot
  cursor : Cursor
deriving DecidableEq, Repr

/-- R80. -/
def Pool.reset : Pool where
  clips := List.replicate 63 Clip.empty
  freePages := List.range 1024
  mem := []
  vehicleSlot := .empty
  controlSlot := .empty
  cursor := ⟨0, 0, .read⟩

/-! ## Voice player (05_announcement_voices.md) -/

/-- R82, R93: an entry's outcome and a completion's status. -/
inductive CompStatus
  | played | underrun | expired | flushed | captured | truncated
deriving DecidableEq, Repr

/-- R82. The maximum wait is in seconds. -/
structure Entry where
  clip : Nat
  mask : ZoneSet
  repeats : Nat
  gap : Nat
  threshold : Nat
  trim : Int
  maxWait : Nat
  outcome : Option CompStatus
deriving DecidableEq, Repr

/-- R83. -/
inductive VoiceState
  | idle | starting | waitingFill | waitingZone | playing | gap | retiring
deriving DecidableEq, Repr

/-- R83. Timers and the fade count at `some 0` have their expiry due (log 1). `flushing` marks the fade of a flush, in which
nothing is owed (R96). -/
structure VoiceRec where
  queue : List Entry
  state : VoiceState
  position : Nat
  passes : Nat
  gap : Option Nat
  maxWait : Option Nat
  first : Bool
  fade : Option Nat
  flushing : Bool
  last : Int
deriving DecidableEq, Repr

/-- R99; the passes remaining, the first-sample mark and the last output sample: log 25. -/
def VoiceRec.reset : VoiceRec := ⟨[], .idle, 0, 0, none, none, false, none, false, 0⟩

/-- R93. -/
structure Completion where
  clip : Nat
  voice : Option Voice
  status : CompStatus
deriving DecidableEq, Repr

/-- R93. -/
inductive Waiter
  | voice (v : Voice)
  | monitor
deriving DecidableEq, Repr

structure Voices where
  voices : PerVoice VoiceRec
  control : List Completion
  vehicle : List Completion
  controlWaiters : List Waiter
  vehicleWaiters : List Waiter
deriving DecidableEq, Repr

/-- R99. -/
def Voices.reset : Voices where
  voices := ⟨VoiceRec.reset, VoiceRec.reset, VoiceRec.reset, VoiceRec.reset⟩
  control := []
  vehicle := []
  controlWaiters := []
  vehicleWaiters := []

/-! ## Tuner path controller (06_tuner_paths.md) -/

/-- R101. -/
inductive PathState
  | idle | tuning | locked | seeking | peek | failed
deriving DecidableEq, Repr

inductive Role
  | front | rear | partner | scan | idle
deriving DecidableEq, Repr

/-- R103. -/
inductive Phase
  | fading | confirming | settling
deriving DecidableEq, Repr

/-- R100, R104: the decoded data; `none` is absent. -/
structure Decoded where
  code : Option Nat
  name : Option (List Byte)
  pty : Option Nat
  afs : Option (List Nat)
  tp : Bool
  ta : Bool
  sync : Bool
deriving DecidableEq, Repr

def Decoded.absent : Decoded := ⟨none, none, none, none, false, false, false⟩

/-- R100. `wait` is the time left of the running phase, seek step or retry (R103, R105, R113); at `some 0` its event is due
(log 1). `retryTimer` is the 1000 ms of R105 and `retrying` says that a retry awaits its confirmation. `measured` says that a
measurement has been made since the last lock (R102, R119). -/
structure PathRec where
  state : PathState
  role : Role
  station : Station
  phase : Option Phase
  wait : Option Nat
  retry : Nat
  fs : Nat
  mp : Nat
  adj : Nat
  q : Nat
  decoded : Decoded
  retryTimer : Option Nat
  retrying : Bool
  measured : Bool
deriving DecidableEq, Repr

/-- R118. -/
def PathRec.reset (role : Role) : PathRec where
  state := .idle
  role := role
  station := ⟨.fm, 8750⟩
  phase := none
  wait := none
  retry := 0
  fs := 0
  mp := 0
  adj := 0
  q := 0
  decoded := Decoded.absent
  retryTimer := none
  retrying := false
  measured := false

/-- R107. -/
inductive Wish
  | none
  | cabin
  | station (s : Station)
deriving DecidableEq, Repr

/-- R112. -/
structure TunerSettings where
  afThreshold : Nat
  afHold : Nat
  afMargin : Nat
  seekThreshold : Nat
deriving DecidableEq, Repr

/-- R113. -/
structure Seek where
  dir : SeekDir
  start : Nat
  settling : Bool
deriving DecidableEq, Repr

/-- R115: a trial by P2; `sinceLock` counts from P2's lock and `qs` are the first three measurements. -/
structure Trial where
  cand : Nat
  sinceLock : Option Nat
  qs : List Nat
deriving DecidableEq, Repr

/-- R114. -/
structure AfCheck where
  tried : List Nat
  untried : List Nat
  reference : Nat
  trial : Option Trial
deriving DecidableEq, Repr

/-- R116. -/
structure Peek where
  cand : Nat
  time : Nat
  commanded : Bool
  candConfirmed : Bool
  measured : Bool
  returnConfirmed : Bool
deriving DecidableEq, Repr

/-- `holdDue` says that a measurement has found the hold count at the hold time (R112, R114). -/
structure Tuner where
  path : PerPath PathRec
  seek : Option Seek
  wishL : Wish
  wishR : Wish
  flags : TunerFlags
  settings : TunerSettings
  holdCount : Nat
  holdDue : Bool
  check : Option AfCheck
  peek : Option Peek
  peekAge : Option Nat
deriving DecidableEq, Repr

/-- R112, R118. -/
def Tuner.reset : Tuner where
  path := ⟨PathRec.reset .front, PathRec.reset .idle⟩
  seek := none
  wishL := .none
  wishR := .none
  flags := ⟨false, false, false, false⟩
  settings := ⟨30, 2000, 10, 40⟩
  holdCount := 0
  holdDue := false
  check := none
  peek := none
  peekAge := none

/-! ## Station table and scan controller (07_station_table_and_background_scan.md) -/

inductive Origin
  | scan | tuned | host
deriving DecidableEq, Repr

/-- R119: a frequency list entry. -/
structure FreqEntry where
  freq : Nat
  q : Nat
  age : Nat
deriving DecidableEq, Repr

/-- R119. -/
structure StationRec where
  code : Nat
  band : Band
  name : Option (List Byte)
  pty : Option Nat
  freqs : List FreqEntry
  tp : Bool
  preset : Option Nat
  origin : Origin
  age : Nat
deriving DecidableEq, Repr

/-- R120: a slot and its revision. -/
structure StaSlot where
  record : Option StationRec
  revision : BitVec 16
deriving DecidableEq, Repr

/-- R122. -/
structure PresetKey where
  band : Band
  freq : Nat
  code : Nat
deriving DecidableEq, Repr

/-- R122: a preset that is not EMPTY; its link may be absent. -/
structure Preset where
  key : PresetKey
  link : Option Nat
deriving DecidableEq, Repr

/-- R123. `awaiting` marks a path whose first good measurement since its lock has not come. -/
structure Assoc where
  slot : Option Nat
  awaiting : Bool
deriving DecidableEq, Repr

structure Table where
  slots : List StaSlot
  presets : List (Option Preset)
  mask : BitVec 32
  admitQ : Nat
  assoc : PerPath Assoc
  reservation : Option (Nat × BitVec 16)
deriving DecidableEq, Repr

/-- R137. -/
def Table.reset : Table where
  slots := List.replicate 40 ⟨none, 0⟩
  presets := List.replicate 12 none
  mask := BitVec.allOnes 32
  admitQ := 35
  assoc := ⟨⟨none, false⟩, ⟨none, false⟩⟩
  reservation := none

/-- R129, R130: what the visit is doing; at 0 ms left its event is due (log 1). R127: a named visit keeps the admission threshold
it was named under. -/
inductive Visit
  | named (left admitQ : Nat)
  | dwell (left : Nat) (q : Nat)
deriving DecidableEq, Repr

/-- R128 to R131. -/
structure Window where
  left : Nat
  visit : Visit
deriving DecidableEq, Repr

structure Scan where
  interval : Nat
  permit : Nat
  timer : Option Nat
  cursor : Nat
  window : Option Window
  waiting : Bool
deriving DecidableEq, Repr

/-- R127, R137. -/
def Scan.reset : Scan where
  interval := 20
  permit := 50
  timer := none
  cursor := 8750
  window := none
  waiting := false

/-! ## Traffic monitor (08_traffic_announcements.md) -/

inductive AnnState
  | quiet | live | tail
deriving DecidableEq, Repr

/-- R138. -/
structure Announcement where
  state : AnnState
  zones : ZoneSet
  held : ZoneSet
  eligible : Bool
  age : Nat
  tail : Option Nat
deriving DecidableEq, Repr

def Announcement.quiet : Announcement := ⟨.quiet, ZoneSet.empty, ZoneSet.empty, false, 0, none⟩

/-- R143. -/
inductive Capture
  | idle
  | recording (p : Path) (clip : Nat)
  | owing (clip : Nat) (status : CompStatus)
deriving DecidableEq, Repr

structure Traffic where
  ann : PerPath Announcement
  capture : Capture
deriving DecidableEq, Repr

/-- R149. -/
def Traffic.reset : Traffic := ⟨⟨Announcement.quiet, Announcement.quiet⟩, .idle⟩

/-! ## Call controller and echo canceller (09_calls_and_the_echo_canceller.md) -/

inductive CallState
  | idle | ringing | active | held
deriving DecidableEq, Repr

inductive Route
  | none | call | telem
deriving DecidableEq, Repr

inductive EchoState
  | off | converging | converged | frozen
deriving DecidableEq, Repr

/-- R161 to R165. `earned` says that an estimate has found the converge timer at 500 ms or more with ERLE at or above Tc, so that
ECHO_CONVERGED is due (R162, log 1). `coeff` names the present coefficients, 0 being zero coefficients (log 3); `target` is U as the last
render frame formed it, and `applied` is in eighths of a qdB. -/
structure Echo where
  state : EchoState
  prior : EchoState
  erle : Nat
  tc : Nat
  tt : Nat
  timer : Option Nat
  earned : Bool
  hang : Nat
  doubleTalk : Bool
  coeff : Nat
  retained : PerMicSet (Option Nat)
  target : Int
  applied : Int
deriving DecidableEq, Repr

/-- `reconverge` says that a reconvergence notice waits for the next render frame (R60). -/
structure Call where
  state : CallState
  mode : Zone
  downTrim : Int
  upTrim : Int
  ringClip : Option Nat
  savedTag : Option CallState
  route : Route
  routeSet : MicSet
  selected : Mic
  speech : PerMic Gain
  noiseFloor : PerMic Gain
  noise : Nat
  callWin : List Int
  telemWin : List Int
  farActive : Bool
  reconverge : Bool
  echo : Echo
deriving DecidableEq, Repr

/-- R162, R167; U before a frame has formed one: log 7. -/
def Echo.reset : Echo where
  state := .off
  prior := .converging
  erle := 0
  tc := 72
  tt := 120
  timer := none
  earned := false
  hang := 0
  doubleTalk := false
  coeff := 0
  retained := ⟨none, none, none, none⟩
  target := 0
  applied := 0

/-- R167; the fields that the rule does not give: log 7. -/
def Call.reset : Call where
  state := .idle
  mode := .cabin
  downTrim := 0
  upTrim := 0
  ringClip := none
  savedTag := none
  route := .none
  routeSet := .all
  selected := .m1
  speech := PerMic.all none
  noiseFloor := PerMic.all none
  noise := 0
  callWin := List.replicate 160 0
  telemWin := List.replicate 160 0
  farActive := false
  reconverge := false
  echo := Echo.reset

/-! ## Vehicle port (10_vehicle_link_and_emergency_override.md) -/

/-- R184: the refusal codes. -/
inductive RefCode
  | unknown | length | range | state | busy | inUse | noClip | pathBusy | stale | locked | privileged
  | notStarted | missingTable | badTable
deriving DecidableEq, Repr

/-- R170: the chime refusal; `stop` for a CHIME_STOP. -/
structure ChimeRefusal where
  stop : Bool
  clip : Nat
  code : RefCode
deriving DecidableEq, Repr

/-- R172. -/
structure StatusRecord where
  override : Bool
  call : CallState
  chimeState : VoiceState
  chimeEntries : Nat
  vehicleWaiting : Nat
  freeReserve : Nat
  leading : PerZone (Option (Source × ClaimClass))
  stale : Bool
  refusal : Option ChimeRefusal
deriving DecidableEq, Repr

structure Vehicle where
  speed : Nat
  age : Nat
  stale : Bool
  override : Bool
  savedStep : Option Nat
  refusal : Option ChimeRefusal
  chimeDone : Option Completion
  status : Option StatusRecord
  statusTimer : Option Nat
  base : Nat
  step : Nat
  loaded : Bool
  busOut : Option VehicleFrame
deriving DecidableEq, Repr

/-- R177; base and step of the unloaded table: log 4. -/
def Vehicle.reset : Vehicle where
  speed := 0
  age := 1000
  stale := true
  override := false
  savedStep := none
  refusal := none
  chimeDone := none
  status := none
  statusTimer := none
  base := 0
  step := 1
  loaded := false
  busOut := none

/-! ## Watch unit (11_watches.md) -/

/-- R178, R179. -/
inductive Quantity
  | speed | q1 | q2 | freePages | maxThermalL | erle | noise
  | volume (z : Zone) (k : Kind)
deriving DecidableEq, Repr

inductive WatchAction
  | notify
  | take (z : Zone)
  | release (z : Zone)
deriving DecidableEq, Repr

/-- R178. -/
structure Watch where
  quantity : Quantity
  threshold : Int
  cond : WatchCond
  hold : Nat
  mode : WatchMode
  action : WatchAction
  count : Nat
  armed : Bool
  lastValue : Option Int
  lastResult : Option Bool
deriving DecidableEq, Repr

/-- The watch slots, and the fires that WATCH_FIRE still has to carry out (log 2). -/
structure Watches where
  slots : List (Option Watch)
  owed : List (Nat × WatchAction)
deriving DecidableEq, Repr

/-- R178. -/
def Watches.reset : Watches := ⟨List.replicate 16 none, []⟩

/-! ## Control port (12_control_link_notices_and_start_up.md) -/

/-- One channel's line of ZONE.LEVELS (R43). -/
structure LevelLine where
  channel : Nat
  balance : Int
  fade : Int
  trim : Int
  privacy : Gain
  reduction : Nat
  target : Gain
  applied : Gain
deriving DecidableEq, Repr

/-- One entry of STATION.LIST (R132). -/
structure ListLine where
  slot : Nat
  code : Nat
  band : Band
  primary : Option Nat
  name : Option (List Byte)
  preset : Option Nat
deriving DecidableEq, Repr

/-- A clip's record as POOL.CLIP reports it (R79): the number of its pages, not which they are (R62). -/
structure ClipReport where
  state : ClipState
  owner : Option Owner
  rate : Option Nat
  pagesHeld : Nat
  length : Nat
  fill : Nat
  sealedLen : Nat
  auto : Bool
  use : UseMarker
deriving DecidableEq, Repr

/-- A claim as ZONE.STATUS reports it (R20): without its arrival sequence. The depth is the state's. -/
structure ClaimReport where
  source : Source
  cls : ClaimClass
  state : ClaimState
  shadow : Bool
  yielding : Bool
deriving DecidableEq, Repr

def Claim.report (c : Claim) : ClaimReport := ⟨c.source, c.cls, c.state, c.shadow, c.yielding⟩

/-- A path's record as TUNER.STATUS reports it: the fields of R100 (R117). -/
structure PathReport where
  state : PathState
  role : Role
  station : Station
  phase : Option Phase
  retry : Nat
  fs : Nat
  mp : Nat
  adj : Nat
  q : Nat
  decoded : Decoded
deriving DecidableEq, Repr

def PathRec.report (x : PathRec) : PathReport :=
  ⟨x.state, x.role, x.station, x.phase, x.retry, x.fs, x.mp, x.adj, x.q, x.decoded⟩

/-- A running AF check as TUNER.STATUS reports it (R117). -/
structure CheckReport where
  tried : List Nat
  untried : List Nat
  reference : Nat
deriving DecidableEq, Repr

def AfCheck.report (k : AfCheck) : CheckReport := ⟨k.tried, k.untried, k.reference⟩

/-- The canceller as CALL.STATUS reports it (R166): the prior state in FROZEN only, U and the applied suppression, and of the retained
coefficients which mic sets hold some. -/
structure EchoReport where
  state : EchoState
  prior : Option EchoState
  erle : Nat
  tc : Nat
  tt : Nat
  timer : Option Nat
  target : Int
  applied : Int
  doubleTalk : Bool
  retained : PerMicSet Bool
deriving DecidableEq, Repr

def Echo.report (e : Echo) : EchoReport where
  state := e.state
  prior := if e.state = .frozen then some e.prior else none
  erle := e.erle
  tc := e.tc
  tt := e.tt
  timer := e.timer
  target := e.target
  applied := e.applied
  doubleTalk := e.doubleTalk
  retained := ⟨e.retained.front.isSome, e.retained.rearL.isSome, e.retained.rearR.isSome, e.retained.all.isSome⟩

/-- The results of a DONE reply, one constructor per form the rules give. -/
inductive Result
  | ok
  | identify (family revision : Nat) (running warm : Bool) (map curves eq policy vehicle : Bool)
  | assembled (bytes : Nat)
  | running
  | notices (mask flags : BitVec 64)
  | setFlags (flags : BitVec 64)
  | entertainment (source : Option Source) (state : Option ClaimState)
  | policyRow (e : Effect) (clamped : Bool)
  | zoneStatus (claims : List ClaimReport) (leading : Option Source) (yieldLeft : Nat) (entHeld : Bool)
  | volume (step : Nat) (clamped : Bool)
  | trim (t : Int) (clamped : Bool)
  | levels (vol : Gain) (trim : Int) (duck : Gain) (speed : Int) (hushed : Bool) (lines : List LevelLine)
  | stagedFields (fields : List (ProfileField × Int × Bool))
  | profile (p : Profile) (take : TakeState) (override call : Bool)
  | take (state : TakeState) (changed : Option Bool)
  | discarded (p : Profile)
  | allocated (clip length : Nat)
  | slots (vehicle control : Slot)
  | cursor (c : Cursor)
  | written (accepted position : Nat) (overflow truncated : Bool)
  | samples (l : List Sample) (position : Nat) (atEnd : Bool)
  | sealed (length kept released : Nat)
  | released (pages : Nat)
  | poolStatus (free vehicle other reserve clips : Nat) (vehicleSlot controlSlot : Slot) (capturing : Nat) (c : Cursor)
  | clip (c : ClipReport)
  | enqueued (place : Nat) (e : Entry) (state : VoiceState) (clampedRepeats clampedTrim : Bool)
  | completions (l : List Completion) (left : Nat)
  | flushed (removed appended freed : Nat)
  | skipped (clip remaining : Nat)
  | voiceStatus (state : VoiceState) (fading stalled : Bool) (current : Option Entry) (position passes : Nat) (first : Bool)
      (gapLeft maxWaitLeft : Nat) (behind : List Nat) (completions waiters : Nat)
  | front (s : Station) (role : Role)
  | rear (s : Station) (role : Role) (source : Option Source) (state : Option ClaimState)
  | tunerFlags (f : TunerFlags)
  | tunerSettings (t : TunerSettings) (clamped : List Bool)
  | tunerStatus (p1 p2 : PathReport) (q : Nat) (wishL wishR : Wish) (f : TunerFlags) (check : Option CheckReport) (hold : Nat)
  | stationList (l : List ListLine) (next : Option Nat)
  | stationRecord (bytes : List Byte)
  | revision (r : BitVec 16) (rounded : List (Nat × Nat))
  | presets (l : List (Option Preset))
  | admission (mask : BitVec 32)
  | scanSettings (interval permit admitQ : Nat) (clamped : List Bool)
  | traffic (p1 p2 : Announcement) (c : Capture) (fill : Nat)
  | call (state : CallState) (mode : Zone) (set : MicSet) (flush : Option (Nat × Nat × Nat))
  | callTrims (down up : Int) (clampedDown clampedUp : Bool)
  | echoConfig (tc tt : Nat) (clampedTc clampedTt : Bool)
  | callStatus (state : CallState) (mode : Zone) (set : MicSet) (down up : Int) (ringClip : Option Nat)
      (tag : Option CallState) (route : Route) (echo : EchoReport) (farActive : Bool) (selected : Option Mic)
      (noise : Nat)
  | vehicle (speed age : Nat) (stale override : Bool) (tag : Option CallState) (step : Option Nat)
      (refusal : Option ChimeRefusal) (awaiting : Bool) (completions base emergency : Nat)
  | watch (w : Option Watch)
deriving DecidableEq, Repr

/-- R184: the three outcomes of a request. `refused` may carry numbers that its rule adds to the code. -/
inductive Reply
  | done (r : Result)
  | pending
  | refused (code : RefCode) (info : List Nat)
deriving DecidableEq, Repr

end Sys2Proof.Machine

namespace Sys2Proof.Config

/-- FREE (log 9): the bytes that carry the results of a DONE reply, where the manual gives no layout. -/
opaque resultBytes : Machine.Result → List Byte

/-- FREE (log 9): the bytes that carry what a rule adds to a refusal code (R69, R189); their layout is not given. -/
opaque refusalBytes : Machine.RefCode → List Nat → List Byte

end Sys2Proof.Config

namespace Sys2Proof.Machine

/-- A reply frame: the request's code and sequence bytes and the outcome (R184). -/
structure ReplyFrame where
  code : Byte
  seq : Byte
  reply : Reply
deriving DecidableEq, Repr

/-- A frame built and not yet on the line (R184, R185). -/
inductive TxFrame
  | reply (f : ReplyFrame)
  | notice (count : Byte) (list : BitVec 64)
deriving DecidableEq, Repr

/-- R183: the receiver; FRAME holds the bytes from the marker on. `behind` holds bytes that stand behind a complete frame that has
not been taken; the search goes on there once it has been. -/
inductive Rx
  | hunt
  | frame (bytes : List Byte)
  | behind (bytes : List Byte)
deriving DecidableEq, Repr

/-- R183: a complete frame held for service. -/
structure HeldFrame where
  code : Byte
  seq : Byte
  payload : List Byte
deriving DecidableEq, Repr

/-- R187. -/
inductive OpState
  | startup | run
deriving DecidableEq, Repr

inductive ResetKind
  | cold | warm
deriving DecidableEq, Repr

structure Port where
  op : OpState
  lastReset : ResetKind
  resetPending : Bool
  rx : Rx
  held : Option HeldFrame
  tx : List TxFrame
  flags : BitVec 64
  mask : BitVec 64
  noticeCount : Byte
  assembly : Option (Nat × List Byte)
  lastReply : Option ReplyFrame
  lineOut : Option (List Byte)
deriving DecidableEq, Repr

/-- R183, R185, R187, R188. -/
def Port.reset (kind : ResetKind) : Port where
  op := .startup
  lastReset := kind
  resetPending := false
  rx := .hunt
  held := none
  tx := []
  flags := 0
  mask := 0
  noticeCount := 0
  assembly := none
  lastReply := none
  lineOut := none

/-! ## The whole machine -/

/-- The state: the queue of waiting commands, one structure per block, and the counter of free values (log 3). -/
structure State where
  pending : List Instr
  port : Port
  arb : Arbiter
  rend : Renderer
  bank : Bank
  pool : Pool
  voc : Voices
  tun : Tuner
  sta : Table
  scan : Scan
  traf : Traffic
  call : Call
  veh : Vehicle
  wat : Watches
  free : Nat
deriving DecidableEq, Repr

/-- No command of the part ends in a fault: what the manual turns away is answered with a refusal code, recorded as a chime
refusal or ignored, and each of these is a next state (INVENTORY.md, Faults). -/
inductive Fault
deriving DecidableEq, Repr

/-- Why the model has no meaning for a command. -/
inductive Refusal
  /-- Raised by an arm of exec whose row has no meaning yet; safe. No arm raises it. -/
  | notModelled (mnemonic : String)
deriving DecidableEq, Repr

/-- R21: the arbiter after a cold reset; the rows of the unloaded policy: log 4. -/
def Arbiter.reset : Arbiter where
  zones := PerZone.all ZoneState.empty
  policy := PerZone.all PolicyRows.default
  policyLoaded := false

/-- The part after a cold reset (R187 and the reset rule of each chapter). -/
def State.reset : State where
  pending := []
  port := Port.reset .cold
  arb := Arbiter.reset
  rend := Renderer.reset
  bank := Bank.reset
  pool := Pool.reset
  voc := Voices.reset
  tun := Tuner.reset
  sta := Table.reset
  scan := Scan.reset
  traf := Traffic.reset
  call := Call.reset
  veh := Vehicle.reset
  wat := Watches.reset
  free := 0

/-- What a step or a meaning answers. -/
abbrev Out := Host.Outcome State Fault Refusal

end Sys2Proof.Machine
end

