-- ==== Sys2Proof/Machine/Flags.lean ====
section
/-! DEFINITION. Flag computations: the numbers of the notice flags (R185), the refusal numbers (R184), and the Z, N, C and V of a
watch's comparison with the conditions read from them (R180). -/

namespace Sys2Proof.Machine

/-- R185: the notice flags. -/
inductive Notice
  | allocDone | completion
  | entHeld (z : Zone) | entResumed (z : Zone) | clipped (z : Zone)
  | thermal | tuned | afSwitched
  | rearFollowL | rearFollowR
  | pathFailed (p : Path)
  | stationChanged | taStarted | taEnded | captureStarted | echoState | override
  | watch (n : Nat)
deriving DecidableEq, Repr

/-- R185: the number of each flag. -/
def Notice.num : Notice → Nat
  | .allocDone => 0
  | .completion => 1
  | .entHeld z => 2 + z.num
  | .entResumed z => 6 + z.num
  | .clipped z => 10 + z.num
  | .thermal => 14
  | .tuned => 15
  | .afSwitched => 16
  | .rearFollowL => 17
  | .rearFollowR => 18
  | .pathFailed .p1 => 19
  | .pathFailed .p2 => 20
  | .stationChanged => 21
  | .taStarted => 22
  | .taEnded => 23
  | .captureStarted => 24
  | .echoState => 25
  | .override => 26
  | .watch n => 27 + n

/-- A 64-bit set with one member. -/
def flagBit (n : Nat) : BitVec 64 := BitVec.ofNat 64 (2 ^ n)

/-- R185, R186: the 43 members; a set that names a member above 42 is refused. -/
def flagMembers : BitVec 64 := BitVec.ofNat 64 (2 ^ 43 - 1)

/-- The three set edits on a bit set (00_scope.md, Set edits). -/
def editBits {w : Nat} (op : SetOp) (old named : BitVec w) : BitVec w :=
  match op with
  | .set => old ||| named
  | .clear => old &&& ~~~ named
  | .replace => named

/-- R184: the refusal numbers. -/
def RefCode.num : RefCode → Nat
  | .unknown => 1 | .length => 2 | .range => 3 | .state => 4 | .busy => 5 | .inUse => 6 | .noClip => 7
  | .pathBusy => 8 | .stale => 9 | .locked => 10 | .privileged => 11 | .notStarted => 12
  | .missingTable => 13 | .badTable => 14

/-! ## The comparison of a watch (R180) -/

/-- The 16-bit pattern of a figure. -/
def pattern (v : Int) : BitVec 16 := BitVec.ofInt 16 v

/-- R180: the difference. -/
def watchDiff (v t : Int) : BitVec 16 := pattern v - pattern t

def flagZ (v t : Int) : Bool := watchDiff v t == 0

def flagN (v t : Int) : Bool := (watchDiff v t).msb

/-- R180: set when the subtraction borrows. -/
def flagC (v t : Int) : Bool := decide ((pattern v).toNat < (pattern t).toNat)

/-- R180: set when the signed subtraction overflows. -/
def flagV (v t : Int) : Bool :=
  ((pattern v).msb != (pattern t).msb) && (flagN v t != (pattern v).msb)

/-- R180: the condition's outcome. -/
def condHolds (c : WatchCond) (v t : Int) : Bool :=
  match c with
  | .eq => flagZ v t
  | .ne => !flagZ v t
  | .lt => flagN v t != flagV v t
  | .ge => flagN v t == flagV v t
  | .gt => !flagZ v t && (flagN v t == flagV v t)
  | .le => flagZ v t || (flagN v t != flagV v t)
  | .lo => flagC v t
  | .hs => !flagC v t

/-- R180, R181: one evaluation, and whether the watch fires by it. -/
def evalWatch (v : Int) (w : Watch) : Watch × Bool :=
  let r := condHolds w.cond v w.threshold
  let w := { w with lastValue := some v, lastResult := some r }
  if !r then ({ w with count := 0, armed := true }, false)
  else if !w.armed then (w, false)
  else if w.hold ≤ w.count + 1 then
    ({ w with count := 0, armed := match w.mode with | .edge => false | .level => true }, true)
  else ({ w with count := w.count + 1 }, false)

end Sys2Proof.Machine
end

