-- ==== Sys2Proof/Machine/Operands.lean ====
section
/-! DEFINITION. The operand forms of the commands: how a number names a zone, a source, a voice and so on, clamping and rounding
(00_scope.md, Ranges and clamping), byte order (R190), gains, and the multiplier of R37. -/

namespace Sys2Proof.Machine

/-- 00_scope.md: clamp to a..b. -/
def clampNat (a b x : Nat) : Nat := if x < a then a else if b < x then b else x

def clampInt (a b x : Int) : Int := if x < a then a else if b < x then b else x

/-- Rounds toward plus infinity; the divisor is positive at every use. -/
def ceilDiv (n d : Nat) : Nat := (n + d - 1) / d

/-- R1: a zone identifier outside 0..3 names no zone. -/
def zoneOf : Nat → Option Zone
  | 0 => some .cabin | 1 => some .driver | 2 => some .rearL | 3 => some .rearR | _ => none

/-- R27: a source outside 0..11 names no source. -/
def sourceOf : Nat → Option Source
  | 0 => some .mediaA | 1 => some .mediaB | 2 => some .radio1 | 3 => some .radio2
  | 4 => some .traffic1 | 5 => some .traffic2 | 6 => some .voiceChime | 7 => some .voicePrompt
  | 8 => some .voiceTraffic | 9 => some .voiceRing | 10 => some .call | 11 => some .telem | _ => none

/-- R24. -/
def kindOf : Nat → Option Kind
  | 0 => some .media | 1 => some .voice | 2 => some .call | _ => none

/-- R81. -/
def voiceOf : Nat → Option Voice
  | 0 => some .chime | 1 => some .prompt | 2 => some .traffic | 3 => some .ring | _ => none

/-- R133, R192: FM 0, AM 1. -/
def bandOf : Nat → Option Band
  | 0 => some .fm | 1 => some .am | _ => none

/-- R84, R191: a zone mask has bit z set for zone z; an empty mask, or a bit above 3, is none. -/
def maskOf (m : Nat) : Option ZoneSet :=
  if m = 0 ∨ 16 ≤ m then none
  else some ⟨m.testBit 0, m.testBit 1, m.testBit 2, m.testBit 3⟩

/-- R19: the values of the source field and the zones that accept them; the inner `none` is NONE. -/
def selectOf (z : Zone) (v : Nat) : Option (Option Source) :=
  match z, v with
  | _, 255 => some none
  | .driver, _ => none
  | _, 0 => some (some .mediaA)
  | _, 1 => some (some .mediaB)
  | _, 2 => some (some .radio1)
  | _, _ => none

/-- R58, R66: clip numbers are 1..63. -/
def clipNumber (c : Nat) : Bool := decide (1 ≤ c ∧ c ≤ 63)

/-! ## Frequencies -/

def Band.lo : Band → Nat
  | .fm => 8750 | .am => 522

def Band.hi : Band → Nat
  | .fm => 10800 | .am => 1710

def Band.step : Band → Nat
  | .fm => 5 | .am => 9

/-- R106: within the band's range. -/
def Band.holds (b : Band) (f : Nat) : Bool := decide (Band.lo b ≤ f ∧ f ≤ Band.hi b)

/-- R106: the nearest grid value; no integer lies halfway. -/
def Band.round (b : Band) (f : Nat) : Nat :=
  Band.lo b + Band.step b * ((f - Band.lo b + Band.step b / 2) / Band.step b)

/-- R119: a frequency of the band: within its range and on its grid. -/
def Band.owns (b : Band) (f : Nat) : Bool := Band.holds b f && decide (Band.round b f = f)

/-- R113: one grid step, wrapping from one end of the band to the other. -/
def Band.next (b : Band) (d : SeekDir) (f : Nat) : Nat :=
  match d with
  | .up => if Band.hi b ≤ f then Band.lo b else f + Band.step b
  | .down => if f ≤ Band.lo b then Band.hi b else f - Band.step b

/-! ## Bytes (R190: two-byte fields high byte first) -/

def hiByte (n : Nat) : Byte := BitVec.ofNat 8 (n / 256)

def loByte (n : Nat) : Byte := BitVec.ofNat 8 n

def word2 (hi lo : Byte) : Nat := hi.toNat * 256 + lo.toNat

/-- A signed byte. -/
def int1 (b : Byte) : Int := b.toInt

/-- A signed 16-bit field, high byte first. -/
def int2 (hi lo : Byte) : Int := (hi ++ lo).toInt

/-- A signed 32-bit field, high byte first. -/
def int4 (a b c d : Byte) : Int := (a ++ b ++ c ++ d).toInt

/-! ## Gains -/

/-- 00_scope.md, Gains: mute lies below every number. -/
def Gain.below : Gain → Gain → Bool
  | none, none => false
  | none, some _ => true
  | some _, none => false
  | some a, some b => decide (a < b)

/-- R8: the level of a claim state. -/
def levelOf : ClaimState → Gain
  | .audible => some 0
  | .ducked d => some (-(d : Int))
  | .held => none
  | .waiting => none

/-- R10: the duck term of a non-shadow claim. -/
def duckTerm (c : ClaimState) : Gain := levelOf c

/-! ## The multiplier of R37 -/

/-- Whether M x 2^-20 is at or below 10^(e/den) rounded half up: (2M - 1) / 2^21 <= 10^(e/den), in whole numbers. -/
def multiplierFits (den : Nat) (e : Int) (m : Nat) : Bool :=
  match m with
  | 0 => true
  | k + 1 => decide ((2 * k + 1) ^ den * 10 ^ (-e).toNat ≤ 2 ^ (21 * den) * 10 ^ e.toNat)

/-- The largest number of the given bits that fits, most significant bit first. -/
def multiplierSearch (den : Nat) (e : Int) : List Nat → Nat → Nat
  | [], acc => acc
  | b :: bs, acc =>
    multiplierSearch den e bs (if multiplierFits den e (acc + 2 ^ b) then acc + 2 ^ b else acc)

/-- 10^(e/den) in units of 2^-20, a value halfway rounded upward. -/
def powerOfTen (den : Nat) (e : Int) : Nat :=
  multiplierSearch den e [22, 21, 20, 19, 18, 17, 16, 15, 14, 13, 12, 11, 10, 9, 8, 7, 6, 5, 4, 3, 2, 1, 0] 0

/-- R37: the multiplier of a gain, in units of 2^-20. -/
def multiplier : Gain → Nat
  | none => 0
  | some a => powerOfTen 80 a

/-- R165: the multiplier of a gain given in eighths of a qdB. -/
def multiplierEighths (e : Int) : Nat := powerOfTen 640 e

/-! ## Lists -/

/-- The list with the entry at `i` replaced by `f` of it; unchanged where there is none. -/
def updateAt {α : Type} (f : α → α) : Nat → List α → List α
  | _, [] => []
  | 0, a :: as => f a :: as
  | i + 1, a :: as => a :: updateAt f i as

def sumInt (l : List Int) : Int := l.foldl (· + ·) 0

def sumRat (l : List Rat) : Rat := l.foldl (· + ·) 0

def sumNat (l : List Nat) : Nat := l.foldl (· + ·) 0

/-- The first `n` numbers of a list, 0 where it is shorter. -/
def takePad (n : Nat) (l : List Int) : List Int := l.take n ++ List.replicate (n - l.length) 0

end Sys2Proof.Machine
end

