-- ==== Sys2Proof/Machine/LinkFrames.lean ====
section
/-! DEFINITION. The control link's frames: the receiver with its CRC and its search (R183), and the frames that leave as bytes
(R184, R190). -/

namespace Sys2Proof.Machine

/-! ## The frame receiver (R183) -/

/-- R183: one bit of the CRC-16 of polynomial 0x1021. -/
def crcBit (r : BitVec 16) : BitVec 16 := if r.msb then (r <<< 1) ^^^ 0x1021#16 else r <<< 1

def crcByte (r : BitVec 16) (b : Byte) : BitVec 16 :=
  let x := r ^^^ ((b.zeroExtend 16) <<< 8)
  crcBit (crcBit (crcBit (crcBit (crcBit (crcBit (crcBit (crcBit x)))))))

/-- R183: the CRC-16 of a list of bytes, from 0xFFFF. -/
def crc16 (l : List Byte) : BitVec 16 := l.foldl crcByte 0xFFFF#16

/-- R183: the two CRC bytes, high byte first. -/
def crcBytes (l : List Byte) : List Byte := [hiByte (crc16 l).toNat, loByte (crc16 l).toNat]

/-- R183: what a buffer that begins with the bytes after a marker is. -/
inductive FrameCheck
  | more
  | discard
  | whole (f : HeldFrame)
deriving DecidableEq, Repr

/-- R183, R190: the check of the bytes after a marker. -/
def checkFrame : List Byte → FrameCheck
  | [] => .more
  | len :: rest =>
    if 250 < len.toNat then .discard
    else if rest.length < len.toNat + 4 then .more
    else
      match rest with
      | code :: seq :: body =>
        let payload := body.take len.toNat
        if (body.drop len.toNat).take 2 = crcBytes (len :: code :: seq :: payload) then .whole ⟨code, seq, payload⟩
        else .discard
      | _ => .more

/-- R183: the bytes of a complete frame behind its marker: length, code, sequence, payload and CRC. -/
def HeldFrame.span (f : HeldFrame) : Nat := f.payload.length + 5

/-- R183: the receiver with bytes behind a complete frame. -/
def Rx.keep : List Byte → Rx
  | [] => .hunt
  | b :: bs => .behind (b :: bs)

/-- R183: the search through a buffer; `gap` says that the line has paused for more than 1 ms, so that an unfinished frame is
discarded too. The bytes behind a complete frame are kept, and the search goes on there once the frame has been taken. -/
def hunt (gap : Bool) : List Byte → Rx × Option HeldFrame
  | [] => (.hunt, none)
  | b :: bs =>
    if b = Config.marker then
      match checkFrame bs with
      | .more => if gap then hunt gap bs else (.frame (b :: bs), none)
      | .discard => hunt gap bs
      | .whole f => (Rx.keep (bs.drop f.span), some f)
    else hunt gap bs

/-- R183: the bytes collected so far. -/
def Rx.bytes : Rx → List Byte
  | .hunt => []
  | .frame l => l
  | .behind l => l

/-- R183: bytes reach the receiver, or a gap. Bytes that come while a frame is held wait behind it, and the gap timer stands still. -/
def Port.receive (p : Port) (gap : Bool) (bytes : List Byte) : Port :=
  match p.held with
  | some _ => { p with rx := Rx.keep (p.rx.bytes ++ bytes) }
  | none =>
    let r := hunt gap (p.rx.bytes ++ bytes)
    { p with rx := r.1, held := r.2 }

/-- R183: the held frame has been taken, and the search goes on behind it. -/
def Port.spend (p : Port) : Port := Port.receive { p with held := none } false []

/-- R184, R190: a request of this code and sequence byte has been taken. Its frame is spent; a held frame of another request waits on
(log 9). -/
def Port.spendFor (p : Port) (code seq : Byte) : Port :=
  match p.held with
  | some f => if f.code = code ∧ f.seq = seq then p.spend else p
  | none => p.spend

/-! ## Frames that leave (R184, R185, R190) -/

/-- R190: a frame on the line, for a payload of 250 bytes at most. -/
def lineFrame (code seq : Byte) (payload : List Byte) : List Byte :=
  let body := BitVec.ofNat 8 payload.length :: code :: seq :: payload
  Config.marker :: body ++ crcBytes body

/-- R190: 64 flags in eight bytes: bit j of byte k is flag 8k + j. -/
def flagBytes (l : BitVec 64) : List Byte := (List.range 8).map (fun k => l.extractLsb' (8 * k) 8)

/-- R190: a NOTICE frame on the line. -/
def noticeBytes (count : Byte) (l : BitVec 64) : List Byte := lineFrame 0xF0 count (flagBytes l)

/-- R184, R186, R190, R192: the bytes that carry a DONE reply's results; free where the manual gives no layout (log 9). -/
def Result.bytes : Result → List Byte
  | .ok => []
  | .notices mask flags => flagBytes mask ++ flagBytes flags
  | .setFlags flags => flagBytes flags
  | .stationRecord bytes => bytes.tail
  | r => (Config.resultBytes r).take 249

/-- R190: a reply's payload: the outcome, and after REFUSED the refusal code. -/
def Reply.payload : Reply → List Byte
  | .done r => 0 :: r.bytes
  | .pending => [1]
  | .refused c [] => [2, BitVec.ofNat 8 c.num]
  | .refused c info => 2 :: BitVec.ofNat 8 c.num :: (Config.refusalBytes c info).take 248

/-- R184, R190: a reply frame on the line. -/
def ReplyFrame.bytes (f : ReplyFrame) : List Byte := lineFrame f.code f.seq f.reply.payload

end Sys2Proof.Machine
end

