-- ==== Sys2Proof/Machine/Ops.lean ====
section
/-! DEFINITION. The named updates of the state and the operations every block shares: raising a notice flag, sending a reply, taking
a request for service, delivering a quantity to the watch unit. -/

namespace Sys2Proof.Machine

/-! ## One update per block -/

def State.mapPort (s : State) (f : Port → Port) : State := { s with port := f s.port }
def State.mapArb (s : State) (f : Arbiter → Arbiter) : State := { s with arb := f s.arb }
def State.mapRend (s : State) (f : Renderer → Renderer) : State := { s with rend := f s.rend }
def State.mapBank (s : State) (f : Bank → Bank) : State := { s with bank := f s.bank }
def State.mapPool (s : State) (f : Pool → Pool) : State := { s with pool := f s.pool }
def State.mapVoc (s : State) (f : Voices → Voices) : State := { s with voc := f s.voc }
def State.mapTun (s : State) (f : Tuner → Tuner) : State := { s with tun := f s.tun }
def State.mapSta (s : State) (f : Table → Table) : State := { s with sta := f s.sta }
def State.mapScan (s : State) (f : Scan → Scan) : State := { s with scan := f s.scan }
def State.mapTraf (s : State) (f : Traffic → Traffic) : State := { s with traf := f s.traf }
def State.mapCall (s : State) (f : Call → Call) : State := { s with call := f s.call }
def State.mapVeh (s : State) (f : Vehicle → Vehicle) : State := { s with veh := f s.veh }
def State.mapWat (s : State) (f : Watches → Watches) : State := { s with wat := f s.wat }

/-! ## Notices (R185) -/

def TxFrame.isReply : TxFrame → Bool
  | .reply _ => true
  | .notice _ _ => false

/-- R185: the flags that are set and enabled. -/
def Port.visible (p : Port) : BitVec 64 := p.flags &&& p.mask

def Port.noticeWaits (p : Port) : Bool := p.tx.any (fun f => !f.isReply)

/-- R185: the list of a waiting frame is brought up to date. -/
def TxFrame.relist (l : BitVec 64) : TxFrame → TxFrame
  | .reply f => .reply f
  | .notice c _ => .notice c l

def Port.refresh (p : Port) : Port := { p with tx := p.tx.map (TxFrame.relist p.visible) }

/-- R185: a flag has become visible: the waiting frame is brought up to date, or a new one is built with the next count
(log 16). -/
def Port.buildNotice (p : Port) : Port :=
  if p.noticeWaits then p.refresh
  else { p with tx := p.tx ++ [.notice (p.noticeCount + 1) p.visible], noticeCount := p.noticeCount + 1 }

/-- R185: a raise. -/
def Port.raise (p : Port) (n : Notice) : Port :=
  if p.flags.getLsbD n.num then p
  else
    let p := { p with flags := p.flags ||| flagBit n.num }
    if p.mask.getLsbD n.num then p.buildNotice else p

def State.raise (s : State) (n : Notice) : State := s.mapPort (·.raise n)

/-! ## The transmit order (R184) -/

/-- What is left once the last reply, and with it every frame built before it, has left (log 17). -/
def afterReplies : List TxFrame → List TxFrame
  | [] => []
  | f :: fs => if fs.any TxFrame.isReply then afterReplies fs else if f.isReply then fs else f :: fs

/-- What is left once the waiting notice, and with it every frame built before it, has left (log 17). -/
def afterNotices : List TxFrame → List TxFrame
  | [] => []
  | f :: fs => if fs.any (fun g => !g.isReply) then afterNotices fs else if f.isReply then f :: fs else fs

/-- R184: the reply that waits; there is one at most. -/
def waitingReply : List TxFrame → Option ReplyFrame
  | [] => none
  | .reply f :: _ => some f
  | .notice _ _ :: fs => waitingReply fs

/-- R184: the waiting reply leaves on the line, and with it every frame built before it (log 17). -/
def Port.replyLeaves (p : Port) : Port :=
  match waitingReply p.tx with
  | some f => { p with tx := afterReplies p.tx, lineOut := some f.bytes }
  | none => p

/-- R184: a request is taken once the reply before it has begun to leave. -/
def State.taking (s : State) : State := s.mapPort Port.replyLeaves

/-- R184: the reply of a request taken for service. The request's frame in the receiver is spent. -/
def Port.sendReply (p : Port) (f : ReplyFrame) : Port :=
  { p.spendFor f.code f.seq with tx := p.tx ++ [.reply f], lastReply := some f }

def State.reply (s : State) (code q : Byte) (r : Reply) : State := s.mapPort (·.sendReply ⟨code, q, r⟩)

/-! ## Taking a request for service -/

def State.running (s : State) : Bool := s.port.op == .run

/-- A request's code byte: class in bits 7..4, verb in bits 3..0 (R190). -/
def codeByte (cls verb : Nat) : Byte := BitVec.ofNat 8 (cls * 16 + verb)

/-- When a request is refused before its owner sees it (R175, R187). -/
inductive Gate
  | always
  | runOnly
  | lockable
deriving DecidableEq, Repr

/-- R175, R187: the refusal before the owner's own checks, if any. -/
def gateRefusal (g : Gate) (s : State) : Option RefCode :=
  match g with
  | .always => none
  | .runOnly => if s.running then none else some .notStarted
  | .lockable => if !s.running then some .notStarted else if s.veh.override then some .locked else none

/-- R184, R187, R189: a request taken for service. Between an accepted SYS.RESET and its effect no frame is taken; otherwise the
gate's refusal or the owner's body gives the reply. -/
def serve (cls verb : Nat) (q : Byte) (g : Gate) (s : State) (body : State → Reply × State) : Out :=
  if s.port.resetPending then .next s
  else
    match gateRefusal g s with
    | some c => .next (s.taking.reply (codeByte cls verb) q (.refused c []))
    | none =>
      let r := body s.taking
      .next (r.2.reply (codeByte cls verb) q r.1)

/-- A refusal that leaves the state as it was. -/
def refuse (c : RefCode) (s : State) : Reply × State := (.refused c [], s)

/-- A DONE that leaves the state as it was. -/
def report (r : Result) (s : State) : Reply × State := (.done r, s)

/-- R189: the vehicle port takes records in RUN, and none between an accepted SYS.RESET and its effect. -/
def State.takesRecords (s : State) : Bool := s.running && !s.port.resetPending

/-! ## Watch deliveries (R179 to R181) -/

/-- Every watch of the list that names the quantity is evaluated; the fires come with their slot numbers, in slot order. -/
def deliverTo (q : Quantity) (v : Int) : Nat → List (Option Watch) → List (Option Watch) × List (Nat × WatchAction)
  | _, [] => ([], [])
  | n, none :: ws =>
    let r := deliverTo q v (n + 1) ws
    (none :: r.1, r.2)
  | n, some w :: ws =>
    let r := deliverTo q v (n + 1) ws
    if w.quantity = q then
      let e := evalWatch v w
      (some e.1 :: r.1, if e.2 then (n, w.action) :: r.2 else r.2)
    else (some w :: r.1, r.2)

/-- R179: a delivery. A fire is owed to WATCH_FIRE (log 2). -/
def Watches.deliver (w : Watches) (q : Quantity) (v : Int) : Watches :=
  let r := deliverTo q v 0 w.slots
  { w with slots := r.1, owed := w.owed ++ r.2 }

def State.deliver (s : State) (q : Quantity) (v : Int) : State := s.mapWat (·.deliver q v)

/-- A delivery where a figure has changed. -/
def State.deliverChange (s : State) (q : Quantity) (old new : Int) : State :=
  if old = new then s else s.deliver q new

/-! ## Free values (log 3) -/

/-- Takes the next free value's index. -/
def State.spendFree (s : State) : State := { s with free := s.free + 1 }

end Sys2Proof.Machine
end

