-- ==== Sys2Proof/Machine/Gains.lean ====
section
/-! DEFINITION. The gain arithmetic of 02_gain_arithmetic.md: the terms R24 to R33, the target R23, the ramp R34, the yield, hush and
jump rates R35, R36, and the queries of the claim lists and profiles they read. -/

namespace Sys2Proof.Machine

/-! ## Claims as the renderer reads them -/

/-- R5. -/
def classOf : Source → ClaimClass
  | .telem => .emergency
  | .voiceChime => .chime
  | .call => .call
  | .voiceRing => .ring
  | .voicePrompt => .prompt
  | .traffic1 | .traffic2 | .voiceTraffic => .traffic
  | .mediaA | .mediaB | .radio1 | .radio2 => .entertainment

/-- R5. -/
def ClaimClass.priority : ClaimClass → Nat
  | .emergency => 8 | .chime => 7 | .call => 6 | .ring => 5 | .prompt => 4 | .traffic => 3 | .entertainment => 1

def State.zone (s : State) (z : Zone) : ZoneState := s.arb.zones.get z

def State.claim (s : State) (z : Zone) (src : Source) : Option Claim :=
  (s.zone z).claims.find? (fun c => c.source == src)

/-- The zone's ENTERTAINMENT claim; R4 keeps at most one. -/
def State.entClaim (s : State) (z : Zone) : Option Claim :=
  (s.zone z).claims.find? (fun c => c.cls == .entertainment)

def State.profile (s : State) (z : Zone) : Profile := s.bank.current.get z

def ClaimState.sounds : ClaimState → Bool
  | .audible => true
  | .ducked _ => true
  | .held => false
  | .waiting => false

/-! ## The loudspeaker map (R45) -/

/-- What an entry of the unloaded map reads as; no channel is rendered before a map is loaded. -/
def ChannelEntry.absent : ChannelEntry := ⟨.x, .c, 0, 1, 256, 0⟩

def Bank.entry (b : Bank) (k : Nat) : ChannelEntry := b.map.getD k ChannelEntry.absent

/-- R45: the row H channels in channel-number order. -/
def rowH : Nat → List ChannelEntry → List Nat
  | _, [] => []
  | k, e :: es => if e.row = .h then k :: rowH (k + 1) es else rowH (k + 1) es

/-- R1: the channels a zone renders to; a headphone pair is numbered 0 (left) and 1 (right) (log 25). -/
def Bank.channels (b : Bank) : Zone → List Nat
  | .cabin => List.range 22
  | .driver => rowH 0 b.map
  | .rearL => [0, 1]
  | .rearR => [0, 1]

/-- R22: the side of a zone's channel; the left headphone channel is side L, the right one side R. -/
def Bank.side (b : Bank) (z : Zone) (k : Nat) : Side :=
  if z.rear then (if k = 0 then .l else .r) else (b.entry k).side

/-! ## The terms -/

/-- R25: the volume kind of a source's class. -/
def sourceKind : Source → Option Kind
  | .mediaA | .mediaB | .radio1 | .radio2 | .traffic1 | .traffic2 => some .media
  | .voiceTraffic | .voicePrompt | .voiceRing => some .voice
  | .call | .telem => some .call
  | .voiceChime => none

def Profile.curve (p : Profile) : Kind → Nat
  | .media => p.mediaCurve | .voice => p.voiceCurve | .call => p.callCurve

def Bank.curveAt (b : Bank) (c step : Nat) : Int := (b.curves.getD c []).getD step 0

/-- R25: Vol of a kind in a zone. -/
def State.vol (s : State) (z : Zone) (k : Kind) : Gain :=
  let step := (s.rend.volume.get z).get k
  if step = 0 then none else some (s.bank.curveAt ((s.profile z).curve k) step)

/-- R179: the figure of VOLUME(zone, kind). -/
def State.volFigure (s : State) (z : Zone) (k : Kind) : Int := (s.vol z k).getD (-32768)

/-- R25: the volume term of a source. -/
def State.volTerm (s : State) (z : Zone) (src : Source) : Gain :=
  match sourceKind src with
  | none => some 0
  | some k => s.vol z k

/-- R29: the value of S. -/
def State.speedValue (s : State) : Int :=
  let p := s.bank.current.cabin
  min (p.smax : Int) ((p.slope * (s.veh.speed - p.v0) / 10 : Nat) : Int)

/-- R29: S at a mix point. -/
def State.speedTerm (s : State) (z : Zone) (src : Source) : Int :=
  match z, classOf src with
  | .cabin, .chime => 0
  | .cabin, .emergency => 0
  | .cabin, _ => s.speedValue
  | _, _ => 0

/-- R30. -/
def balanceTerm (b : Int) : Side → Int
  | .l => if 0 < b then -8 * b else 0
  | .r => if b < 0 then -8 * (-b) else 0
  | .c => 0

/-- R31. -/
def fadeTerm (f : Int) : Row → Int
  | .f => if f < 0 then -8 * (-f) else 0
  | .r => if 0 < f then -8 * f else 0
  | .x => if 0 < f then -8 * f else 0
  | .h => 0

/-- R31: F at a channel of a zone. -/
def State.fadeAt (s : State) (z : Zone) (k : Nat) : Int :=
  match z with
  | .cabin => fadeTerm s.bank.current.cabin.fade (s.bank.entry k).row
  | _ => 0

/-- R32: P at a channel of a zone. -/
def State.trimAt (s : State) (z : Zone) (k : Nat) : Int := if z.rear then 0 else (s.bank.entry k).trim

/-- R33: Q at a mix point. -/
def State.privacyTerm (s : State) (z : Zone) (src : Source) (k : Nat) : Gain :=
  match z with
  | .cabin =>
    if classOf src = .entertainment ∧ (s.bank.entry k).row = .r ∧
        ((s.entClaim .rearL).isSome ∨ (s.entClaim .rearR).isSome) then
      let q := s.bank.current.cabin.privacy
      if q = 480 then none else some (-(q : Int))
    else some 0
  | _ => some 0

/-- R41: L at a channel of a zone. -/
def State.reductionAt (s : State) (z : Zone) (k : Nat) : Nat :=
  if z.rear then 0 else (s.rend.thermal.getD k ⟨0, 0, 0⟩).reduction

/-- R28: D, mute for a source without a claim; a shadow claim's is the term of its state (log 25). -/
def State.duckOf (s : State) (z : Zone) (src : Source) : Gain :=
  match s.claim z src with
  | none => none
  | some c => duckTerm c.state

/-- A sum of gain terms, mute if either is (R23). -/
def Gain.add : Gain → Gain → Gain
  | some a, some b => some (a + b)
  | _, _ => none

/-- R23: the sum of the nine terms. -/
def State.gainSum (s : State) (z : Zone) (src : Source) (k : Nat) : Gain :=
  Gain.add (s.volTerm z src)
    (Gain.add (s.duckOf z src)
      (Gain.add (s.privacyTerm z src k)
        (some ((s.rend.trims.get z).get src + s.speedTerm z src
          + balanceTerm (s.profile z).balance (s.bank.side z k) + s.fadeAt z k + s.trimAt z k
          - (s.reductionAt z k : Int)))))

/-- R23: the resolution of the sum; `top` is +48, or the headphone cap of a rear zone. -/
def resolveGain (top : Int) : Gain → Gain
  | none => none
  | some g => if g < -480 then none else if top < g then some top else some g

def State.gainTop (s : State) (z : Zone) : Int := if z.rear then (s.profile z).cap else 48

/-- R23, R36: the target of a mix point: mute for a hushed source, for a source without a claim and for a shadow claim. DESIGN CHOICE
(log 25): R36 makes the target mute from the next render frame on, and the G that ZONE.LEVELS reports is mute from the hush order on, before
that frame, and the full target from the lift on. -/
def State.target (s : State) (z : Zone) (src : Source) (k : Nat) : Gain :=
  if s.rend.hush.get src then none
  else
    match s.claim z src with
    | none => none
    | some c => if c.shadow then none else resolveGain (s.gainTop z) (s.gainSum z src k)

/-! ## Ramps (R34, R35, R36) -/

/-- R34: one frame of the ramp at rate r. -/
def rampGain (r : Nat) (a g : Gain) : Gain :=
  match a, g with
  | none, none => none
  | none, some g => some (if g < -480 + r then g else -480 + r)
  | some a, none => if a ≤ -480 then none else some (max (-480) (a - r))
  | some a, some g => if a ≤ g then some (min g (a + r)) else some (max g (a - r))

/-- R34: a lowered headphone cap. -/
def capGain (top : Int) : Gain → Gain
  | none => none
  | some a => if top < a then some top else some a

/-- The gain a mix point's next move starts from: mute where it is to start again (R4, R47), the applied gain otherwise. -/
def MixPoint.level (m : MixPoint) : Gain := if m.restart then none else m.applied

/-- R34 to R36: a mix point at the start of a render frame, given the target, the zone's ramp rate and whether its source is
hushed and its claim marked. A jump goes before a hush rate and before a start from mute, a mark that outlasts a hush keeps its yield
rate, and a source that is withdrawn or replaced while it is hushed falls at the hush rate (log 25). -/
def MixPoint.frame (m : MixPoint) (g : Gain) (ramp : Nat) (hushed marked : Bool) (cap : Option Int) : MixPoint :=
  let a := match cap with | none => m.level | some t => capGain t m.level
  if m.jump then { m with target := g, applied := g, jump := false, restart := false }
  else
    let r := if hushed then m.hushRate.getD ramp else if marked then m.yieldRate.getD ramp else ramp
    { m with target := g, applied := rampGain r a g, restart := false }

/-- The mix points of a source in a zone, one after another along the zone's channels. The headphone cap is the one that is current at
the frame: a lower one that was taken and replaced between two frames moves nothing (R34, log 25). -/
def framePoints (s : State) (z : Zone) (src : Source) (marked : Bool) : List Nat → List MixPoint → List MixPoint
  | k :: ks, m :: ms =>
    m.frame (s.target z src k) (s.profile z).rampRate (s.rend.hush.get src) marked
      (if z.rear then some (s.profile z).cap else none) :: framePoints s z src marked ks ms
  | [], ms => ms
  | _ :: _, [] => []

def frameSource (s : State) (z : Zone) (src : Source) : List MixPoint :=
  framePoints s z src (match s.claim z src with | some c => c.yielding | none => false)
    (s.bank.channels z) ((s.rend.mix.get z).get src)

/-- R34: every mix point moves. -/
def State.ramps (s : State) : State :=
  let at_ := fun z => PerSource.ofFn (frameSource s z)
  s.mapRend (fun r => { r with mix := ⟨at_ .cabin, at_ .driver, at_ .rearL, at_ .rearR⟩ })

/-! ## Rates handed by the arbiter and the owners -/

def Renderer.mapMix (r : Renderer) (z : Zone) (src : Source) (f : MixPoint → MixPoint) : Renderer :=
  { r with mix := r.mix.set z ((r.mix.get z).set src (((r.mix.get z).get src).map f)) }

/-- R12: the yield rate of a mix point made quieter; it goes before a jump that no frame has made yet (log 25). -/
def MixPoint.startYield (y : Nat) (m : MixPoint) : MixPoint :=
  { m with jump := false,
           yieldRate := match m.level with
             | none => none
             | some a => some (max 1 (ceilDiv (a + 480).toNat y)) }

/-- R16: with Y = 0 the target becomes the applied gain at the next frame. -/
def MixPoint.startJump (m : MixPoint) : MixPoint := { m with jump := true }

/-- R35: the rate returns to the zone's ramp rate. A jump that no frame has made yet is dropped: where the claim is raised again, is
withdrawn or gives its place to another, the mix point goes on from the applied gain that stands (log 25). -/
def MixPoint.plain (m : MixPoint) : MixPoint := { m with yieldRate := none, jump := false }

/-- R35: the mark is gone and a jump still to come stands. -/
def MixPoint.unmark (m : MixPoint) : MixPoint := { m with yieldRate := none }

/-- R4, R47: a mix point starts from mute at the next render frame; until then its applied gain stands (R43). -/
def MixPoint.fromMute (m : MixPoint) : MixPoint := { m with restart := true, yieldRate := none, jump := false }

/-- R13, R16: the claim turns newly audible. Where the frame that was to make its jump to mute has not come, the mix point starts from
mute at that frame; otherwise it goes on from the gain that it has reached (log 25). -/
def MixPoint.startAudible (m : MixPoint) : MixPoint := if m.jump then m.fromMute else m.plain

/-- R36: the hush rate of a mix point. -/
def MixPoint.startHush (n : Nat) (m : MixPoint) : MixPoint :=
  { m with hushRate := match m.level with
      | none => none
      | some a => some (ceilDiv (a + 480).toNat n) }

def MixPoint.endHush (m : MixPoint) : MixPoint := { m with hushRate := none }

def Renderer.mapSource (r : Renderer) (src : Source) (f : MixPoint → MixPoint) : Renderer :=
  (((r.mapMix .cabin src f).mapMix .driver src f).mapMix .rearL src f).mapMix .rearR src f

/-- R36: a hush order with a fade time of n ms. -/
def State.orderHush (s : State) (src : Source) (n : Nat) : State :=
  if s.rend.hush.get src then s
  else s.mapRend (fun r => { r.mapSource src (MixPoint.startHush n) with hush := r.hush.set src true })

/-- R36: the owner lifts a hush. -/
def State.liftHush (s : State) (src : Source) : State :=
  if s.rend.hush.get src then
    s.mapRend (fun r => { r.mapSource src MixPoint.endHush with hush := r.hush.set src false })
  else s

/-! ## Volume deliveries (R179) -/

/-- R179: what a delivery of VOLUME(zone, kind) follows a change of: the step, the curve index, or the entry in use. -/
def State.volSetting (s : State) (z : Zone) (k : Kind) : Nat × Nat × Int :=
  ((s.rend.volume.get z).get k, (s.profile z).curve k, s.volFigure z k)

/-- R179: delivers one VOLUME of the zone if its setting in `new` differs from that in `old`, whether or not the figure differs. -/
def State.deliverVolume (s old new : State) (z : Zone) (k : Kind) : State :=
  if old.volSetting z k = new.volSetting z k then s else s.deliver (.volume z k) (new.volFigure z k)

/-- R179: the deliveries of the three VOLUMEs of the zone, one for an event. -/
def State.deliverVolumes (s old : State) (z : Zone) : State := Kind.all.foldl (fun t k => t.deliverVolume old s z k) s

/-! ## Loudness (R39) -/

/-- R39: LB in qdB of a zone. -/
def State.boost (s : State) (z : Zone) : Nat :=
  match s.vol z .media with
  | none => 48
  | some v => (clampInt 0 48 (Int.fdiv (-v - 160) 4)).toNat

end Sys2Proof.Machine
end

