-- ==== Sys2Proof/Machine/Memory.lean ====
section
/-! DEFINITION. The sample memory of the clip pool (R62): a list of (sample address, sample) in one canonical form, addresses strictly
rising and no entry equal to what an unlisted address reads as (log 5). -/

namespace Sys2Proof.Machine

/-- The pool's samples. -/
abbrev Memory := List (Nat × Sample)

/-- What an unlisted address reads as: the manual gives no power-on contents, and nothing reads a sample before it is written
(R62, R80); log 5. -/
def Memory.unlisted : Sample := 0

def Memory.read : Memory → Nat → Sample
  | [], _ => Memory.unlisted
  | (a, v) :: m, k => if a = k then v else Memory.read m k

/-- A write keeps the canonical form: writing what an unlisted address reads as removes the entry. -/
def Memory.write : Memory → Nat → Sample → Memory
  | [], k, v => if v = Memory.unlisted then [] else [(k, v)]
  | (a, w) :: m, k, v =>
    if a < k then (a, w) :: Memory.write m k v
    else if a = k then (if v = Memory.unlisted then m else (a, v) :: m)
    else if v = Memory.unlisted then (a, w) :: m else (k, v) :: (a, w) :: m

/-- Every address is above `lo`, they rise strictly, and no entry is the unlisted value. -/
def Memory.above : Option Nat → Memory → Bool
  | _, [] => true
  | lo, (a, v) :: m =>
    (match lo with | none => true | some l => decide (l < a)) && (v != Memory.unlisted) && Memory.above (some a) m

/-- The canonical form. -/
def Memory.wf (m : Memory) : Bool := Memory.above none m

/-- R63: the sample address of position i of a clip whose page list is given. -/
def sampleAddress (pages : List Nat) (i : Nat) : Nat := pages.getD (i / 1024) 0 * 1024 + i % 1024

/-- Stores samples at positions i, i + 1, … of a clip. -/
def Memory.store (pages : List Nat) : Memory → Nat → List Sample → Memory
  | m, _, [] => m
  | m, i, v :: vs => Memory.store pages (m.write (sampleAddress pages i) v) (i + 1) vs

/-- The n samples from position i of a clip. -/
def Memory.load (pages : List Nat) (m : Memory) (i n : Nat) : List Sample :=
  (List.range n).map (fun j => m.read (sampleAddress pages (i + j)))

end Sys2Proof.Machine
end

