-- ==== Sys2Proof/Machine/PoolOps.lean ====
section
/-! DEFINITION. What the pool allocator does for its neighbours (04_the_clip_pool.md): counts, grants, frees, grant attempts, and
the capture's open, extension and close. -/

namespace Sys2Proof.Machine

/-- The record of a clip number; FREE outside 1..63. -/
def Pool.clip (p : Pool) (n : Nat) : Clip := if n = 0 then Clip.empty else p.clips.getD (n - 1) Clip.empty

def Pool.setClip (p : Pool) (n : Nat) (c : Clip) : Pool :=
  if n = 0 then p else { p with clips := p.clips.set (n - 1) c }

def Clip.length (c : Clip) : Nat := c.pages.length * Config.pageSamples

/-- R79: the fields of a clip's record; which pages they are cannot be observed (R62). -/
def Clip.report (c : Clip) : ClipReport :=
  ⟨c.state, c.owner, c.rate, c.pages.length, c.length, c.fill, c.sealedLen, c.auto, c.use⟩

/-- Pages held by the clips of an owner. -/
def pagesHeldBy (o : Owner) : List Clip → Nat
  | [] => 0
  | c :: cs => (if c.owner = some o then c.pages.length else 0) + pagesHeldBy o cs

/-- R62: the three counts. -/
def Pool.freeCount (p : Pool) : Nat := p.freePages.length
def Pool.vehicleHeld (p : Pool) : Nat := pagesHeldBy .vehicle p.clips
def Pool.otherHeld (p : Pool) : Nat := pagesHeldBy .control p.clips + pagesHeldBy .capture p.clips

/-- R65: the free reserve pages. -/
def Pool.freeReserve (p : Pool) : Nat := Config.reserve - p.vehicleHeld

/-- The lowest FREE clip number. -/
def lowestFree : Nat → List Clip → Option Nat
  | _, [] => none
  | n, c :: cs => if c.state = .free then some n else lowestFree (n + 1) cs

def Pool.lowestFree (p : Pool) : Option Nat := Sys2Proof.Machine.lowestFree 1 p.clips

def Pool.freeClips (p : Pool) : Nat := (p.clips.filter (fun c => c.state == .free)).length

/-- R78: the CAPTURING clip's number. -/
def capturingIn : Nat → List Clip → Nat
  | _, [] => 0
  | n, c :: cs => if c.state = .capturing then n else capturingIn (n + 1) cs

def Pool.capturing (p : Pool) : Nat := capturingIn 1 p.clips

/-- R65, R66: whether n more pages fit for an owner. -/
def Pool.fits (p : Pool) (o : LinkOwner) (n : Nat) : Bool :=
  decide (n ≤ p.freeCount) &&
    (match o with
     | .vehicle => true
     | .control => decide (p.otherHeld + n ≤ Config.otherLimit))

def ownerOf : LinkOwner → Owner
  | .control => .control | .vehicle => .vehicle

/-- R66: a grant of n pages to clip number c. -/
def Pool.grant (p : Pool) (c n rate : Nat) (o : Owner) (st : ClipState) (auto : Bool) : Pool :=
  { p.setClip c ⟨st, some o, some rate, p.freePages.take n, 0, 0, auto, .unused⟩ with
    freePages := p.freePages.drop n }

/-- R65: FREE_PAGES is handed to the watch unit where the count has changed. -/
def State.deliverFree (s : State) (old : Nat) : State :=
  s.deliverChange .freePages (old : Int) (s.pool.freeCount : Int)

def Pool.slot (p : Pool) : LinkOwner → Slot
  | .control => p.controlSlot | .vehicle => p.vehicleSlot

def Pool.setSlot (p : Pool) (o : LinkOwner) (x : Slot) : Pool :=
  match o with
  | .control => { p with controlSlot := x }
  | .vehicle => { p with vehicleSlot := x }

/-- R68: one slot in a grant attempt. -/
def State.attemptSlot (s : State) (o : LinkOwner) : State :=
  match s.pool.slot o, s.pool.lowestFree with
  | .waiting n rate auto, some c =>
    if s.pool.fits o n then
      ((s.mapPool (fun p => (p.grant c n rate (ownerOf o) .filling auto).setSlot o (.granted c))).deliverFree
        s.pool.freeCount).raise .allocDone
    else s
  | _, _ => s

/-- R68: the vehicle slot, then the control slot. -/
def State.grantAttempt (s : State) : State := (s.attemptSlot .vehicle).attemptSlot .control

/-- R63: freeing clip n: pages back, empty record, the cursor cleared if it names the clip. -/
def Pool.release (p : Pool) (n : Nat) : Pool :=
  { p.setClip n Clip.empty with
    freePages := p.freePages ++ (p.clip n).pages
    cursor := if p.cursor.clip = n then { p.cursor with clip := 0, position := 0 } else p.cursor }

/-- R74, R75: a clip is freed, and a grant attempt follows. -/
def State.freeClip (s : State) (n : Nat) : State :=
  ((s.mapPool (·.release n)).deliverFree s.pool.freeCount).grantAttempt

def State.setUse (s : State) (n : Nat) (u : UseMarker) : State :=
  s.mapPool (fun p => if (p.clip n).state = .free then p else p.setClip n { p.clip n with use := u })

/-! ## Capture (R76 to R78) -/

/-- R76: a capture open; `none` is a refusal. -/
def State.captureOpen (s : State) : Option (Nat × State) :=
  if s.pool.capturing ≠ 0 then none
  else
    match s.pool.lowestFree with
    | none => none
    | some c =>
      if s.pool.freeCount < 1 ∨ Config.otherLimit ≤ s.pool.otherHeld then none
      else some (c, (s.mapPool (·.grant c 1 24000 .capture .capturing true)).deliverFree s.pool.freeCount)

/-- R77: an extension of a CAPTURING clip by one page; `none` is a refusal. -/
def State.captureExtend (s : State) (n : Nat) : Option State :=
  let c := s.pool.clip n
  if c.state ≠ .capturing ∨ s.pool.freeCount < 1 ∨ Config.otherLimit ≤ s.pool.otherHeld ∨ 2048 ≤ c.pages.length then none
  else
    some ((s.mapPool (fun p => { p.setClip n { c with pages := c.pages ++ p.freePages.take 1 } with
      freePages := p.freePages.drop 1 })).deliverFree s.pool.freeCount)

/-- R73, R78: the clip becomes READY at a length and keeps the pages the length needs. -/
def Pool.close (p : Pool) (n len : Nat) : Pool :=
  let c := p.clip n
  let keep := ceilDiv len Config.pageSamples
  { p.setClip n { c with state := .ready, sealedLen := len, fill := len, pages := c.pages.take keep } with
    freePages := p.freePages ++ c.pages.drop keep }

/-- R73, R78: sealing, with the grant attempt that follows where pages were released. -/
def State.closeClip (s : State) (n len : Nat) : State :=
  let t := (s.mapPool (·.close n len)).deliverFree s.pool.freeCount
  if ceilDiv len Config.pageSamples < (s.pool.clip n).pages.length then t.grantAttempt else t

end Sys2Proof.Machine
end

