-- ==== Sys2Proof/Machine/Claims.lean ====
section
/-! DEFINITION. The zone arbiter (01_zones_and_claims.md): natural states, the evaluation with its yield, the leading claim, the
entertainment report, what the voice player and the traffic monitor learn of it, and the three list operations of R4. -/

namespace Sys2Proof.Machine

/-! ## Natural states (R8) -/

/-- R5: the policy row of a claim. -/
def Claim.effect (rows : PolicyRows) (c : Claim) : Effect :=
  match c.cls with
  | .entertainment => rows.entertainment
  | .traffic => rows.traffic
  | .prompt => rows.prompt
  | .ring => rows.ring
  | .call => if c.shadow then rows.privateCall else rows.call
  | .chime => rows.chime
  | .emergency => rows.emergency

/-- What the claims above exert: an EXCLUSIVE among them, and the largest DUCK depth. -/
structure Above where
  exclusive : Bool
  duck : Option Nat
deriving DecidableEq, Repr

def Above.none : Above := ⟨false, Option.none⟩

/-- R8: the effect of one more claim. -/
def Above.add (a : Above) : Effect → Above
  | .exclusive => { a with exclusive := true }
  | .duck d => { a with duck := some (match a.duck with | Option.none => d | some e => max d e) }
  | .mix => a

/-- R8. -/
def Above.natural (a : Above) : ClaimState :=
  if a.exclusive then .held
  else match a.duck with
    | Option.none => .audible
    | some d => .ducked d

/-- R8: the natural states of a list, top first. -/
def naturals (rows : PolicyRows) : Above → List Claim → List ClaimState
  | _, [] => []
  | a, c :: cs => a.natural :: naturals rows (a.add (c.effect rows)) cs

/-- R9. -/
def leadingOf (rows : PolicyRows) (cs : List Claim) : Option Source :=
  match cs.find? (fun c => c.effect rows != .mix) with
  | some c => some c.source
  | none => cs.head?.map Claim.source

/-! ## The evaluation (R11 to R16) -/

/-- R11: whether a claim is made quieter; a claim just filed or brought in by a replacement never is. -/
def isQuieter (fresh : List Source) (c : Claim) (nat : ClaimState) : Bool :=
  !fresh.contains c.source && c.state.sounds && Gain.below (levelOf nat) (levelOf c.state)

/-- R11: one claim's treatment. `y` is the zone's yield time, `running` says that a yield runs once R12 is applied. A claim whose
natural state is the state it has keeps its mark (log 18). -/
def treat (y : Nat) (running : Bool) (fresh : List Source) (c : Claim) (nat : ClaimState) : Claim :=
  if fresh.contains c.source || !(c.state.sounds || (c.state == .held && c.yielding)) then
    { c with state := if nat.sounds then (if running then .waiting else nat) else .held, yielding := false }
  else if isQuieter fresh c nat then
    { c with state := nat, yielding := if y = 0 then c.yielding else true }
  else if nat = c.state then c
  else { c with state := nat, yielding := if nat.sounds then false else c.yielding }

def treatAll (y : Nat) (running : Bool) (fresh : List Source) : List Claim → List ClaimState → List Claim
  | c :: cs, n :: ns => treat y running fresh c n :: treatAll y running fresh cs ns
  | _, _ => []

/-- The sources made quieter, for the rates of R12 and the jumps of R16. -/
def quieterSources (fresh : List Source) : List Claim → List ClaimState → List Source
  | c :: cs, n :: ns =>
    if isQuieter fresh c n then c.source :: quieterSources fresh cs ns else quieterSources fresh cs ns
  | _, _ => []

/-- R14, R15: each WAITING claim takes its natural state. -/
def admitWaiting : List Claim → List ClaimState → List Claim
  | c :: cs, n :: ns => (if c.state = .waiting then { c with state := n } else c) :: admitWaiting cs ns
  | _, _ => []

/-- R11 to R14 and R9 on one zone's list. At a cancellation a WAITING claim takes its natural state in one move, and its passing HELD
is reported to nobody (log 25). -/
def ZoneState.evaluate (rows : PolicyRows) (y : Nat) (fresh : List Source) (zs : ZoneState) : ZoneState :=
  let ns := naturals rows Above.none zs.claims
  let quieter := quieterSources fresh zs.claims ns
  let timer := if quieter.isEmpty ∨ y = 0 then zs.yieldTimer else some y
  let cs := treatAll y timer.isSome fresh zs.claims ns
  if timer.isSome ∧ !cs.any Claim.yielding then
    { zs with claims := admitWaiting cs ns, yieldTimer := none, leading := leadingOf rows zs.claims }
  else { zs with claims := cs, yieldTimer := timer, leading := leadingOf rows zs.claims }

def State.setZone (s : State) (z : Zone) (zs : ZoneState) : State :=
  s.mapArb (fun a => { a with zones := a.zones.set z zs })

/-- The state of a source's claim in a list. -/
def stateIn (cs : List Claim) (src : Source) : Option ClaimState :=
  (cs.find? (fun c => c.source == src)).map Claim.state

/-- R12, R13, R16, R35: the rates of the zone's mix points after an evaluation: those of a source made quieter, those of a source that
has lost its mark, and those of one that was HELD without it and is newly audible. -/
def Renderer.rates (r : Renderer) (z : Zone) (y : Nat) (quieter : List Source) (before after : List Claim) : Renderer :=
  let r := quieter.foldl
    (fun r src => r.mapMix z src (if y = 0 then MixPoint.startJump else MixPoint.startYield y)) r
  Source.all.foldl
    (fun r src =>
      if quieter.contains src || after.any (fun c => c.source == src && c.yielding) then r
      else if stateIn before src = stateIn after src then r.mapMix z src MixPoint.unmark
      else if before.any (fun c => c.source == src && c.state == .held && !c.yielding) then r.mapMix z src MixPoint.startAudible
      else r.mapMix z src MixPoint.plain) r

/-- R18: the entertainment report, brought up to date; `mayHold` says that this is an event at which the report may become HELD. -/
def State.entReport (s : State) (z : Zone) (mayHold : Bool) : State :=
  let zs := s.zone z
  match s.entClaim z with
  | none => if zs.entHeld then s.setZone z { zs with entHeld := false } else s
  | some c =>
    if zs.entHeld then
      if c.state.sounds then (s.setZone z { zs with entHeld := false }).raise (.entResumed z) else s
    else if mayHold ∧ c.state = .held ∧ c.yielding = false then
      (s.setZone z { zs with entHeld := true }).raise (.entHeld z)
    else s

/-! ## What the neighbours learn (R17) -/

/-- R81. -/
def voiceSource : Voice → Source
  | .chime => .voiceChime | .prompt => .voicePrompt | .traffic => .voiceTraffic | .ring => .voiceRing

/-- R17, R88: some claim of the voice is AUDIBLE or DUCKED. -/
def State.voiceHeard (s : State) (v : Voice) : Bool :=
  Zone.all.any (fun z => match s.claim z (voiceSource v) with | some c => c.state.sounds | none => false)

def State.voice (s : State) (v : Voice) : VoiceRec := s.voc.voices.get v

def State.setVoice (s : State) (v : Voice) (r : VoiceRec) : State :=
  s.mapVoc (fun a => { a with voices := a.voices.set v r })

/-- R88: a report moves the voice between PLAYING and WAITING_ZONE. -/
def State.voiceReport (s : State) (v : Voice) : State :=
  let r := s.voice v
  match r.state, s.voiceHeard v with
  | .playing, false => s.setVoice v { r with state := .waitingZone }
  | .waitingZone, true => s.setVoice v { r with state := .playing }
  | _, _ => s

/-- R138. -/
def trafficSource : Path → Source
  | .p1 => .traffic1 | .p2 => .traffic2

def State.ann (s : State) (p : Path) : Announcement := s.traf.ann.get p

def State.setAnn (s : State) (p : Path) (a : Announcement) : State :=
  s.mapTraf (fun t => { t with ann := t.ann.set p a })

/-- R143, R144: the zone is in LIVE_OR_CAPTURE, takes the announcement and has its claim HELD. -/
def State.heldForCapture (s : State) (p : Path) (z : Zone) : Bool :=
  ((s.ann p).zones.get z) && ((s.profile z).trafficMode == .liveOrCapture) &&
    (match s.claim z (trafficSource p) with | some c => c.state == .held | none => false)

/-- R144: the held mask takes every such zone. -/
def State.noteHeld (s : State) (p : Path) : State :=
  let a := s.ann p
  if a.state = .quiet then s
  else s.setAnn p { a with held :=
    ⟨a.held.cabin || s.heldForCapture p .cabin, a.held.driver,
     a.held.rearL || s.heldForCapture p .rearL, a.held.rearR || s.heldForCapture p .rearR⟩ }

/-- R143: the announcement's part of the five conditions. -/
def State.wantsCapture (s : State) (p : Path) : Bool :=
  let a := s.ann p
  (a.state != .quiet) && a.eligible && decide (a.age < 90000) &&
    (s.heldForCapture p .cabin || s.heldForCapture p .rearL || s.heldForCapture p .rearR)

/-- R143: the capture begins, or the announcement's eligible mark is cleared by a refused open. -/
def State.beginCapture (s : State) (p : Path) : State :=
  match s.captureOpen with
  | some (c, t) => t.mapTraf (fun x => { x with capture := .recording p c })
  | none => s.setAnn p { s.ann p with eligible := false }

/-- R143: the five conditions for one announcement. -/
def State.captureFor (s : State) (p : Path) : State :=
  if s.traf.capture = .idle ∧ s.wantsCapture p = true then s.beginCapture p else s

/-- R143: a moment at which a capture may begin; the older announcement first, P1's when the ages are equal. Where the older one's open
is refused, the other meets the conditions at the same moment, and its own open follows: DESIGN CHOICE (log 25). -/
def State.tryCapture (s : State) : State :=
  if (s.ann .p2).age ≤ (s.ann .p1).age then (s.captureFor .p1).captureFor .p2 else (s.captureFor .p2).captureFor .p1

/-- R143: some zone's claim of the announcement is held for a capture now and was not in `base`: it is reported HELD, or a take has given
its zone LIVE_OR_CAPTURE. -/
def State.heldAnew (s base : State) (p : Path) : Bool :=
  Zone.all.any (fun z => s.heldForCapture p z && !base.heldForCapture p z)

/-- R143: what has happened since `base` is one of the three events, and so a moment at which a capture may begin: a claim is held anew,
or the capture record, not IDLE then, is IDLE now. Anything else begins none. What is one moment: log 25. -/
def State.captureAfter (s base : State) : State :=
  if base.traf.capture ≠ .idle ∨ s.heldAnew base .p1 = true ∨ s.heldAnew base .p2 = true then s.tryCapture else s

/-- R17: the reports to the voice player and the traffic monitor. The capture that a report may begin is left to the end of the event,
so that an event that reports both announcements HELD serves the older one (R143). -/
def State.reports (s : State) : State :=
  (((((s.voiceReport .chime).voiceReport .prompt).voiceReport .traffic).voiceReport .ring).noteHeld .p1).noteHeld .p2

/-- The state of a list's ENTERTAINMENT claim. -/
def entStateIn (cs : List Claim) : Option ClaimState :=
  (cs.find? (fun c => c.cls == .entertainment)).map Claim.state

/-- R18: the evaluation from one list to the next may report HELD: it follows the filing of an ENTERTAINMENT claim, or it has made
the claim HELD and no yield was running before or after it. -/
def heldReportable (before after : ZoneState) (filed : Bool) : Bool :=
  filed || (before.yieldTimer.isNone && after.yieldTimer.isNone && entStateIn before.claims != some .held)

/-- R11: an evaluation of a zone, up to its reports; `fresh` names a source just filed or brought in by a replacement, and `filed` says
that an ENTERTAINMENT claim has been filed (R18). -/
def State.evaluateTold (s : State) (z : Zone) (fresh : List Source) (filed : Bool) : State :=
  let rows := s.arb.policy.get z
  let y := (s.profile z).yieldTime
  let before := s.zone z
  let after := before.evaluate rows y fresh
  let quieter := quieterSources fresh before.claims (naturals rows Above.none before.claims)
  (((s.setZone z after).mapRend (·.rates z y quieter before.claims after.claims)).entReport z
    (heldReportable before after filed)).reports

/-- R11, R143: an evaluation that is an event of its own, or ends one that began at `base`. -/
def State.evaluateAfter (s base : State) (z : Zone) (fresh : List Source) (filed : Bool) : State :=
  (s.evaluateTold z fresh filed).captureAfter base

/-- R11: an evaluation that follows no filing of an ENTERTAINMENT claim. -/
def State.evaluate (s : State) (z : Zone) (fresh : List Source) : State := s.evaluateAfter s z fresh false

/-- R15: a yield timer expires. A jump that R16 has ordered and that no frame has made yet stands (log 25). An ENTERTAINMENT claim that
a yield which was cancelled has made HELD, and that this yield still finds HELD, is reported at this expiry (R18, log 25). -/
def State.yieldExpired (s : State) (z : Zone) : State :=
  let rows := s.arb.policy.get z
  let zs := s.zone z
  let ns := naturals rows Above.none zs.claims
  let cs := (admitWaiting zs.claims ns).map (fun c => { c with yielding := false })
  let t := (s.setZone z { zs with claims := cs, yieldTimer := none, leading := leadingOf rows cs }).mapRend
    (fun r => Source.all.foldl (fun r src => r.mapMix z src MixPoint.unmark) r)
  (t.entReport z true).reports.captureAfter s

/-! ## List operations (R3, R4) -/

/-- R3: renumbering in list order. -/
def renumber : Nat → List Claim → List Claim
  | _, [] => []
  | n, c :: cs => { c with arrival := n } :: renumber (n + 1) cs

/-- R3: the place of a claim by priority, then by arrival. -/
def insertClaim (c : Claim) : List Claim → List Claim
  | [] => [c]
  | d :: ds =>
    if d.cls.priority < c.cls.priority ∨ (d.cls.priority = c.cls.priority ∧ c.arrival < d.arrival) then c :: d :: ds
    else d :: insertClaim c ds

/-- R3: a filing that finds the counter at 65535 renumbers first. -/
def ZoneState.makeRoom (zs : ZoneState) : ZoneState :=
  if zs.nextArrival = 65535 then
    { zs with claims := renumber 1 zs.claims, nextArrival := zs.claims.length + 1 }
  else zs

/-- R4: the new claim of a filing, before its evaluation. -/
def ZoneState.insert (zs : ZoneState) (src : Source) (shadow : Bool) : ZoneState :=
  let zs := zs.makeRoom
  { zs with
    claims := insertClaim ⟨src, classOf src, .held, zs.nextArrival, shadow, false⟩ zs.claims
    nextArrival := zs.nextArrival + 1 }

/-- R4: a filing of a source that already has a claim. -/
def ZoneState.refile (zs : ZoneState) (src : Source) (shadow : Bool) : ZoneState :=
  match zs.claims.find? (fun c => c.source == src) with
  | none => zs
  | some c =>
    let c := { c with cls := classOf src, shadow := shadow }
    { zs with claims := insertClaim c (zs.claims.filter (fun d => d.source != src)) }

/-- R4: the ENTERTAINMENT claim takes a new source in place. -/
def ZoneState.replace (zs : ZoneState) (old new : Source) : ZoneState :=
  { zs with claims := zs.claims.map (fun c => if c.source = old then { c with source := new } else c) }

def ZoneState.remove (zs : ZoneState) (src : Source) : ZoneState :=
  { zs with claims := zs.claims.filter (fun c => c.source != src) }

/-- R4: Replace, for a zone whose ENTERTAINMENT claim has the source `old`, up to its reports. -/
def State.replaceTold (s : State) (z : Zone) (old new : Source) : State :=
  (((s.setZone z ((s.zone z).replace old new)).mapRend
    (fun r => (r.mapMix z old MixPoint.plain).mapMix z new MixPoint.fromMute)).evaluateTold z [new] false)

/-- R4: Replace. -/
def State.replaceEnt (s : State) (z : Zone) (old new : Source) : State := (s.replaceTold z old new).captureAfter s

/-- R4: File, up to its reports. The mix points of a source filed again while they still ramp to mute go on from the gain they have
reached (log 25). -/
def State.fileTold (s : State) (z : Zone) (src : Source) (shadow : Bool) : State :=
  match s.claim z src with
  | some _ => (s.setZone z ((s.zone z).refile src shadow)).evaluateTold z [] false
  | none =>
    match classOf src, s.entClaim z with
    | .entertainment, some c => s.replaceTold z c.source src
    | k, _ => (s.setZone z ((s.zone z).insert src shadow)).evaluateTold z [src] (k == .entertainment)

/-- R4: File. R143 counts the report of the claim's state at its filing, so what the filing is measured against holds no claim of the
source. -/
def State.file (s : State) (z : Zone) (src : Source) (shadow : Bool) : State :=
  (s.fileTold z src shadow).captureAfter (s.setZone z ((s.zone z).remove src))

/-- R4: Withdraw, up to its reports. -/
def State.withdrawTold (s : State) (z : Zone) (src : Source) : State :=
  match s.claim z src with
  | none => s
  | some _ =>
    ((s.setZone z ((s.zone z).remove src)).mapRend (fun r => r.mapMix z src MixPoint.plain)).evaluateTold z [] false

/-- R4: Withdraw; without a claim nothing happens. -/
def State.withdraw (s : State) (z : Zone) (src : Source) : State :=
  match s.claim z src with
  | none => s
  | some _ => (s.withdrawTold z src).captureAfter s

def State.withdrawAll (s : State) (src : Source) : State :=
  (((s.withdraw .cabin src).withdraw .driver src).withdraw .rearL src).withdraw .rearR src

/-! ## Taking zones (R140) -/

/-- R140: whether a zone listens to a path. -/
def State.listens (s : State) (p : Path) : Zone → Bool
  | .cabin => p == .p1
  | .driver => false
  | z =>
    match s.entClaim z, p with
    | some c, .p1 => c.source == .radio1
    | some c, .p2 => c.source == .radio2
    | none, _ => false

/-- R140: whether a zone takes the announcement of a path. -/
def State.takes (s : State) (p : Path) (z : Zone) : Bool :=
  ((s.profile z).trafficMode != .off) && s.listens p z

def State.takingSet (s : State) (p : Path) : ZoneSet :=
  ⟨s.takes p .cabin, false, s.takes p .rearL, s.takes p .rearR⟩

/-- R140: one zone joins, leaves or stays. -/
def State.takeZone (s : State) (p : Path) (was now : ZoneSet) (z : Zone) : State :=
  if !(was.get z) && now.get z then s.file z (trafficSource p) false
  else if was.get z && !(now.get z) then s.withdraw z (trafficSource p)
  else s

/-- R140: the set of taking zones of a path is derived afresh. -/
def State.takingPath (s : State) (p : Path) : State :=
  let a := s.ann p
  if a.state = .quiet then s
  else
    let now := s.takingSet p
    let t := s.setAnn p { a with zones := now }
    ((t.takeZone p a.zones now .cabin).takeZone p a.zones now .rearL).takeZone p a.zones now .rearR

/-- R140: P1's set first, so that a zone that goes from P2's to P1's has TRAFFIC_1 filed before TRAFFIC_2 is withdrawn (log 25). -/
def State.takingUpdate (s : State) : State := (s.takingPath .p1).takingPath .p2

/-! ## Entertainment (R4, R19, R107, R140) -/

/-- Puts a zone's ENTERTAINMENT claim on a source, or withdraws it; the taking zones follow. -/
def State.setEnt (s : State) (z : Zone) (src : Option Source) : State :=
  match s.entClaim z, src with
  | some c, some x => if c.source = x then s else (s.replaceEnt z c.source x).takingUpdate
  | none, some x => (s.file z x false).takingUpdate
  | some c, none => (s.withdraw z c.source).takingUpdate
  | none, none => s

def State.entSource (s : State) (z : Zone) : Option Source := (s.entClaim z).map Claim.source

def State.entState (s : State) (z : Zone) : Option ClaimState := (s.entClaim z).map Claim.state

end Sys2Proof.Machine
end

