-- ==== Sys2Proof/Machine/VoiceOps.lean ====
section
/-! DEFINITION. The voice player's shared operations (05_announcement_voices.md): placing, becoming current, completions and their
waiters, retirement, flush, fade, and what the pool's writes and seals do to a voice. -/

namespace Sys2Proof.Machine

/-- R81: the completion queue of a voice: true for the control queue. -/
def onControl : Voice → Bool
  | .chime => false | .prompt => true | .traffic => true | .ring => true

/-! ## Fades (R83) -/

/-- R83: to fade out: a hush of 5 ms and a fade count of 6, which counts from the next render frame on. -/
def State.startFade (s : State) (v : Voice) : State :=
  let t := s.orderHush (voiceSource v) 5
  t.setVoice v { t.voice v with fade := some 6 }

/-! ## Becoming current (R86) -/

/-- R86 step 2 in one zone. -/
def State.bringClaim (s : State) (v : Voice) (mask : ZoneSet) (z : Zone) : State :=
  let src := voiceSource v
  match mask.get z, s.claim z src with
  | true, some _ => s
  | true, none => s.fileTold z src false
  | false, some _ => s.withdrawTold z src
  | false, none => s

/-- R86: the head of the queue becomes the current entry. Its claims on all zones of the mask are one moment of R143 (log 25). -/
def State.becomeCurrent (s : State) (v : Voice) (e : Entry) : State :=
  let r := s.voice v
  let t := (s.setUse e.clip (.playing v)).setVoice v
    { r with state := .starting, position := 0, passes := e.repeats, gap := none,
             maxWait := if e.maxWait = 0 then none else some (e.maxWait * 1000),
             first := false, fade := none, flushing := false }
  (((((t.bringClaim v e.mask .cabin).bringClaim v e.mask .driver).bringClaim v e.mask .rearL).bringClaim v e.mask
    .rearR).captureAfter s).liftHush (voiceSource v)

/-- The voice has nothing to play: claims withdrawn, hush lifted, IDLE (R92, R96). -/
def State.goIdle (s : State) (v : Voice) : State :=
  let t := (s.withdrawAll (voiceSource v)).liftHush (voiceSource v)
  t.setVoice v { t.voice v with state := .idle, position := 0, passes := 0, gap := none, maxWait := none,
                                first := false, fade := none, flushing := false }

/-- R92 step 3, R96: the next entry becomes current, or the voice goes IDLE. -/
def State.nextEntry (s : State) (v : Voice) : State :=
  match (s.voice v).queue with
  | e :: _ => s.becomeCurrent v e
  | [] => s.goIdle v

/-! ## Placing (R84 from step 3, R85) -/

/-- What a placer gives. -/
structure Placing where
  clip : Nat
  mask : Nat
  repeats : Nat
  gap : Nat
  threshold : Nat
  trim : Int
  maxWait : Nat
deriving DecidableEq, Repr

/-- R81: the clip owners a voice accepts. -/
def accepts : Voice → Option Owner → Bool
  | .chime, o => o == some .vehicle
  | _, o => o != some .vehicle

/-- R84 steps 3 to 8: the first check that applies. -/
def State.placeRefusal (s : State) (v : Voice) (p : Placing) : Option RefCode :=
  let c := s.pool.clip p.clip
  if !clipNumber p.clip || (maskOf p.mask).isNone || decide (5000 < p.gap) || decide (60 < p.maxWait) then some .range
  else if c.state = .free then some .state
  else if !accepts v c.owner then some .range
  else if c.state = .capturing ∨ c.use ≠ .unused then some .inUse
  else if c.state = .filling ∧ c.length < p.threshold then some .range
  else if 8 ≤ (s.voice v).queue.length then some .busy
  else none

/-- R84: the entry as placed, with its clamps. -/
def Placing.entry (p : Placing) : Entry where
  clip := p.clip
  mask := (maskOf p.mask).getD ZoneSet.empty
  repeats := min p.repeats 15
  gap := p.gap
  threshold := p.threshold
  trim := clampInt (-48) 0 p.trim
  maxWait := p.maxWait
  outcome := none

/-- R84: an accepted placing. -/
def State.accept (s : State) (v : Voice) (e : Entry) : State :=
  let r := s.voice v
  let t := (s.setUse e.clip (.queued v)).setVoice v { r with queue := r.queue ++ [e] }
  if r.state = .idle then t.becomeCurrent v e else t

/-- R84, R85. -/
def State.place (s : State) (v : Voice) (p : Placing) : Except RefCode State :=
  match s.placeRefusal v p with
  | some c => .error c
  | none => .ok (s.accept v p.entry)

/-! ## Completions (R93, R171) -/

/-- R171: while none awaits and the vehicle queue is not empty, a CHIME_DONE is built from its head. -/
def State.buildChimeDone (s : State) : State :=
  match s.veh.chimeDone, s.voc.vehicle with
  | none, c :: _ => s.mapVeh (fun x => { x with chimeDone := some c })
  | _, _ => s

/-- R93: an append; an append to the control queue raises COMPLETION. -/
def State.append (s : State) (control : Bool) (c : Completion) : State :=
  if control then (s.mapVoc (fun x => { x with control := x.control ++ [c] })).raise .completion
  else (s.mapVoc (fun x => { x with vehicle := x.vehicle ++ [c] })).buildChimeDone

def State.waiters (s : State) (control : Bool) : List Waiter :=
  if control then s.voc.controlWaiters else s.voc.vehicleWaiters

def State.setWaiters (s : State) (control : Bool) (l : List Waiter) : State :=
  if control then s.mapVoc (fun x => { x with controlWaiters := l })
  else s.mapVoc (fun x => { x with vehicleWaiters := l })

/-- R93: the places left in a queue. -/
def State.queueRoom (s : State) (control : Bool) : Nat :=
  if control then 16 - s.voc.control.length else 8 - s.voc.vehicle.length

/-- R93, R96: the room a new completion finds: none while any waiter stands. -/
def State.room (s : State) (control : Bool) : Nat :=
  if (s.waiters control).isEmpty then s.queueRoom control else 0

/-! ## Retirement (R92) -/

def State.autoOf (s : State) (clip : Nat) : Bool := (s.pool.clip clip).auto

/-- R92 step 1: no completion is owed for a PLAYED entry whose clip has auto-release set. -/
def State.owes (s : State) (e : Entry) : Bool := !(e.outcome == some .played && s.autoOf e.clip)

/-- R92 steps 2 and 3: the head leaves the queue. -/
def State.retireHead (s : State) (v : Voice) : State :=
  let r := s.voice v
  match r.queue with
  | [] => s.goIdle v
  | e :: es =>
    let freed := e.outcome == some .played && s.autoOf e.clip
    let t := (s.setVoice v { r with queue := es, fade := none }).setUse e.clip .unused
    (if freed then t.freeClip e.clip else t).nextEntry v

/-- R92 step 1, without room: the voice stalls. -/
def State.stall (s : State) (v : Voice) : State :=
  let t := (s.withdrawAll (voiceSource v)).liftHush (voiceSource v)
  (t.setVoice v { t.voice v with state := .retiring, fade := none }).setWaiters (onControl v)
    (t.waiters (onControl v) ++ [.voice v])

/-- R92: the current entry has its outcome and any fade is complete. -/
def State.retire (s : State) (v : Voice) : State :=
  match (s.voice v).queue with
  | [] => s.goIdle v
  | e :: _ =>
    if s.owes e then
      if 0 < s.room (onControl v) then
        (s.append (onControl v) ⟨e.clip, some v, e.outcome.getD .flushed⟩).retireHead v
      else s.stall v
    else s.retireHead v

/-- Gives the current entry its outcome and enters RETIRING (R89 to R91, R97). The gap timer and the maximum-wait timer stop, at a skip
too, so that R98 reports 0 for them (log 25). -/
def State.conclude (s : State) (v : Voice) (o : CompStatus) : State :=
  let r := s.voice v
  match r.queue with
  | [] => s
  | e :: es =>
    s.setVoice v { r with queue := { e with outcome := some o } :: es, state := .retiring, gap := none, maxWait := none }

/-! ## Service of the waiters (R93, R147) -/

/-- R147: the monitor's owed completion is appended and the record returns to IDLE. -/
def State.serveMonitor (s : State) : State :=
  match s.traf.capture with
  | .owing c st =>
    ((s.append true ⟨c, none, st⟩).mapTraf (fun x => { x with capture := .idle })).captureAfter s
  | _ => s

def State.serveWaiter (s : State) : Waiter → State
  | .monitor => s.serveMonitor
  | .voice v =>
    match (s.voice v).queue with
    | e :: _ => (s.append (onControl v) ⟨e.clip, some v, e.outcome.getD .flushed⟩).retireHead v
    | [] => s

/-- R93: the waiters of a queue, oldest first, while room remains. -/
def State.serveList (control : Bool) : List Waiter → State → State
  | [], s => s
  | w :: ws, s =>
    if s.queueRoom control = 0 then s
    else State.serveList control ws ((s.setWaiters control ws).serveWaiter w)

def State.serveWaiters (s : State) (control : Bool) : State := State.serveList control (s.waiters control) s

/-! ## Flush (R96) -/

/-- R96: how a flush treats an entry: its completion, if any, and whether its clip is freed. -/
def State.flushOne (s : State) (v : Voice) (e : Entry) : Option Completion × Bool :=
  match e.outcome with
  | some o => if s.owes e then (some ⟨e.clip, some v, o⟩, false) else (none, true)
  | none => if s.autoOf e.clip then (none, true) else (some ⟨e.clip, some v, .flushed⟩, false)

/-- R96: the completions a flush owes. -/
def State.flushOwes (s : State) (v : Voice) : Nat :=
  ((s.voice v).queue.filter (fun e => (s.flushOne v e).1.isSome)).length

/-- R96: the entries from the head on, with how many completions and frees there were. -/
def State.flushEntries (v : Voice) : List Entry → State → Nat → Nat → State × Nat × Nat
  | [], s, a, f => (s, a, f)
  | e :: es, s, a, f =>
    match s.flushOne v e with
    | (some c, _) => State.flushEntries v es ((s.setUse e.clip .unused).append (onControl v) c) (a + 1) f
    | (none, _) => State.flushEntries v es ((s.setUse e.clip .unused).freeClip e.clip) a (f + 1)

/-- R96: a flush; BUSY where the queue lacks room, otherwise the state with the numbers of entries removed, completions appended
and clips freed. The gap timer and the maximum-wait timer stop (log 25). -/
def State.flush (s : State) (v : Voice) : Except RefCode (State × Nat × Nat × Nat) :=
  let r := s.voice v
  if s.room (onControl v) < s.flushOwes v then .error .busy
  else
    let n := r.queue.length
    let s1 := s.setVoice v { r with queue := [] }
    let s2 := s1.setWaiters (onControl v) ((s1.waiters (onControl v)).filter (fun w => w != .voice v))
    let x := State.flushEntries v r.queue s2 0 0
    let t :=
      if r.state = .idle then x.1
      else
        let t := x.1.setVoice v { x.1.voice v with state := .retiring, flushing := true, gap := none, maxWait := none }
        if r.fade.isSome then t else t.startFade v
    .ok (t, n, x.2.1, x.2.2)

/-! ## The end of a pass (R90, R91) -/

/-- R90: the passes remaining once a pass has ended; a repeat count of 0 does not count. -/
def passesAfter (e : Entry) (passes : Nat) : Nat := if e.repeats = 0 then passes else passes - 1

/-- R90: whether another pass follows. -/
def anotherPass (e : Entry) (passes : Nat) : Bool := (e.repeats == 0) || decide (0 < passesAfter e passes)

/-- R91: a seal below the position ends the pass at once, with a fade. -/
def State.cutPass (s : State) (v : Voice) (e : Entry) : State :=
  let r := s.voice v
  if anotherPass e r.passes then
    (s.setVoice v { r with state := .gap, passes := passesAfter e r.passes, position := 0,
                           gap := some (max e.gap 6) }).startFade v
  else ((s.setVoice v { r with passes := passesAfter e r.passes }).conclude v .played).startFade v

/-- R87: out of WAITING_FILL. -/
def State.leaveFill (s : State) (v : Voice) : State :=
  s.setVoice v { s.voice v with state := if s.voiceHeard v then .playing else .waitingZone }

/-- R71, R87: a new fill count of a clip in use. -/
def State.fillReport (s : State) (clip : Nat) : State :=
  match (s.pool.clip clip).use with
  | .playing v =>
    match s.voice v with
    | r =>
      match r.state, r.queue with
      | .waitingFill, e :: _ =>
        if e.threshold ≠ 0 ∧ e.threshold ≤ (s.pool.clip clip).fill then s.leaveFill v else s
      | _, _ => s
  | _ => s

/-- R73, R87, R91: a seal of a clip in use. -/
def State.sealReport (s : State) (clip : Nat) : State :=
  match (s.pool.clip clip).use with
  | .playing v =>
    match s.voice v with
    | r =>
      match r.state, r.queue with
      | .waitingFill, _ => s.leaveFill v
      | .playing, e :: _ => if (s.pool.clip clip).sealedLen < r.position then s.cutPass v e else s
      | .waitingZone, e :: _ =>
        if r.first ∧ (s.pool.clip clip).sealedLen < r.position then s.cutPass v e else s
      | _, _ => s
  | _ => s

end Sys2Proof.Machine
end

