-- ==== Sys2Proof/Machine/TrafficOps.lean ====
section
/-! DEFINITION. The traffic monitor's shared operations (08_traffic_announcements.md): beginning, tail and end of an announcement, and
the close of a capture. -/

namespace Sys2Proof.Machine

def State.path (s : State) (p : Path) : PathRec := s.tun.path.get p

/-- R138: P1 always; P2 while its role is REAR. -/
def State.listenerPath (s : State) : Path → Bool
  | .p1 => true
  | .p2 => s.tun.path.p2.role == .rear

/-- R139: the four conditions. -/
def State.announces (s : State) (p : Path) : Bool :=
  s.tun.flags.ta && s.listenerPath p && (s.path p).decoded.tp && (s.path p).decoded.ta

/-- R191, R138: a zone set as a mask. -/
def maskNum (m : ZoneSet) : Nat :=
  (if m.cabin then 1 else 0) + (if m.driver then 2 else 0) + (if m.rearL then 4 else 0) + (if m.rearR then 8 else 0)

def State.setCapture (s : State) (c : Capture) : State := s.mapTraf (fun t => { t with capture := c })

/-- R146 step 2: the replay of clip n; a refusal makes no entry. -/
def State.placeReplay (s : State) (p : Path) (n : Nat) : State :=
  match s.place .traffic ⟨n, maskNum (s.ann p).held, 1, 0, 0, 0, 0⟩ with
  | .ok t => t
  | .error _ => s

/-- R146 step 3: the completion is appended or owed. -/
def State.oweCapture (s : State) (n : Nat) (st : CompStatus) : State :=
  if 0 < s.room true then (s.append true ⟨n, none, st⟩).setCapture .idle
  else (s.setWaiters true (s.waiters true ++ [.monitor])).setCapture (.owing n st)

/-- R146: the capture of path p into clip n closes. -/
def State.closeCapture (s : State) (p : Path) (n : Nat) (st : CompStatus) : State :=
  let fill := (s.pool.clip n).fill
  if fill = 0 then (s.freeClip n).setCapture .idle
  else ((s.closeClip n fill).placeReplay p n).oweCapture n st

/-- R142 step 1: the capture of this path, if one records. -/
def State.closeOwn (s : State) (p : Path) : State :=
  match s.traf.capture with
  | .recording q n => if q = p then s.closeCapture p n .captured else s
  | _ => s

/-- R142: an announcement ends. -/
def State.endAnn (s : State) (p : Path) : State :=
  if (s.ann p).state = .quiet then s
  else
    let t := s.closeOwn p
    let t := (t.setAnn p { t.ann p with zones := ZoneSet.empty }).withdrawAll (trafficSource p)
    ((t.setAnn p Announcement.quiet).raise .taEnded).captureAfter s

/-- R139: an announcement begins. -/
def State.beginAnn (s : State) (p : Path) : State :=
  ((s.setAnn p ⟨.live, ZoneSet.empty, ZoneSet.empty, s.traf.capture == .idle, 0, none⟩).takingPath p).raise .taStarted

/-- R139, R141, R142: the announcement record of a path follows the TA watch flag, the path's role and its TP and TA. -/
def State.annSync (s : State) (p : Path) : State :=
  let a := s.ann p
  if a.state ≠ .quiet ∧ (s.tun.flags.ta = false ∨ s.listenerPath p = false) then s.endAnn p
  else
    match a.state with
    | .quiet => if s.announces p then s.beginAnn p else s
    | .live => if (s.path p).decoded.ta then s else s.setAnn p { a with state := .tail, tail := some 2000 }
    | .tail => if s.announces p then s.setAnn p { a with state := .live, tail := none } else s

/-- R145: a truncation of the capture of path p into clip n. -/
def State.truncate (s : State) (p : Path) (n : Nat) : State :=
  ((s.setAnn p { s.ann p with eligible := false }).closeCapture p n .truncated).captureAfter s

end Sys2Proof.Machine
end

