-- ==== Sys2Proof/Machine/StationOps.lean ====
section
/-! DEFINITION. The station table's shared operations (07_station_table_and_background_scan.md): lookups, lists, presets, creation and
eviction, association, code arrival and merge, the AF inputs, the decision of a dwell, and the one place where the changes of a step
are counted in the revisions (R120). -/

namespace Sys2Proof.Machine

/-! ## Lookups (R121) -/

def findSlot (f : StationRec → Bool) : Nat → List StaSlot → Option Nat
  | _, [] => none
  | n, x :: xs =>
    match x.record with
    | some r => if f r then some n else findSlot f (n + 1) xs
    | none => findSlot f (n + 1) xs

def Table.recAt (t : Table) (n : Nat) : Option StationRec := (t.slots[n]?).bind StaSlot.record

def StationRec.primary (r : StationRec) : Option Nat := r.freqs.head?.map FreqEntry.freq

def StationRec.lists (r : StationRec) (f : Nat) : Bool := r.freqs.any (fun e => e.freq == f)

/-- R121: by code. -/
def Table.byCode (t : Table) (c : Nat) : Option Nat :=
  if c = 0 then none else findSlot (fun r => r.code == c) 0 t.slots

/-- R121: by frequency; of several records with this primary frequency the one of lowest slot (log 19). -/
def Table.byFreq (t : Table) (b : Band) (f : Nat) : Option Nat :=
  match findSlot (fun r => r.band == b && r.primary == some f) 0 t.slots with
  | some n => some n
  | none => findSlot (fun r => r.band == b && r.lists f) 0 t.slots

/-- R121, R114, R123: by a decoded code that is known and non-zero, then by frequency where `both` asks for it or no code is
known. -/
def Table.lookup (t : Table) (x : PathRec) (both : Bool) : Option Nat :=
  match x.decoded.code with
  | some c =>
    if c = 0 then t.byFreq x.station.band x.station.freq
    else
      match t.byCode c with
      | some n => some n
      | none => if both then t.byFreq x.station.band x.station.freq else none
  | none => t.byFreq x.station.band x.station.freq

/-! ## Records -/

def Table.mapRec (t : Table) (n : Nat) (f : StationRec → StationRec) : Table :=
  { t with slots := updateAt (fun x => { x with record := x.record.map f }) n t.slots }

def Table.setRec (t : Table) (n : Nat) (r : Option StationRec) : Table :=
  { t with slots := updateAt (fun x => { x with record := r }) n t.slots }

/-- R124: the place, behind the primary, of the entry with the largest age, nearer the tail between equal ages. -/
def oldestEntry : Nat → List FreqEntry → Option (Nat × Nat)
  | _, [] => none
  | n, e :: es =>
    match oldestEntry (n + 1) es with
    | none => some (n, e.age)
    | some (m, a) => if a < e.age then some (n, e.age) else some (m, a)

/-- R124: a frequency joins a list at its tail, displacing an entry of a full list. -/
def StationRec.join (r : StationRec) (e : FreqEntry) : StationRec :=
  if r.lists e.freq then r
  else if r.freqs.length < 8 then { r with freqs := r.freqs ++ [e] }
  else
    match oldestEntry 1 r.freqs.tail with
    | none => r
    | some (n, _) => { r with freqs := r.freqs.eraseIdx n ++ [e] }

/-- R125: an AF frequency of the record's band joins only while there is room, without a measurement (R119). -/
def StationRec.joinAf (r : StationRec) (f : Nat) : StationRec :=
  if Band.owns r.band f = false ∨ r.lists f ∨ 8 ≤ r.freqs.length then r else { r with freqs := r.freqs ++ [⟨f, 0, 65535⟩] }

/-- R119: the entry with which a path's frequency joins: its last measurement since the lock, or none (log 19). On a path in a dwell
that is P2's last PATH_MEASUREMENT: the visit's own reading is none of P2's, and a code of a held record joins the frequency at once (R124),
before the visit's decision (R130), which then finds it listed and leaves its figures as this entry gave them: DESIGN CHOICE (log 19). -/
def PathRec.entry (x : PathRec) : FreqEntry :=
  if x.measured then ⟨x.station.freq, x.q, 0⟩ else ⟨x.station.freq, 0, 65535⟩

/-- R125: every decoded field a path holds, handed to a record; a TP that is clear may not have been read yet (log 19). -/
def StationRec.take (r : StationRec) (d : Decoded) : StationRec :=
  let r := match d.name with | some n => { r with name := some n } | none => r
  let r := match d.pty with | some p => { r with pty := some p } | none => r
  let r := { r with tp := r.tp || d.tp }
  match d.afs with
  | some l => l.foldl StationRec.joinAf r
  | none => r

/-! ## Presets (R122) -/

/-- R122: whether a key matches a record. -/
def PresetKey.fits (k : PresetKey) (r : StationRec) : Bool :=
  if k.code = 0 then k.band == r.band && r.code == 0 && r.primary == some k.freq else k.code == r.code

/-- R122: the lowest orphaned preset whose key matches. -/
def orphanFor (r : StationRec) : Nat → List (Option Preset) → Option Nat
  | _, [] => none
  | n, some p :: ps => if p.link.isNone && p.key.fits r then some n else orphanFor r (n + 1) ps
  | n, none :: ps => orphanFor r (n + 1) ps

def Table.mapPreset (t : Table) (n : Nat) (f : Option Preset → Option Preset) : Table :=
  { t with presets := updateAt f n t.presets }

/-- R122: preset n, where it is not EMPTY, links to a slot. -/
def Table.linkPreset (t : Table) (n slot : Nat) : Table :=
  t.mapPreset n (fun x => x.map (fun y => { y with link := some slot }))

/-- R122, R134: the preset linked to a slot becomes orphaned. -/
def Table.orphan (t : Table) (n : Nat) : Table :=
  { t with presets := t.presets.map (fun p => p.map (fun x => if x.link = some n then { x with link := none } else x)) }

/-- R122: a record entering slot n takes a matching orphaned preset. -/
def Table.enter (t : Table) (n : Nat) (r : StationRec) : Table :=
  match orphanFor r 0 t.presets with
  | some p => (t.setRec n (some { r with preset := some p })).linkPreset p n
  | none => t.setRec n (some r)

/-! ## Associations -/

def Table.setAssoc (t : Table) (p : Path) (a : Assoc) : Table := { t with assoc := t.assoc.set p a }

/-- R134: an association with slot n becomes none. -/
def Assoc.forget (n : Nat) (a : Assoc) : Assoc := if a.slot = some n then { a with slot := none } else a

/-- A record leaves slot n: its preset is orphaned and associations with it become none (R122, R134; log 19 for a merge and an
eviction). -/
def Table.leave (t : Table) (n : Nat) : Table :=
  let t := (t.setRec n none).orphan n
  { t with assoc := ⟨t.assoc.p1.forget n, t.assoc.p2.forget n⟩ }

/-! ## Creation and eviction (R123, R126) -/

/-- R126: the slot to evict: origin SCAN, no preset, the largest last-heard age, the lowest slot between equal ages. -/
def evictable : Nat → List StaSlot → Option (Nat × Nat)
  | _, [] => none
  | n, x :: xs =>
    match x.record with
    | some r =>
      if r.origin = Origin.scan ∧ r.preset = none then
        match evictable (n + 1) xs with
        | some (m, a) => if r.age < a then some (m, a) else some (n, r.age)
        | none => some (n, r.age)
      else evictable (n + 1) xs
    | none => evictable (n + 1) xs

def emptySlot : Nat → List StaSlot → Option Nat
  | _, [] => none
  | n, x :: xs => if x.record.isNone then some n else emptySlot (n + 1) xs

/-- R123, R126: a record is created in the lowest empty slot, or in an evicted one, or not at all. -/
def Table.create (t : Table) (r : StationRec) : Option (Nat × Table) :=
  match emptySlot 0 t.slots with
  | some n => some (n, t.enter n r)
  | none =>
    match evictable 0 t.slots with
    | some (n, _) => some (n, (t.leave n).enter n r)
    | none => none

/-- R119, R123: the record that a tuned path creates; a path that has not been measured since its lock has no quality to give. -/
def PathRec.newRecord (x : PathRec) : StationRec where
  code := x.decoded.code.getD 0
  band := x.station.band
  name := none
  pty := none
  freqs := [x.entry]
  tp := false
  preset := none
  origin := .tuned
  age := 0

/-- R123: the created record becomes the path's association and receives the decoded fields; `awaiting` is what then stands of the
first good measurement since the lock. Where none can be created the path has no association until its next lock. -/
def Table.createFor (t : Table) (p : Path) (x : PathRec) (awaiting : Bool) : Table :=
  match t.create x.newRecord with
  | some (n, u) => (u.mapRec n (fun r => r.take x.decoded)).setAssoc p ⟨some n, awaiting⟩
  | none => t.setAssoc p ⟨none, false⟩

/-- R123: an association is formed at a measurement of the path. -/
def Table.associate (t : Table) (p : Path) (x : PathRec) : Table :=
  match t.lookup x true with
  | some n =>
    (t.mapRec n (fun r =>
      (StationRec.join { r with origin := if r.origin = Origin.scan then Origin.tuned else r.origin, age := 0 }
        x.entry).take x.decoded)).setAssoc p ⟨some n, false⟩
  | none => t.createFor p x false

/-! ## Code arrival and merge (R124) -/

/-- R124: the coded record takes what the code-0 record gives. -/
def StationRec.absorb (r old : StationRec) : StationRec :=
  let r := old.freqs.foldl (fun r e => if r.lists e.freq ∨ 8 ≤ r.freqs.length then r else { r with freqs := r.freqs ++ [e] }) r
  { r with name := r.name.orElse (fun _ => old.name), pty := r.pty.orElse (fun _ => old.pty), tp := r.tp || old.tp }

/-- R124: slot n is changed by a merge, whatever its record gains: its revision rises, which the end of the step counts once (R120). -/
def Table.touch (t : Table) (n : Nat) : Table :=
  { t with slots := updateAt (fun x => { x with revision := x.revision + 1 }) n t.slots }

/-- R124: the merge of the code-0 record in slot a into the record in slot b, one change in each of the two slots. -/
def Table.merge (t : Table) (a b : Nat) : Table :=
  match t.recAt a, t.recAt b with
  | some old, some r =>
    let t := (t.touch b).mapRec b (fun x => x.absorb old)
    let t :=
      match old.preset, r.preset with
      | some p, none =>
        (t.linkPreset p b).mapRec b (fun x => { x with preset := some p })
      | _, _ => t
    t.leave a
  | _, _ => t

/-- R124: the slot of a path's previous association, where it holds an FM record with code 0. DESIGN CHOICE (log 19): where a host write
has made that record AM, whose code R119 keeps at 0, it can take no code, and the unheld code has a record of its own created. -/
def Table.codeless (t : Table) (p : Path) : Option Nat :=
  match (t.assoc.get p).slot with
  | some a =>
    match t.recAt a with
    | some r => if r.band = .fm ∧ r.code = 0 then some a else none
    | none => none
  | none => none

/-- R124: a non-zero code arrives at a path; `owns` says that the path is P1, or P2 in REAR. The first good measurement since the
lock still forms an association (R123). A path that a creation without room has left without an association until its next lock (R123)
is associated, or has its record created, by the code all the same (log 19). -/
def Table.codeArrives (t : Table) (p : Path) (x : PathRec) (owns : Bool) (c : Nat) : Table :=
  if c = 0 then t
  else
    match t.byCode c with
    | some n =>
      let u := t.mapRec n (fun r => { r.join x.entry with age := 0 })
      if owns then
        match t.codeless p with
        | some a => (if a = n then u else u.merge a n).setAssoc p ⟨some n, (t.assoc.get p).awaiting⟩
        | none => u.setAssoc p ⟨some n, (t.assoc.get p).awaiting⟩
      else u
    | none =>
      if owns then
        match t.codeless p with
        | some a => t.mapRec a (fun r => { r with code := c })
        | none => t.createFor p x (t.assoc.get p).awaiting
      else t

/-! ## Other decoded fields (R125) -/

/-- R104, R125: one decoded field reaches the path's record; `afs` is the path's AF list, which is handed whole when it changes. -/
def Table.fieldArrives (t : Table) (p : Path) (item : DecodedItem) (afs : List Nat) : Table :=
  match (t.assoc.get p).slot with
  | none => t
  | some n =>
    match item with
    | .name v => t.mapRec n (fun r => { r with name := some v })
    | .pty v => t.mapRec n (fun r => { r with pty := some v })
    | .tp v => t.mapRec n (fun r => { r with tp := v })
    | .af _ => t.mapRec n (fun r => afs.foldl StationRec.joinAf r)
    | _ => t

/-! ## Qualities -/

def StationRec.setQ (r : StationRec) (f q : Nat) : StationRec :=
  { r with freqs := r.freqs.map (fun e => if e.freq = f then { e with q := q, age := 0 } else e) }

/-- R127: a candidate's measured quality, for the record that R121 finds now; where the check's record has gone and R121 finds another
one, that one takes the input (log 19). -/
def Table.afQuality (t : Table) (x : PathRec) (f q : Nat) : Table :=
  match t.lookup x false with
  | some n => t.mapRec n (fun r => r.setQ f q)
  | none => t

/-- R127: a frequency of the list moves to its head; one that is no longer in the list changes nothing (log 19). -/
def StationRec.makePrimary (r : StationRec) (f : Nat) : StationRec :=
  { r with freqs := r.freqs.filter (fun e => e.freq == f) ++ r.freqs.filter (fun e => e.freq != f) }

/-- R127: the switched frequency becomes the primary of P1's record, unless another FM record with code 0 has it as its primary. The
record is the one that R121 finds at the switch, though it be another than the one the check began with (log 19). -/
def Table.afPrimary (t : Table) (x : PathRec) (f : Nat) : Table :=
  match t.lookup x false with
  | some n =>
    t.mapRec n (fun r =>
      if r.code = 0 ∧ (findSlot (fun o => o.band == .fm && o.code == 0 && o.primary == some f && !(r.primary == some f)) 0
          t.slots).isSome then r
      else r.makePrimary f)
  | none => t

/-- R129 step 3. -/
def Table.scanQuality (t : Table) (f q : Nat) : Table :=
  { t with slots := t.slots.map (fun x => { x with record := x.record.map (fun r =>
      if r.band = .fm then r.setQ f q else r) }) }

/-! ## The decision of a dwell (R126, R130) -/

/-- R126. -/
def Table.admits (t : Table) (code : Nat) (pty : Option Nat) : Bool :=
  (match pty with | none => true | some p => t.mask.getLsbD p) ||
    (decide (code ≠ 0) && t.presets.any (fun x => match x with | some p => p.key.code == code | none => false))

/-- R130: the record the scan creates. -/
def scanRecord (code f q : Nat) (pty : Option Nat) : StationRec where
  code := code
  band := .fm
  name := none
  pty := pty
  freqs := [⟨f, q, 0⟩]
  tp := false
  preset := none
  origin := .scan
  age := 0

/-- R130. DESIGN CHOICE (log 19): the AF list decoded in the dwell joins the created record too, by R125, as one of all the decoded fields
of the rule's last sentence; the table's row names the program type, the name and TP alone. -/
def Table.createScan (t : Table) (code f q : Nat) (d : Decoded) : Table :=
  match t.create (scanRecord code f q d.pty) with
  | some (n, u) => u.mapRec n (fun r => r.take d)
  | none => t

/-- R130: the table of outcomes. A frequency that a held code has joined by R124 earlier in the dwell is listed by then, and its figures
stand: DESIGN CHOICE (log 19). -/
def Table.dwell (t : Table) (f q : Nat) (d : Decoded) : Table :=
  let c := d.code.getD 0
  if c ≠ 0 then
    match t.byCode c with
    | some n => t.mapRec n (fun r => { r.join ⟨f, q, 0⟩ with age := 0 })
    | none => if t.admits c d.pty then t.createScan c f q d else t
  else
    match t.byFreq .fm f with
    | some n => t.mapRec n (fun r => { r with age := 0 })
    | none => t.createScan 0 f q { d with pty := none }

/-! ## Counting the changes of a step (R120) -/

/-- R119, R120: what of a record is content: everything but the ages. -/
def StationRec.content (r : StationRec) : StationRec :=
  { r with age := 0, freqs := r.freqs.map (fun e => { e with age := 0 }) }

/-- R120, R124: the content differs, or a merge has touched the slot. -/
def StaSlot.changed (old new : StaSlot) : Bool :=
  decide (old.record.map StationRec.content ≠ new.record.map StationRec.content ∨ old.revision ≠ new.revision)

/-- R120: each changed slot's revision rises by 1, once for the step. -/
def countSlots : List StaSlot → List StaSlot → List StaSlot
  | o :: os, n :: ns => { n with revision := if StaSlot.changed o n then o.revision + 1 else o.revision } :: countSlots os ns
  | _, ns => ns

def anyChanged : List StaSlot → List StaSlot → Bool
  | o :: os, n :: ns => StaSlot.changed o n || anyChanged os ns
  | _, _ => false

/-- R120, R132: the reservation becomes none at a change of the slot it names. -/
def keepReservation (old new : List StaSlot) (r : Option (Nat × BitVec 16)) : Option (Nat × BitVec 16) :=
  match r with
  | none => none
  | some (n, v) =>
    match old[n]?, new[n]? with
    | some o, some x => if StaSlot.changed o x then none else some (n, v)
    | _, _ => some (n, v)

/-- R120: the changes between the table as the step found it and the table it leaves. -/
def Table.count (old new : Table) : Table :=
  { new with slots := countSlots old.slots new.slots
             reservation := keepReservation old.slots new.slots new.reservation }

/-- R120: a step whose changes of the table are device-originated. -/
def State.countDevice (old s : State) : State :=
  let t := s.mapSta (fun x => old.sta.count x)
  if anyChanged old.sta.slots s.sta.slots then t.raise .stationChanged else t

/-- R120: a step whose changes of the table are the host's. -/
def State.countHost (old s : State) : State := s.mapSta (fun x => old.sta.count x)

end Sys2Proof.Machine
end

