-- ==== Sys2Proof/Machine/TunerOps.lean ====
section
/-! DEFINITION. The tuner path controller's and the scan controller's shared operations (06_tuner_paths.md, 7.5): quality, tunes, the
plan of P2, rear wishes, the AF check, failure and scan windows. -/

namespace Sys2Proof.Machine

def State.setPath (s : State) (p : Path) (x : PathRec) : State :=
  s.mapTun (fun t => { t with path := t.path.set p x })

/-- R101. -/
def radioSource : Path → Source
  | .p1 => .radio1 | .p2 => .radio2

/-- R102: q from FS, MP and ADJ. -/
def quality (fs mp adj : Nat) : Nat :=
  (clampInt 0 100 (2 * ((fs : Int) - 15) - ((mp / 2 : Nat) : Int) - ((adj / 2 : Nat) : Int))).toNat

/-- R110: RADIO_1's quality as the cabin hears it. DESIGN CHOICE (log 22): P1's and P2's measurements, each every 10 ms from its own lock, need
not coincide, and P2's q enters as it stands: 0 until P2's first measurement after its lock. -/
def State.radioQuality (s : State) : Nat :=
  let x := s.path .p1
  let y := s.path .p2
  if y.role = .partner ∧ y.state = .locked then min 100 (max x.q y.q + min x.q y.q / 4) else x.q

/-- R103, R113: the settling time in ms. -/
def settleTime : Band → Nat
  | .fm => 12 | .am => 40

/-! ## Tuning (R103) -/

/-- R114: the hold count is empty, and no check is due. -/
def Tuner.emptyHold (t : Tuner) : Tuner := { t with holdCount := 0, holdDue := false }

/-- R102, R104: what the start of TUNING clears in the record. -/
def PathRec.cleared (x : PathRec) : PathRec :=
  { x with fs := 0, mp := 0, adj := 0, q := 0, decoded := Decoded.absent, measured := false }

/-- R103: the tune command is sent. -/
def PathRec.command (x : PathRec) : PathRec :=
  { x with state := .tuning, phase := some .confirming, wait := some 20, retry := 0, retryTimer := none, retrying := false }

/-- R103: the fade that precedes the command. The retry count, which R100 counts in an attempt, is 0 here: DESIGN CHOICE (log 22). -/
def PathRec.fadeFirst (x : PathRec) : PathRec :=
  { x with state := .tuning, phase := some .fading, wait := some 6, retry := 0, retryTimer := none, retrying := false }

/-- R103: whether the path carries a listener source. -/
def PathRec.carries (x : PathRec) : Path → Bool
  | .p1 => true
  | .p2 => x.role == .rear

/-- R123: the association at the start of TUNING or SEEKING. -/
def State.dropAssoc (s : State) (p : Path) : State := s.mapSta (·.setAssoc p ⟨none, false⟩)

/-- R103: a tune order for a path that is not in TUNING. P1 leaves IDLE in CONFIRMING (R118), and a FAILED path too (R105).
P1's leaving LOCKED empties the hold count (R114). -/
def State.beginTune (s : State) (p : Path) (st : Station) : State :=
  let x := s.path p
  let src := radioSource p
  let y := { x.cleared with station := st }
  let s := if p = .p1 then s.mapTun Tuner.emptyHold else s
  if x.carries p ∧ s.rend.hush.get src = false ∧ x.state ≠ .failed ∧ ¬ (p = .p1 ∧ x.state = .idle) then
    (((s.setPath p y.fadeFirst).dropAssoc p).orderHush src 5).annSync p
  else ((s.setPath p y.command).dropAssoc p).annSync p

/-- R103: a tune order. -/
def State.startTune (s : State) (p : Path) (st : Station) : State :=
  let x := s.path p
  match x.state, x.phase with
  | .tuning, some .fading => s.setPath p { x with station := st }
  | .tuning, _ => s.setPath p { x with station := st }.command
  | _, _ => s.beginTune p st

/-! ## Scan windows (R128, R131) -/

/-- R128: the interval timer starts at the scan interval. -/
def State.startInterval (s : State) : State :=
  s.mapScan (fun c => { c with timer := some (c.interval * 1000) })

/-- R131: a running window ends, and the interval timer starts. -/
def State.endWindow (s : State) : State :=
  match s.scan.window with
  | none => s
  | some _ => (s.mapScan (fun c => { c with window := none })).startInterval

/-- R128: the five conditions. -/
def State.scanAllowed (s : State) : Bool :=
  s.tun.flags.scan && ((s.path .p1).state == .locked) && decide (s.scan.permit ≤ (s.path .p1).q) &&
    ((s.path .p2).role != .rear) && ((s.path .p2).state != .failed)

/-! ## The plan of P2 (R109) -/

/-- R107, R109: a rear zone that needs P2, with its station. -/
def State.rearNeed (s : State) (z : Zone) (w : Wish) : Option Station :=
  if s.entSource z = some .radio2 then
    match w with
    | .station st => some st
    | _ => some (s.path .p2).station
  else none

/-- R109: the first line that applies: the role, and where P2 is sent. -/
def State.plan (s : State) : Role × Option Station :=
  match s.rearNeed .rearL s.tun.wishL, s.rearNeed .rearR s.tun.wishR with
  | some st, _ => (.rear, some st)
  | none, some st => (.rear, some st)
  | none, none =>
    if (s.path .p2).state = .failed then (.idle, none)
    else
      match s.tun.check.bind AfCheck.trial, s.scan.window with
      | some t, _ => (.scan, some ⟨.fm, t.cand⟩)
      | none, some _ => (.scan, some ⟨.fm, s.scan.cursor⟩)
      | none, none =>
        if s.tun.flags.diversity ∧ (s.path .p1).station.band = .fm ∧ (s.path .p1).state = .locked then
          (.partner, some (s.path .p1).station)
        else (.idle, none)

/-- R111: a trial by P2 ends with its candidate untried. -/
def State.cancelTrial (s : State) : State :=
  s.mapTun (fun t => { t with check := t.check.map (fun c => { c with trial := none }) })

/-- R111: P2's entry to REAR: the window ends, the trial is cut, and a P2 already LOCKED at the station counts as locking. -/
def State.enterRear (s : State) (st : Station) : State :=
  let t := (s.endWindow).cancelTrial
  let x := t.path .p2
  if x.station = st ∧ x.state = .locked then
    (((t.mapSta (·.setAssoc .p2 ⟨none, true⟩)).liftHush .radio2)).annSync .p2
  else t

/-- R109: the role changes; leaving REAR ends P2's announcement (R142) and its association (R130, log 19). -/
def State.setRole (s : State) (r : Role) (st : Option Station) : State :=
  let x := s.path .p2
  if x.role = r then s
  else
    let t := s.setPath .p2 { x with role := r }
    let t := if x.role = .rear then (t.dropAssoc .p2).annSync .p2 else t
    match r, st with
    | .rear, some q => t.enterRear q
    | _, _ => t

/-- R109: P2 is sent to a station, or left uncommanded; in IDLE its retry count stays as it was, 1 where a resend was under way or had
just been confirmed (R100, log 22). -/
def State.sendP2 (s : State) (st : Option Station) : State :=
  let x := s.path .p2
  match st with
  | some q =>
    if x.station = q ∧ (x.state = .tuning ∨ x.state = .locked) then s else s.startTune .p2 q
  | none =>
    if x.state = .failed then s
    else s.setPath .p2 { x with state := .idle, phase := none, wait := none }

/-- R109: P2 is re-planned. -/
def State.planP2 (s : State) : State :=
  let pl := s.plan
  (s.setRole pl.1 pl.2).sendP2 pl.2

/-- R129 step 1: the cursor's frequency is named to P2, which is tuned to it from CONFIRMING whatever it stood on, or has the frequency
of its running tune replaced. -/
def State.nameVisit (s : State) : State :=
  let pl := s.plan
  let t := s.setRole pl.1 pl.2
  match pl with
  | (.scan, some q) => t.startTune .p2 q
  | _ => t.sendP2 pl.2

/-- R128, R129: a window begins with the first visit. -/
def State.beginWindow (s : State) : State :=
  (s.mapScan (fun c => { c with window := some ⟨500, .named 25 s.sta.admitQ⟩, timer := none, waiting := false })).nameVisit

/-- R128: the window that waited for an AF check begins or is skipped. -/
def State.scanAfterAf (s : State) : State :=
  if s.scan.waiting then
    if s.scanAllowed then s.beginWindow
    else (s.mapScan (fun c => { c with waiting := false })).startInterval
  else s

/-! ## Rear wishes (R107) -/

def State.wish (s : State) : Zone → Wish
  | .rearL => s.tun.wishL
  | .rearR => s.tun.wishR
  | _ => .none

def State.setWish (s : State) (z : Zone) (w : Wish) : State :=
  match z with
  | .rearL => s.mapTun (fun t => { t with wishL := w })
  | .rearR => s.mapTun (fun t => { t with wishR := w })
  | _ => s

def rearFollow : Zone → Notice
  | .rearL => .rearFollowL
  | _ => .rearFollowR

/-- R105, R107: a rear zone is made to follow the cabin. -/
def State.followCabin (s : State) (z : Zone) : State :=
  ((s.setWish z .cabin).setEnt z (some .radio1)).raise (rearFollow z)

/-- R107: the station a rear zone on the radio needs P2 for, P1's station being given. -/
def State.needs (s : State) (z : Zone) : Option Station :=
  match s.wish z, s.entSource z with
  | .station st, some .radio1 => if st = (s.path .p1).station then none else some st
  | .station st, some .radio2 => if st = (s.path .p1).station then none else some st
  | _, _ => none

/-- R107: a zone whose wish is the new station. -/
def State.joinP1 (s : State) (z : Zone) : State :=
  if s.wish z = .station (s.path .p1).station ∧ s.entSource z = some .radio2 then s.setEnt z (some .radio1) else s

/-- R107: one zone needs P2. -/
def State.takeP2 (s : State) (z : Zone) : State :=
  if (s.path .p2).state = .failed then s.followCabin z else s.setEnt z (some .radio2)

/-- R107: the rear wishes are resolved against P1's station; P2 is re-planned by the caller. -/
def State.resolveWishes (s : State) : State :=
  let t := (s.joinP1 .rearL).joinP1 .rearR
  match t.needs .rearL, t.needs .rearR with
  | none, none => t
  | some _, none => t.takeP2 .rearL
  | none, some _ => t.takeP2 .rearR
  | some a, some b =>
    if a = b ∨ (t.path .p2).state = .failed then (t.takeP2 .rearL).takeP2 .rearR
    else if t.entSource .rearR = some .radio2 ∧ t.entSource .rearL ≠ some .radio2 then
      (t.followCabin .rearL).takeP2 .rearR
    else (t.followCabin .rearR).takeP2 .rearL

/-! ## The AF check (R114 to R116) -/

/-- R115: the check ends, with or without a switch: the hold count starts again, P2 is re-planned and a waiting window follows. -/
def State.finishCheck (s : State) : State :=
  ((s.mapTun (fun t => { t.emptyHold with check := none })).planP2).scanAfterAf

/-- R115: a running check is abandoned. -/
def State.abandonCheck (s : State) : State :=
  match s.tun.check with
  | none => s
  | some _ => s.finishCheck

/-- R115: whether a candidate is accepted. -/
def State.acceptable (s : State) (c : AfCheck) (q : Nat) (code : Option Nat) : Bool :=
  decide (c.reference + s.tun.settings.afMargin ≤ q) &&
    (code.isNone || code == (s.path .p1).decoded.code)

/-- R115: the check switches to a candidate. -/
def State.switchTo (s : State) (f : Nat) : State :=
  let x := s.path .p1
  let t := s.mapSta (·.afPrimary x f)
  let t := (t.setPath .p1 { x with station := ⟨x.station.band, f⟩ }).raise .afSwitched
  ((t.mapTun (fun u => { u with peek := none })).resolveWishes.startTune .p1 ⟨x.station.band, f⟩).finishCheck

/-- R115: a candidate has been measured; the check switches, or the candidate counts as tried. -/
def State.judge (s : State) (c : AfCheck) (f q : Nat) (code : Option Nat) : State × Bool :=
  let t := s.mapSta (·.afQuality (s.path .p1) f q)
  if s.acceptable c q code then (t.switchTo f, true)
  else (t.mapTun (fun u => { u with check := some { c with tried := c.tried ++ [f], untried := c.untried.tail, trial := none } }),
        false)

/-- R115: a trial by P2 begins; a P2 already LOCKED at the candidate needs no tune, and its 30 ms and 200 ms run from the trial's beginning,
a code that it decoded before counting (log 22). -/
def State.beginTrial (s : State) (c : AfCheck) (f : Nat) : State :=
  let t := ((s.mapTun (fun u => { u with check := some { c with trial := some ⟨f, none, []⟩ } })).endWindow).planP2
  if (t.path .p2).state = .locked then
    t.mapTun (fun u => { u with check := u.check.map (fun k => { k with trial := some ⟨f, some 0, []⟩ }) })
  else t

/-- R115: the candidates from the next one on, as far as they can be tried at once. -/
def State.afTry : List Nat → State → State
  | [], s =>
    match s.tun.check with
    | some _ => s.finishCheck
    | none => s
  | f :: fs, s =>
    match s.tun.check with
    | none => s
    | some c =>
      let y := s.path .p2
      if y.role = .rear ∧ y.state = .locked ∧ y.station = ⟨.fm, f⟩ then
        let r := s.judge c f y.q y.decoded.code
        if r.2 then r.1 else State.afTry fs r.1
      else if y.role ≠ .rear ∧ y.state ≠ .failed then s.beginTrial c f
      else s

/-- R115: the check goes on, unless a trial or a peek runs. -/
def State.afAdvance (s : State) : State :=
  match s.tun.check with
  | none => s
  | some c => if c.trial.isSome ∨ s.tun.peek.isSome then s else s.afTry c.untried

/-- R109, R111: P2 is re-planned, and a check whose trial was cut goes on. -/
def State.replan (s : State) : State := (s.planP2).afAdvance

/-! ## Lock and failure (R103, R105) -/

/-- R103, R113: the path enters LOCKED; the hush of its listener source is lifted and an association is awaited (R123). With the attempt
over, the retry count is 0: DESIGN CHOICE (log 22). -/
def State.enterLocked (s : State) (p : Path) : State :=
  let x := s.path p
  let t := s.setPath p { x with state := .locked, phase := none, wait := none, retry := 0, retryTimer := none, retrying := false,
                                measured := false }
  let t := t.mapSta (·.setAssoc p ⟨none, x.carries p⟩)
  let t := if x.carries p then t.liftHush (radioSource p) else t
  match p with
  | .p1 => t.raise .tuned
  | .p2 => t.mapTun (fun u => { u with check := u.check.map (fun c =>
      { c with trial := c.trial.map (fun k => if k.sinceLock.isNone then { k with sinceLock := some 0 } else k) }) })

/-- R105: what P1's failure ends. The rear wishes are not resolved against the frequency where a failed seek leaves P1 (log 22). -/
def State.failFront (s : State) : State :=
  (s.mapTun (fun t => { t.emptyHold with seek := none, peek := none })).abandonCheck

/-- R105: a rear zone on RADIO_2 follows the cabin. -/
def State.strand (s : State) (z : Zone) : State :=
  if s.entSource z = some .radio2 then s.followCabin z else s

/-- R105: a path enters FAILED. The retry count keeps the 1 of the attempt that failed: DESIGN CHOICE (log 22). -/
def State.failPath (s : State) (p : Path) : State :=
  let x := s.path p
  let y := { x with state := .failed, phase := none, wait := none, fs := 0, mp := 0, adj := 0, q := 0, retryTimer := some 1000,
                    retrying := false, measured := false }
  let t := (s.setPath p y).raise (.pathFailed p)
  match p with
  | .p1 => t.failFront.replan
  | .p2 => (((t.endWindow.cancelTrial).strand .rearL).strand .rearR).replan

/-! ## Seek (R113) -/

/-- R113: the frequency of the next step. P2's is stepped over where the seek began there too (log 22, and State.seekOver). -/
def State.seekNext (s : State) (d : SeekDir) : Nat :=
  let x := s.path .p1
  let y := s.path .p2
  let f := Band.next x.station.band d x.station.freq
  if y.role = .rear ∧ y.station = ⟨x.station.band, f⟩ then Band.next x.station.band d f else f

/-- R113: the next step would pass over the frequency where the seek began, which P2 has in REAR. A seek stops after at most one full band,
so it stops here, at the last frequency before its start: DESIGN CHOICE (log 22). -/
def State.seekOver (s : State) (k : Seek) : Bool :=
  let x := s.path .p1
  Band.next x.station.band k.dir x.station.freq == k.start && s.seekNext k.dir != k.start

/-- R113 steps 1 and 2. -/
def State.seekStep (s : State) (k : Seek) : State :=
  let x := s.path .p1
  (s.setPath .p1 { x with station := ⟨x.station.band, s.seekNext k.dir⟩, wait := some 20, retry := 0 }).mapTun
    (fun t => { t with seek := some { k with settling := false } })

/-- R113: the seek stops. -/
def State.seekStop (s : State) : State :=
  ((s.mapTun (fun t => { t with seek := none })).enterLocked .p1).resolveWishes.replan

/-! ## Scan visits (R129, R130) -/

def nextVisit (f : Nat) : Nat := if 10800 ≤ f then 8750 else f + 10

/-- R129: a visit ends: the cursor advances, and the next visit starts if the window has time left. -/
def State.endVisit (s : State) : State :=
  match s.scan.window with
  | none => s
  | some w =>
    let t := s.mapScan (fun c => { c with cursor := nextVisit c.cursor, window := some { w with visit := .named 25 s.sta.admitQ } })
    if w.left = 0 then t else t.nameVisit.afAdvance

end Sys2Proof.Machine
end

