-- ==== Sys2Proof/Machine/CallOps.lean ====
section
/-! DEFINITION. The shared operations of the profile bank's takes (3.4), the call controller and the echo canceller
(09_calls_and_the_echo_canceller.md): take copies and their deferral, routes, reconvergence, mic choice, and a call's entering and
leaving ACTIVE. -/

namespace Sys2Proof.Machine

/-! ## The canceller's state (R162 to R166) -/

/-- R166: whether a change of the canceller's state raises ECHO_STATE. -/
def echoRaises (old new : EchoState) : Bool := old != .off && new != .off && old != new

def State.setEcho (s : State) (e : Echo) : State :=
  let t := s.mapCall (fun c => { c with echo := e })
  if echoRaises s.call.echo.state e.state then t.raise .echoState else t

/-- R162, R164: the converge test starts afresh in CONVERGING. -/
def Echo.startTest (e : Echo) : Echo := { e with state := .converging, timer := none, earned := false, hang := 0 }

/-- R60: a reconvergence notice is handed; it takes effect with the next render frame. -/
def State.reconverge (s : State) : State := s.mapCall (fun c => { c with reconverge := true })

/-- R60, R164: a notice that waits takes effect: the coefficients and ERLE are kept, and OFF ignores it. -/
def State.applyNotice (s : State) : State :=
  if s.call.reconverge then
    let t := s.mapCall (fun c => { c with reconverge := false })
    if t.call.echo.state = .off then t else t.setEcho t.call.echo.startTest
  else s

/-! ## Microphones (R150, R160) -/

/-- R151. -/
def micSetOf : Zone → MicSet
  | .driver => .front | .cabin => .all | .rearL => .rearL | .rearR => .rearR

/-- R160: the highest level, the lower-numbered microphone between equals. -/
def loudest (l : PerMic Gain) : Mic → List Mic → Mic
  | best, [] => best
  | best, m :: ms => loudest l (if Gain.below (l.get best) (l.get m) then m else best) ms

/-- R160: the choice at each entry to the ALL set. -/
def entryChoice (l : PerMic Gain) : Mic := loudest l .m1 [.m2, .m3, .m4]

/-- R160: whether a microphone's level is at least 12 qdB above the selected one's; a mute selection is passed over for any level. -/
def qualifies (sel cand : Gain) : Bool :=
  match sel, cand with
  | _, none => false
  | none, some _ => true
  | some a, some b => decide (a + 12 ≤ b)

/-- R160: the move at a delivery of levels. -/
def moveChoice (l : PerMic Gain) (sel : Mic) : Mic :=
  match Mic.all.filter (fun m => m != sel && qualifies (l.get sel) (l.get m)) with
  | [] => sel
  | m :: ms => loudest l m ms

/-- R160: the microphones that form the uplink. -/
def formsUplink (c : Call) (m : Mic) : Bool :=
  match c.route, c.routeSet, m with
  | .none, _, _ => false
  | _, .front, .m1 => true
  | _, .front, .m2 => true
  | _, .rearL, .m3 => true
  | _, .rearR, .m4 => true
  | _, .all, m => m == c.selected
  | _, _, _ => false

/-! ## Routes (R161) -/

/-- R161 step 1, R164: the coefficients of the set served are retained. -/
def Echo.store (e : Echo) (set : MicSet) : Echo :=
  if e.state = .off then e else { e with retained := e.retained.set set (some e.coeff) }

/-- R161 step 3, R164: the coefficients of a set are loaded, or zero. -/
def Echo.load (e : Echo) (set : MicSet) : Echo :=
  { e.startTest with coeff := (e.retained.get set).getD 0, erle := 0 }

/-- R160, R161, R164: the route serves a mic set; entering ALL makes the entry choice. -/
def Call.serveSet (c : Call) (set : MicSet) : Call :=
  { c with routeSet := set, selected := if set = .all then entryChoice c.speech else c.selected }

/-- R161: a change of route. U stands at 0 until a render frame forms it on the new route (R165, log 7). -/
def State.setRoute (s : State) (r : Route) (set : MicSet) : State :=
  let e := s.call.echo.store s.call.routeSet
  match r with
  | .none =>
    (s.mapCall (fun c => { c with route := .none })).setEcho { e.startTest with state := .off, target := 0, applied := 0 }
  | _ => (s.mapCall (fun c => { c.serveSet set with route := r })).setEcho { e.load set with target := 0, applied := 0 }

/-- R164: a mic-set change by CALL.MODE in ACTIVE. -/
def State.changeSet (s : State) (set : MicSet) : State :=
  let e := s.call.echo.store s.call.routeSet
  if e.state = .off then s.mapCall (fun c => c.serveSet set)
  else (s.mapCall (fun c => c.serveSet set)).setEcho (e.load set)

/-! ## Takes (R57 to R60) -/

/-- R57: the two waiting conditions. -/
def State.overrideWaits (s : State) : Bool := s.veh.override

def State.callWaits (s : State) (z : Zone) : Bool :=
  (z == .cabin) && (s.call.state == .active) && ((s.bank.staged.get z).eqPreset != (s.bank.current.get z).eqPreset)

def State.takeWaits (s : State) (z : Zone) : Bool := s.overrideWaits || s.callWaits z

def State.setTake (s : State) (z : Zone) (t : TakeState) : State :=
  s.mapBank (fun b => { b with take := b.take.set z t })

/-- R50: the filter memories of a zone return to zero; an absent memory is zero. -/
def Renderer.clearEq (r : Renderer) (z : Zone) : Renderer := { r with eqMem := r.eqMem.set z [] }

def Renderer.clearShelf (r : Renderer) (z : Zone) : Renderer := { r with shelfMem := r.shelfMem.set z [] }

/-- R50, R59: what a take from `old` to `new` clears. A new EQ preset clears the sections' memories and not the shelf's (log 24). -/
def State.takeMemories (s : State) (z : Zone) (old new : Profile) : State :=
  s.mapRend (fun r =>
    let r := if old.eqPreset = new.eqPreset then r else r.clearEq z
    if old.loudness = new.loudness ∨ z.rear then r else (r.clearEq z).clearShelf z)

/-- R59, R60: the take copy, with the take state made IDLE. A VOLUME whose step, curve index or entry in use differs from
that of `base` is delivered (R179). -/
def State.takeCopyFrom (s base : State) (z : Zone) : State :=
  let old := s.bank.current.get z
  let new := s.bank.staged.get z
  let t := (s.mapBank (fun b => { b with current := b.current.set z new })).setTake z .idle
  if old = new then t
  else
    let t := (t.takeMemories z old new).deliverVolumes base z
    let t := if z = .cabin ∧ old.eqPreset ≠ new.eqPreset then t.reconverge else t
    if old.trafficMode = new.trafficMode then t else ((t.takingUpdate.noteHeld .p1).noteHeld .p2).captureAfter s

/-- R59: a take on its own, its deliveries measured against the state it finds. -/
def State.takeCopy (s : State) (z : Zone) : State := s.takeCopyFrom s z

/-- R54, R55: whether a copy would change any field. -/
def State.takeChanges (s : State) (z : Zone) : Bool := decide (s.bank.current.get z ≠ s.bank.staged.get z)

/-- R57: an order of a watch, a TAKE or a RELEASE. -/
def State.watchOrder (s : State) (z : Zone) (release : Bool) : State :=
  match release, s.bank.take.get z with
  | false, .idle => if s.takeWaits z then s.setTake z .deferred else s.takeCopy z
  | true, .holding => if s.takeWaits z then s.setTake z .deferred else s.takeCopy z
  | _, _ => s

/-- R58: a DEFERRED zone that no condition makes wait. -/
def State.takeDue (s : State) (z : Zone) : Bool := (s.bank.take.get z == .deferred) && !s.takeWaits z

/-- R58: the check of one zone. -/
def State.checkDeferred (s : State) (z : Zone) : State := if s.takeDue z then s.takeCopy z else s

/-- R58: the check of every zone. -/
def State.deferredCheck (s : State) : State :=
  (((s.checkDeferred .cabin).checkDeferred .driver).checkDeferred .rearL).checkDeferred .rearR

/-! ## The call (R151, R154 to R156, R159) -/

/-- R151: whether a mode names a zone, and with which shadow flag. -/
def callClaim (mode z : Zone) : Option Bool :=
  if z = mode then some false
  else if mode = .driver ∧ z = .cabin then some true
  else none

/-- R151: the CALL claims of one zone are brought to a mode. -/
def State.callZone (s : State) (mode z : Zone) : State :=
  match callClaim mode z with
  | some shadow => s.fileTold z .call shadow
  | none => s.withdrawTold z .call

/-- R151, R157: the CALL claims are brought to a mode; all zones are one moment of R143 (log 25). -/
def State.callClaims (s : State) (mode : Zone) : State :=
  ((((s.callZone mode .cabin).callZone mode .driver).callZone mode .rearL).callZone mode .rearR).captureAfter s

/-- R154, R155, R159: the call enters ACTIVE. -/
def State.callEnter (s : State) : State :=
  let t := (s.mapCall (fun c => { c with state := .active })).callClaims s.call.mode
  t.setRoute .call (micSetOf s.call.mode)

/-- R155, R156: an ACTIVE call leaves ACTIVE: claims, route, state, report. -/
def State.callLeave (s : State) (dest : CallState) : State :=
  (((s.withdrawAll .call).setRoute .none s.call.routeSet).mapCall (fun c => { c with state := dest })).deferredCheck

/-- R155, R159: a hold. -/
def State.callHeld (s : State) : State := s.callLeave .held

/-- R159: the force-hold order. -/
def State.forceHold (s : State) : State :=
  let t := s.mapCall (fun c => { c with savedTag := some s.call.state })
  if s.call.state = .active then t.callHeld else t

/-- R159: the resume order. -/
def State.resumeCall (s : State) : State :=
  let t := if s.call.savedTag = some .active ∧ s.call.state = .held then s.callEnter else s
  t.mapCall (fun c => { c with savedTag := none })

/-- R159: the drop order. -/
def State.dropCall (s : State) : State :=
  let t := match s.flush .ring with | .ok r => r.1 | .error _ => s
  t.mapCall (fun c => { c with state := .idle, ringClip := none, savedTag := none })

end Sys2Proof.Machine
end

