-- ==== Sys2Proof/Machine/VehicleOps.lean ====
section
/-! DEFINITION. The vehicle port's shared operations (10_vehicle_link_and_emergency_override.md): what each received record does, the
STATUS record, the layouts of R191, and the reading of a frame on the bus. -/

namespace Sys2Proof.Machine

/-! ## Speed (R169) -/

/-- R169: a SPEED record. -/
def State.speedRecord (s : State) (v : Nat) : State :=
  (s.mapVeh (fun x => { x with speed := min v 300, age := 0, stale := false })).deliver .speed ((min v 300 : Nat) : Int)

/-! ## Chimes (R170) -/

def State.setRefusal (s : State) (r : Option ChimeRefusal) : State := s.mapVeh (fun x => { x with refusal := r })

/-- R170: a CHIME record. -/
def State.chimeRecord (s : State) (clip mask repeats gap : Nat) : State :=
  match s.place .chime ⟨clip, mask, min repeats 15, gap, 0, 0, 0⟩ with
  | .ok t => t.setRefusal none
  | .error c => s.setRefusal (some ⟨false, clip, c⟩)

/-- R170: a CHIME_STOP record. -/
def State.chimeStopRecord (s : State) : State :=
  match s.flush .chime with
  | .ok r => r.1.setRefusal none
  | .error c => s.setRefusal (some ⟨true, 0, c⟩)

/-! ## Override (R174, R176) -/

/-- R174, R176: the CABIN CALL step is set. -/
def State.setCallStep (s : State) (step : Nat) : State :=
  s.mapRend (fun r => { r with volume := r.volume.set .cabin { r.volume.cabin with call := step } })

/-- R58, R176 step 6, R179: the exit's check of the DEFERRED zones. CABIN's VOLUME figures, which the step given back and a take can both
have changed since `base`, are delivered once. -/
def State.exitCheck (s base : State) : State :=
  let t :=
    if s.takeDue .cabin ∧ s.takeChanges .cabin then s.takeCopyFrom base .cabin
    else (s.checkDeferred .cabin).deliverVolumes base .cabin
  ((t.checkDeferred .driver).checkDeferred .rearL).checkDeferred .rearR

/-- R174: the entry. The claims of its four zones are one moment of R143 (log 25). -/
def State.overrideEnterRecord (s : State) : State :=
  if s.veh.override then s
  else
    let t := s.mapVeh (fun x => { x with override := true })
    let t := ((((t.fileTold .cabin .telem false).fileTold .driver .telem true).fileTold .rearL .telem true).fileTold .rearR .telem
      true).captureAfter s
    let t := t.forceHold.setRoute .telem .all
    (((t.mapVeh (fun x => { x with savedStep := some t.rend.volume.cabin.call })).setCallStep t.veh.step).deliverVolumes t .cabin).raise
      .override

/-- R176: the exit; `drop` for EXIT with DROP. -/
def State.overrideExitRecord (s : State) (drop : Bool) : State :=
  if !s.veh.override then s
  else
    let t := (s.mapVeh (fun x => { x with savedStep := none })).setCallStep (s.veh.savedStep.getD s.rend.volume.cabin.call)
    let t := t.setRoute .none t.call.routeSet
    let t := if drop then t.dropCall else t.resumeCall
    let t := t.withdrawAll .telem
    ((t.mapVeh (fun x => { x with override := false })).exitCheck s).raise .override

/-! ## STATUS (R172, R191) -/

/-- R9, R172: the leading claim of a zone. -/
def State.leader (s : State) (z : Zone) : Option (Source × ClaimClass) :=
  (s.zone z).leading.map (fun src => (src, classOf src))

/-- R172: the record as built now. -/
def State.statusNow (s : State) : StatusRecord where
  override := s.veh.override
  call := s.call.state
  chimeState := (s.voice .chime).state
  chimeEntries := (s.voice .chime).queue.length
  vehicleWaiting := s.voc.vehicle.length
  freeReserve := s.pool.freeReserve
  leading := ⟨s.leader .cabin, s.leader .driver, s.leader .rearL, s.leader .rearR⟩
  stale := s.veh.stale
  refusal := s.veh.refusal

/-- R172: a STATUS record is built, replacing one that waits, and the next period starts. -/
def State.buildStatus (s : State) : State :=
  s.mapVeh (fun x => { x with status := some s.statusNow, statusTimer := some 100 })

def callNum : CallState → Nat
  | .idle => 0 | .ringing => 1 | .active => 2 | .held => 3

def voiceStateNum : VoiceState → Nat
  | .idle => 0 | .starting => 1 | .waitingFill => 2 | .waitingZone => 3 | .playing => 4 | .gap => 5 | .retiring => 6

/-- R191: the code of a chime refusal, two bits. -/
def chimeCode : RefCode → Nat
  | .state => 1 | .inUse => 2 | .busy => 3 | _ => 0

def bitOf (b : Bool) : Nat := if b then 1 else 0

/-- R191: a leading claim in one byte. -/
def leaderByte : Option (Source × ClaimClass) → Byte
  | none => BitVec.ofNat 8 15
  | some (src, c) => BitVec.ofNat 8 (src.num + 16 * c.priority)

/-- R191: byte 7. -/
def refusalByte : Option ChimeRefusal → Byte
  | none => 0
  | some r => BitVec.ofNat 8 ((if clipNumber r.clip then r.clip else 0) + 64 * chimeCode r.code)

/-- R191: the STATUS record's eight bytes. -/
def StatusRecord.bytes (r : StatusRecord) : List Byte :=
  [BitVec.ofNat 8 (bitOf r.override + 2 * callNum r.call + 8 * bitOf r.stale + 16 * voiceStateNum r.chimeState
      + 128 * bitOf r.refusal.isSome),
   BitVec.ofNat 8 (r.chimeEntries + 16 * r.vehicleWaiting),
   BitVec.ofNat 8 r.freeReserve,
   leaderByte r.leading.cabin, leaderByte r.leading.driver, leaderByte r.leading.rearL, leaderByte r.leading.rearR,
   refusalByte r.refusal]

/-- R191: the status of a CHIME_DONE; the vehicle queue holds none of the last two (R93), whose bytes are the model's choice (log 25). -/
def statusNum : CompStatus → Nat
  | .played => 0 | .underrun => 1 | .expired => 2 | .flushed => 3 | .captured => 4 | .truncated => 5

/-- R191: a CHIME_DONE's two bytes. -/
def Completion.chimeBytes (c : Completion) : List Byte := [BitVec.ofNat 8 c.clip, BitVec.ofNat 8 (statusNum c.status)]

/-! ## Reading a frame of the bus (R168, R191) -/

/-- The records the vehicle port accepts. -/
inductive VehicleRecord
  | speed (v : Nat)
  | chime (clip mask repeats gap : Nat)
  | chimeStop
  | enter
  | exit (drop : Bool)
deriving DecidableEq, Repr

/-- R191: the record of an offset and its data; none where the data is too short or the command is none of the three. -/
def recordOf : Nat → List Byte → Option VehicleRecord
  | 0, a :: b :: _ => some (.speed (word2 a b))
  | 1, a :: b :: c :: d :: e :: _ => some (.chime a.toNat b.toNat c.toNat (word2 d e))
  | 2, _ => some .chimeStop
  | 3, a :: _ =>
    if a = 1 then some .enter else if a = 2 then some (.exit false) else if a = 3 then some (.exit true) else none
  | _, _ => none

/-- R168: what a frame says to the port, given the identifier base; none is ignored. -/
def readFrame (base : Nat) (f : VehicleFrame) : Option VehicleRecord :=
  if f.extended ∨ f.remote ∨ f.id < base then none else recordOf (f.id - base) f.data

/-- R169, R170, R174, R176: the effect of an accepted record. -/
def State.vehicleRecord (s : State) : VehicleRecord → State
  | .speed v => s.speedRecord v
  | .chime c m r g => s.chimeRecord c m r g
  | .chimeStop => s.chimeStopRecord
  | .enter => s.overrideEnterRecord
  | .exit drop => s.overrideExitRecord drop

end Sys2Proof.Machine
end

