-- ==== Sys2Proof/Machine/Mixing.lean ====
section
/-! DEFINITION. One render frame, part by part: the millisecond timers (log 1), the voices (R83, R86 to R91), the sources, mixing,
equalisation and saturation (R38 to R40), the thermal model (R41), the capture (R144, R145), the far-end level (R158) and the uplink
(R165). Units of samples: log 10. -/

namespace Sys2Proof.Machine

/-! ## Timers (log 1) -/

/-- One millisecond less; 0 stands for due. -/
def countDown : Option Nat → Option Nat
  | none => none
  | some n => some (n - 1)

def VoiceRec.tick (r : VoiceRec) : VoiceRec :=
  { r with gap := countDown r.gap, fade := countDown r.fade,
           maxWait := match r.state with
             | .starting => countDown r.maxWait
             | .waitingFill => countDown r.maxWait
             | .waitingZone => countDown r.maxWait
             | _ => r.maxWait }

def Announcement.tick (a : Announcement) : Announcement :=
  match a.state with
  | .quiet => a
  | _ => { a with age := min 90000 (a.age + 1), tail := countDown a.tail }

def PathRec.tick (x : PathRec) : PathRec := { x with wait := countDown x.wait, retryTimer := countDown x.retryTimer }

def AfCheck.tick (c : AfCheck) : AfCheck :=
  { c with trial := c.trial.map (fun t => { t with sinceLock := t.sinceLock.map (· + 1) }) }

def Visit.tick : Visit → Visit
  | .named n a => .named (n - 1) a
  | .dwell n q => .dwell (n - 1) q

def Scan.tick (c : Scan) : Scan :=
  { c with timer := countDown c.timer, window := c.window.map (fun w => ⟨w.left - 1, w.visit.tick⟩) }

def Tuner.tick (t : Tuner) : Tuner :=
  { t with path := ⟨t.path.p1.tick, t.path.p2.tick⟩, check := t.check.map AfCheck.tick,
           peek := t.peek.map (fun p => { p with time := p.time + 1 }), peekAge := t.peekAge.map (fun n => min 2000 (n + 1)) }

def ZoneState.tick (zs : ZoneState) : ZoneState := { zs with yieldTimer := countDown zs.yieldTimer }

def Vehicle.tick (v : Vehicle) : Vehicle :=
  { v with age := min 1000 (v.age + 1), statusTimer := countDown v.statusTimer }

/-- Every running millisecond timer counts. -/
def State.tick (s : State) : State :=
  let a := s.arb.zones
  let v := s.voc.voices
  { s with
    arb := { s.arb with zones := ⟨a.cabin.tick, a.driver.tick, a.rearL.tick, a.rearR.tick⟩ }
    voc := { s.voc with voices := ⟨v.chime.tick, v.prompt.tick, v.traffic.tick, v.ring.tick⟩ }
    tun := s.tun.tick
    scan := s.scan.tick
    traf := { s.traf with ann := ⟨s.traf.ann.p1.tick, s.traf.ann.p2.tick⟩ }
    veh := s.veh.tick }

/-! ## The thermal model (R41) -/

/-- R179: the largest reduction of the 22 channels. -/
def maxReduction (l : List Thermal) : Nat := l.foldl (fun m t => max m t.reduction) 0

/-- R179: a delivery where the largest reduction has changed. -/
def State.deliverThermal (s : State) (old : Nat) : State :=
  s.deliverChange .maxThermalL (old : Int) (maxReduction s.rend.thermal : Int)

/-- R41: a cool count of 16 lowers the reduction. -/
def Thermal.fall (t : Thermal) : Thermal :=
  if 16 ≤ t.cool then { t with reduction := t.reduction - 1, cool := 0 } else t

/-- R41 step 1: the mean square of 48 samples, in units of 1/4096 of full-scale power. -/
def power (out : List Rat) : Nat :=
  (4096 * sumRat (out.map (fun x => x * x)) / (48 * 2 ^ 128)).floor.toNat

/-- R41 steps 2 and 3; a fall at a count of 16 is left to COOL_COUNT_EXPIRY (log 1). -/
def Thermal.frame (t : Thermal) (e : ChannelEntry) (p : Nat) : Thermal :=
  let en := min Config.energyMax (t.energy + p - t.energy / e.tau)
  let high := e.rated * e.tau
  let t := { t with energy := en }
  if high < en then { t with reduction := min 96 (t.reduction + 1), cool := 0 }
  else if en < 7 * high / 8 then
    if t.reduction = 0 then { t with cool := 0 } else { t with cool := t.cool + 1 }
  else { t with cool := 0 }

def thermalFrames (b : Bank) : Nat → List Thermal → List (List Rat) → List Thermal
  | k, t :: ts, o :: os => t.frame (b.entry k) (power o) :: thermalFrames b (k + 1) ts os
  | _, ts, [] => ts
  | _, [], _ => []

/-- R41: some reduction has gone from 0 to a non-zero value. -/
def thermalRose : List Thermal → List Thermal → Bool
  | o :: os, n :: ns => (o.reduction == 0 && n.reduction != 0) || thermalRose os ns
  | _, _ => false

/-- R41: the thermal model at the end of a frame. -/
def State.thermalStep (s : State) : State :=
  let new := thermalFrames s.bank 0 s.rend.thermal s.rend.out.speakers
  let t := s.mapRend (fun r => { r with thermal := new })
  let t := if thermalRose s.rend.thermal new then t.raise .thermal else t
  t.deliverThermal (maxReduction s.rend.thermal)

/-- Falls still due from the frame before. -/
def State.thermalFalls (s : State) : State :=
  (s.mapRend (fun r => { r with thermal := r.thermal.map Thermal.fall })).deliverThermal (maxReduction s.rend.thermal)

/-! ## The voices (R83, R86 to R91) -/

/-- R88: clip samples of one frame. -/
def perFrame : Option Nat → Nat
  | some 24000 => 24
  | some 16000 => 16
  | _ => 48

/-- R83, R88: clip samples as 48 kHz output in units of 2^-43 of full scale, scaled by the entry trim. -/
def clipOutput (rate : Option Nat) (trim : Int) (samples : List Sample) : List Int :=
  let xs := samples.map (fun v => v.toInt * 2 ^ 8)
  let ys := match rate with
    | some 24000 => takePad (2 * samples.length) (Config.convertTo48 24 xs)
    | some 16000 => takePad (3 * samples.length) (Config.convertTo48 16 xs)
    | _ => xs
  ys.map (fun x => x * (multiplier (some trim) : Int))

/-- R86: out of STARTING at the start of a frame. -/
def State.leaveStarting (s : State) (v : Voice) : State :=
  let r := s.voice v
  match r.state, r.queue with
  | .starting, e :: _ =>
    let c := s.pool.clip e.clip
    if c.state = .filling ∧ (e.threshold = 0 ∨ c.fill < e.threshold) then s.setVoice v { r with state := .waitingFill }
    else s.leaveFill v
  | _, _ => s

/-- R83: what the voice delivers when it takes no sample: the last output sample during a fade and in WAITING_ZONE after the first
sample, zero otherwise. -/
def VoiceRec.idleOutput (r : VoiceRec) : List Int :=
  if r.fade.isSome ∨ (r.state = .waitingZone ∧ r.first) then List.replicate 48 r.last else List.replicate 48 0

/-- R88: the voice has taken n samples. -/
def VoiceRec.took (r : VoiceRec) (n : Nat) : VoiceRec :=
  if n = 0 then r else { r with position := r.position + n, first := true, maxWait := none }

/-- What a frame ends in a voice: the entry's pass (R90), or the entry by an underrun (R91). -/
inductive FrameEnd
  | pass (e : Entry)
  | underrun
deriving DecidableEq, Repr

/-- What a voice does in a frame before anything ends: its state, its 48 output samples, and what its samples end. -/
structure VoiceAudio where
  state : State
  out : List Int
  ends : Option FrameEnd

/-- R90: the pass ends; the last entry of the queue's passes retires without a fade. -/
def State.endPass (s : State) (v : Voice) (e : Entry) : State :=
  let r := s.voice v
  let n := passesAfter e r.passes
  if anotherPass e r.passes then
    s.setVoice v { r with state := .gap, passes := n, position := 0, gap := some e.gap }
  else ((s.setVoice v { r with passes := n }).conclude v .played).retire v

/-- The 48 output samples of a frame, kept as the last output sample. -/
def State.output (s : State) (v : Voice) (out : List Int) : State :=
  s.setVoice v { s.voice v with last := out.getLastD 0 }

/-- R88, R90, R91: the samples of one frame in PLAYING. -/
def State.playFrame (s : State) (v : Voice) (e : Entry) : VoiceAudio :=
  let r := s.voice v
  let c := s.pool.clip e.clip
  let k := perFrame c.rate
  let stop := if c.state = .filling then c.fill else c.sealedLen
  let n := min k (stop - r.position)
  let sound := clipOutput c.rate e.trim (Memory.load c.pages s.pool.mem r.position n)
  let t := s.setVoice v (r.took n)
  if c.state = .filling then
    if r.position + k ≤ c.fill then ⟨t.output v sound, sound, none⟩
    else
      let held := sound.getLastD r.last
      let out := sound ++ List.replicate (48 - sound.length) held
      ⟨t.output v out, out, some .underrun⟩
  else
    let out := takePad 48 sound
    ⟨t.output v out, out, if c.sealedLen ≤ r.position + k then some (.pass e) else none⟩

/-- R83: one frame of a voice, up to what it ends. It reads and writes the voice's own record alone, so that the four voices all act
on the states that the frame found. -/
def State.voiceFrame (s : State) (v : Voice) : VoiceAudio :=
  let t := s.leaveStarting v
  let r := t.voice v
  match r.state, r.queue with
  | .playing, e :: _ => t.playFrame v e
  | _, _ => ⟨t.output v r.idleOutput, r.idleOutput, none⟩

/-- R90, R91: what the frame's samples have ended takes place; what it reports to another voice counts from the next frame on
(R88). -/
def State.endFrame (s : State) (v : Voice) : Option FrameEnd → State
  | none => s
  | some (.pass e) => s.endPass v e
  | some .underrun => (s.conclude v .underrun).startFade v

/-! ## Sources (R22, R101, R110, R138, R158) -/

def scaleBy (m : Int) (l : List (Int × Int)) : List (Int × Int) := l.map (fun x => (x.1 * m, x.2 * m))

def mono (l : List Int) : List (Int × Int) := l.map (fun x => (x, x))

def noSound : List (Int × Int) := List.replicate 48 (0, 0)

/-- R110: two paths' samples weighted by quality. -/
def combine (q1 q2 : Nat) : List (Int × Int) → List (Int × Int) → List (Int × Int)
  | a :: as, b :: bs =>
    (Config.diversityCombine q1 q2 a.1 b.1, Config.diversityCombine q1 q2 a.2 b.2) :: combine q1 q2 as bs
  | _, _ => []

/-- R22: what a path's demodulator delivers: an AM station, and an FM station received in mono, has equal components, the first one of
the samples that reach it. -/
def State.demodulated (s : State) (inp : FrameInput) (p : Path) : List (Int × Int) :=
  if (s.path p).station.band = .am ∨ inp.mono.get p then (inp.programme.get p).map (fun x => (x.1, x.1))
  else inp.programme.get p

/-- R101, R110, R138: the programme of a path, as its radio source and its traffic source deliver it. -/
def State.programme (s : State) (inp : FrameInput) (p : Path) : List (Int × Int) :=
  let x := s.path p
  let y := s.path .p2
  if x.state ≠ .locked then noSound
  else if p = .p1 ∧ y.role = .partner ∧ y.state = .locked then
    scaleBy (2 ^ 20) (combine x.q y.q (s.demodulated inp .p1) (s.demodulated inp .p2))
  else scaleBy (2 ^ 20) (s.demodulated inp p)

/-- R158, R174: a downlink as a source. -/
def downSource (trim : Int) (l : List Int) : List (Int × Int) :=
  scaleBy (multiplier (some trim) : Int) (mono (Config.upsampleDownlink l))

/-- The twelve sources' samples in this frame. -/
def State.sources (s : State) (inp : FrameInput) (chime prompt traffic ring : List Int) : PerSource (List (Int × Int)) where
  mediaA := scaleBy (2 ^ 20) inp.mediaA
  mediaB := scaleBy (2 ^ 20) inp.mediaB
  radio1 := s.programme inp .p1
  radio2 := s.programme inp .p2
  traffic1 := s.programme inp .p1
  traffic2 := s.programme inp .p2
  voiceChime := mono chime
  voicePrompt := mono prompt
  voiceTraffic := mono traffic
  voiceRing := mono ring
  call := downSource s.call.downTrim inp.callDown
  telem := downSource 0 inp.telemDown

/-! ## Mixing and equalisation (R38, R39, R48) -/

/-- R22: the component of a side, in units of 2^-44. -/
def component : Side → Int × Int → Int
  | .l, x => 2 * x.1
  | .r, x => 2 * x.2
  | .c, x => x.1 + x.2

/-- Adds a source's samples times a multiplier. -/
def mixIn (side : Side) (m : Int) : List Int → List (Int × Int) → List Int
  | a :: as, x :: xs => (a + component side x * m) :: mixIn side m as xs
  | as, [] => as
  | [], _ => []

/-- R38: the contribution of a zone at position i of its channels, before equalisation. -/
def contribution (mix : PerSource (List MixPoint)) (snd : PerSource (List (Int × Int))) (side : Side) (i : Nat) : List Int :=
  Source.all.foldl
    (fun acc src =>
      let m := multiplier (((mix.get src).getD i MixPoint.mute).applied)
      if m = 0 then acc else mixIn side (m : Int) acc (snd.get src))
    (List.replicate 48 0)

def SectionMem.zero : SectionMem := ⟨0, 0, 0, 0⟩

/-- R48: a section's output; its coefficients have 30 fraction bits. -/
def Biquad.output (c : Biquad) (m : SectionMem) (x : Rat) : Rat :=
  (c.b0 * x + c.b1 * m.x1 + c.b2 * m.x2 - c.a1 * m.y1 - c.a2 * m.y2) / 2 ^ 30

/-- R48: a section over a run of samples, computed without limit (R38). -/
def sectionRun (c : Biquad) : SectionMem → List Rat → SectionMem × List Rat
  | m, [] => (m, [])
  | m, x :: xs =>
    let y := c.output m x
    let r := sectionRun c ⟨x, m.x1, y, m.y1⟩ xs
    (r.1, y :: r.2)

/-- R48: the sections of a group, first section first; an absent memory is zero. -/
def sectionsRun : List Biquad → List SectionMem → List Rat → List SectionMem × List Rat
  | [], _, xs => ([], xs)
  | c :: cs, ms, xs =>
    let r := sectionRun c (ms.headD SectionMem.zero) xs
    let t := sectionsRun cs ms.tail r.2
    (r.1 :: t.1, t.2)

/-- R38: the EQ group of a zone's channel. -/
def Bank.groupOf (b : Bank) (z : Zone) (k : Nat) : Nat := if z.rear then 8 else (b.entry k).group

def Bank.sections (b : Bank) (preset group : Nat) : List Biquad := (b.eq.getD preset []).getD group []

/-- R39: the shelf of a zone, where its loudness is on. -/
def State.shelf (s : State) (z : Zone) : Option Biquad :=
  if (s.profile z).loudness ∧ z.rear = false then
    let c := Config.shelfCoefficients (s.boost z)
    some ⟨c.1, c.2.1, c.2.2.1, c.2.2.2.1, c.2.2.2.2⟩
  else none

/-- A zone's contribution to one channel, with the memories it leaves. -/
structure ChannelAudio where
  out : List Rat
  sections : List SectionMem
  shelf : SectionMem
deriving DecidableEq, Repr

/-- R38: the contribution of a zone to the channel at position i. -/
def State.channelAudio (s : State) (snd : PerSource (List (Int × Int))) (z : Zone) (i k : Nat) : ChannelAudio :=
  let x := (contribution (s.rend.mix.get z) snd (s.bank.side z k) i).map (fun v => (v : Rat))
  let r := sectionsRun (s.bank.sections (s.profile z).eqPreset (s.bank.groupOf z k)) ((s.rend.eqMem.get z).getD i []) x
  let m := (s.rend.shelfMem.get z).getD i SectionMem.zero
  match s.shelf z with
  | some c => let y := sectionRun c m r.2; ⟨y.2, r.1, y.1⟩
  | none => ⟨r.2, r.1, SectionMem.zero⟩

def State.zoneAudio (s : State) (snd : PerSource (List (Int × Int))) (z : Zone) : Nat → List Nat → List ChannelAudio
  | _, [] => []
  | i, k :: ks => s.channelAudio snd z i k :: State.zoneAudio s snd z (i + 1) ks

/-! ## Saturation (R38, R40) -/

/-- R38: the largest positive 24-bit value and -1.0, in units of 2^-64. -/
def saturate (x : Rat) : Rat :=
  if x < -(2 ^ 64) then -(2 ^ 64) else if 2 ^ 64 - 2 ^ 41 < x then 2 ^ 64 - 2 ^ 41 else x

def clips (l : List Rat) : Bool := l.any (fun x => decide (x < -(2 ^ 64) ∨ 2 ^ 64 - 2 ^ 41 < x))

/-- R38: the sum of the zone contributions of loudspeaker channel k. -/
def speakerSum (cabin driver : List ChannelAudio) (heads : List Nat) (k : Nat) : List Rat :=
  let a := match cabin[k]? with | some c => c.out | none => List.replicate 48 0
  match driver[heads.idxOf k]? with
  | some d => List.zipWith (· + ·) a d.out
  | none => a

/-- R40: whether a zone has a mix point that is not mute at position i. -/
def soundsAt (mix : PerSource (List MixPoint)) (i : Nat) : Bool :=
  Source.all.any (fun src => ((mix.get src).getD i MixPoint.mute).applied.isSome)

/-- R40: CLIPPED of a zone for the channels that clip, by position. -/
def State.clipZone (s : State) (z : Zone) (positions : List Nat) : State :=
  if positions.any (fun i => soundsAt (s.rend.mix.get z) i) then s.raise (.clipped z) else s

/-- The positions of a list of outputs that clip. -/
def clipPositions (l : List (List Rat)) : List Nat :=
  (List.range l.length).filter (fun i => clips (l.getD i []))

/-- R38 to R40, R48: mixing, equalisation, saturation and the clipping notices. -/
def State.mixdown (s : State) (snd : PerSource (List (Int × Int))) : State :=
  let heads := rowH 0 s.bank.map
  let cab := s.zoneAudio snd .cabin 0 (s.bank.channels .cabin)
  let drv := s.zoneAudio snd .driver 0 heads
  let rl := s.zoneAudio snd .rearL 0 [0, 1]
  let rr := s.zoneAudio snd .rearR 0 [0, 1]
  let sums := (List.range 22).map (speakerSum cab drv heads)
  let clipped := clipPositions sums
  let t := s.mapRend (fun r => { r with
    eqMem := ⟨cab.map ChannelAudio.sections, drv.map ChannelAudio.sections, rl.map ChannelAudio.sections,
      rr.map ChannelAudio.sections⟩
    shelfMem := ⟨cab.map ChannelAudio.shelf, drv.map ChannelAudio.shelf, [], []⟩
    out := .ofSpeakers (sums.map (fun l => l.map saturate)) (rl.map (fun c => c.out.map saturate))
      (rr.map (fun c => c.out.map saturate)) })
  let t := t.clipZone .cabin clipped
  let t := t.clipZone .driver ((List.range heads.length).filter (fun i => clipped.contains (heads.getD i 22)))
  (t.clipZone .rearL (clipPositions (rl.map ChannelAudio.out))).clipZone .rearR (clipPositions (rr.map ChannelAudio.out))

/-! ## The capture (R77, R144, R145) -/

/-- R144: one sample is stored, with its extension where it is due; none where the extension is refused. -/
def State.captureSample (s : State) (n : Nat) (v : Sample) : Option State :=
  let c := s.pool.clip n
  let t := if c.fill < c.length then some s else s.captureExtend n
  t.map (fun t =>
    t.mapPool (fun p =>
      let c := p.clip n
      { p.setClip n { c with fill := c.fill + 1 } with mem := Memory.write p.mem (sampleAddress c.pages c.fill) v }))

/-- R144, R145: the samples of a frame, in order; a refused extension truncates. -/
def State.captureSamples (p : Path) (n : Nat) : List Sample → State → State
  | [], s => s
  | v :: vs, s =>
    match s.captureSample n v with
    | some t => State.captureSamples p n vs t
    | none => s.truncate p n

/-- R144: the 24 samples of a frame. -/
def State.captureInput (s : State) (p : Path) (snd : PerSource (List (Int × Int))) : List Sample :=
  if (s.path p).state ≠ .locked then List.replicate 24 0
  else (takePad 24 (Config.decimate ((snd.get (trafficSource p)).map (fun x => x.1 + x.2)))).map Config.captureRound

/-- R143, R144: the part of a frame of the capture that the frame found, with CAPTURE_STARTED at 48000 samples. -/
def State.captureFrame (s : State) (was : Capture) (snd : PerSource (List (Int × Int))) : State :=
  match s.traf.capture with
  | .recording p n =>
    if was ≠ .recording p n then s else
    let t := State.captureSamples p n (s.captureInput p snd) s
    if (s.pool.clip n).fill < 48000 ∧ 48000 ≤ (t.pool.clip n).fill then t.raise .captureStarted else t
  | _ => s

/-! ## The far end and the uplink (R158, R165) -/

/-- R158: the level of 160 samples is above -200 qdB; in between whole levels, log 11. -/
def farAbove (win : List Int) : Bool :=
  let e := sumNat (win.map (fun x => x.natAbs ^ 2))
  if (160 * 2 ^ 46) ^ 40 ≤ e ^ 40 * 10 ^ 199 then true
  else if e * 10 ^ 5 ≤ 160 * 2 ^ 46 then false
  else Config.farBandActive e

/-- R158: the far-end indication after the samples of this frame. -/
def State.farFrame (s : State) (inp : FrameInput) : State :=
  let cw := (s.call.callWin.drop 16 ++ takePad 16 inp.callDown)
  let tw := (s.call.telemWin.drop 16 ++ takePad 16 inp.telemDown)
  s.mapCall (fun c => { c with callWin := cw, telemWin := tw, farActive := farAbove (if s.veh.override then tw else cw) })

/-- R165: the target suppression U that a render frame forms on a route; without one none is formed, and R166 reports 0 (log 7). -/
def Call.suppression (c : Call) : Int :=
  if c.route = .none ∨ c.farActive = false then 0
  else
    let u := min 120 (c.echo.tt - c.echo.erle)
    if c.echo.state = .frozen then -((u / 2 : Nat) : Int) else -((u : Nat) : Int)

/-- R165: one frame of the applied suppression, in eighths. -/
def moveSuppression (u a : Int) : Int := if 8 * u ≤ a then max (8 * u) (a - 16) else min (8 * u) (a + 4)

/-- R160: the uplink before the gain, in units of 2^-24. -/
def Call.uplinkInput (c : Call) (m : PerMic (List Int)) : List Int :=
  match c.routeSet with
  | .front => List.zipWith (· + ·) (takePad 16 m.m1) (takePad 16 m.m2)
  | .rearL => (takePad 16 m.m3).map (2 * ·)
  | .rearR => (takePad 16 m.m4).map (2 * ·)
  | .all => (takePad 16 (m.get c.selected)).map (2 * ·)

/-- R161, R165: suppression and the uplink of a frame, in units of 2^-44; adaptation gives the coefficients a fresh name (log 3). -/
def State.uplinkFrame (s : State) (inp : FrameInput) : State :=
  let quiet := List.replicate 16 0
  let c := s.call
  match c.route with
  | .none => s.mapRend (fun r => { r with uplink := quiet, telemUplink := quiet })
  | route =>
    let u := c.suppression
    let a := moveSuppression u c.echo.applied
    let g := (multiplierEighths (8 * c.upTrim + a) : Int)
    let out := (c.uplinkInput inp.cancelled).map (· * g)
    let t := s.mapCall (fun c => { c with echo := { c.echo with target := u, applied := a } })
    t.mapRend (fun r => match route with
      | .call => { r with uplink := out, telemUplink := quiet }
      | _ => { r with uplink := quiet, telemUplink := out })

/-- 9.5: while it adapts, the canceller's coefficients move; their values are outside the manual (log 3). -/
def State.adapt (s : State) : State :=
  if s.call.echo.state = .converging ∨ s.call.echo.state = .converged then
    (s.mapCall (fun c => { c with echo := { c.echo with coeff := Config.adaptedCoefficients s.free } })).spendFree
  else s

/-! ## The frame -/

/-- R34 and on: one render frame in RUN. The timers count first, then the gains move and every voice plays; what the voices' samples
end follows, the voices in the order CHIME, PROMPT, TRAFFIC, RING (log 25), and a capture that this begins records from the next
frame on (R143). -/
def State.renderStep (s : State) (inp : FrameInput) : State :=
  let s := (((s.tick).applyNotice).thermalFalls).ramps
  let c := s.voiceFrame .chime
  let p := c.state.voiceFrame .prompt
  let t := p.state.voiceFrame .traffic
  let r := t.state.voiceFrame .ring
  let u := (((r.state.endFrame .chime c.ends).endFrame .prompt p.ends).endFrame .traffic t.ends).endFrame .ring r.ends
  let snd := r.state.sources inp c.out p.out t.out r.out
  ((((((u.mixdown snd).thermalStep).captureFrame s.traf.capture snd).uplinkFrame inp).adapt).farFrame inp)

end Sys2Proof.Machine
end

