-- ==== Sys2Proof/Machine/CallCommands.lean ====
section
/-! DEFINITION. The commands of the call controller and the echo canceller (09_calls_and_the_echo_canceller.md). -/

namespace Sys2Proof.Machine

/-! ## Requests (R152 to R157) -/

/-- R152: the DONE reply of a call command: state, mode and mic set as they now stand, with a flush's numbers. -/
def State.callResult (s : State) (flush : Option (Nat × Nat × Nat)) : Result :=
  .call s.call.state s.call.mode (micSetOf s.call.mode) flush

/-- R153: the entry that CALL.RING places. -/
def ringPlacing (mode : Zone) (clip gap : Nat) : Placing := ⟨clip, 2 ^ mode.num, 0, gap, 0, 0, 0⟩

/-- R153: the call record once the ring entry stands. -/
def State.startRinging (s : State) (mode : Zone) (clip : Nat) : State :=
  s.mapCall (fun c => { c with state := .ringing, mode := mode, ringClip := some clip })

def execCallRing (q : Byte) (mode clip gap : Nat) (s : State) : Out :=
  serve 9 0 q .lockable s fun s =>
    match zoneOf mode with
    | none => refuse .range s
    | some z =>
      if clipNumber clip = false then refuse .range s
      else if s.call.state ≠ .idle then refuse .state s
      else
        match s.place .ring (ringPlacing z clip gap) with
        | .error c => refuse c s
        | .ok t => let u := t.startRinging z clip; report (u.callResult none) u

/-- R154: the steps after the flush. -/
def State.answer (s : State) : State := (s.mapCall (fun c => { c with ringClip := none })).callEnter

def execCallAnswer (q : Byte) (s : State) : Out :=
  serve 9 1 q .lockable s fun s =>
    if s.call.state = .active ∨ s.call.state = .held then refuse .state s
    else
      match s.flush .ring with
      | .error c => refuse c s
      | .ok r => let u := r.1.answer; report (u.callResult (some r.2)) u

def execCallHold (q : Byte) (s : State) : Out :=
  serve 9 2 q .lockable s fun s =>
    if s.call.state = .active then let u := s.callHeld; report (u.callResult none) u else refuse .state s

def execCallResume (q : Byte) (s : State) : Out :=
  serve 9 3 q .lockable s fun s =>
    if s.call.state = .held then let u := s.callEnter; report (u.callResult none) u else refuse .state s

/-- R156: the steps after the flush. -/
def State.endCall (s : State) : State :=
  let t := if s.call.state = .active then s.callLeave .idle else s.mapCall (fun c => { c with state := .idle })
  t.mapCall (fun c => { c with ringClip := none })

/-- R156. DESIGN CHOICE (log 25): the DONE reply also carries the flush's three numbers, which R154 gives CALL.ANSWER's reply and R156
does not name. -/
def execCallEnd (q : Byte) (s : State) : Out :=
  serve 9 4 q .lockable s fun s =>
    match s.flush .ring with
    | .error c => refuse c s
    | .ok r => let u := r.1.endCall; report (u.callResult (some r.2)) u

/-- R157: a mode that differs from the present one. -/
def State.moveCall (s : State) (mode : Zone) : State :=
  let t := s.mapCall (fun c => { c with mode := mode })
  if t.call.state = .active then (t.callClaims mode).changeSet (micSetOf mode) else t

def execCallMode (q : Byte) (mode : Nat) (s : State) : Out :=
  serve 9 5 q .lockable s fun s =>
    match zoneOf mode with
    | none => refuse .range s
    | some z =>
      if s.call.mode = z then report (s.callResult none) s
      else let u := s.moveCall z; report (u.callResult none) u

/-- R158: both trims. -/
def State.setTrims (s : State) (down up : Int) : State :=
  s.mapCall (fun c => { c with downTrim := down, upTrim := up })

def execCallTrim (q : Byte) (down up : Int) (s : State) : Out :=
  serve 9 6 q .runOnly s fun s =>
    let d := clampInt (-48) 24 down
    let u := clampInt (-48) 24 up
    report (.callTrims d u (decide (d ≠ down)) (decide (u ≠ up))) (s.setTrims d u)

/-- R162: both thresholds; a running timer is kept. -/
def State.setThresholds (s : State) (tc tt : Nat) : State :=
  s.mapCall (fun c => { c with echo := { c.echo with tc := tc, tt := tt } })

def execCallEchoConfig (q : Byte) (tc tt : Nat) (s : State) : Out :=
  serve 9 7 q .runOnly s fun s =>
    let c := clampNat 24 160 tc
    let t := clampNat 100 200 tt
    report (.echoConfig c t (decide (c ≠ tc)) (decide (t ≠ tt))) (s.setThresholds c t)

/-- R150, R174: the mic set, the call's or, in override, the one that serves TELEM. -/
def Call.setNow (c : Call) : MicSet :=
  match c.route with
  | .none => micSetOf c.mode
  | _ => c.routeSet

/-- R166. U is the one that the last render frame has formed, and 0 while none has on the route, or the route is NONE (log 7); the converge
timer stands as the last estimate left it (log 1). -/
def execCallStatus (q : Byte) (s : State) : Out :=
  serve 9 8 q .runOnly s fun s =>
    let c := s.call
    report (.callStatus c.state c.mode (micSetOf c.mode) c.downTrim c.upTrim c.ringClip c.savedTag c.route c.echo.report
      c.farActive (if c.setNow = .all then some c.selected else none) c.noise) s

/-! ## Microphones (R160) -/

/-- R160: a delivery of the two figures of every microphone. The selector moves where the route serves the set ALL; without a route it
stays where it is (log 25). -/
def Call.levels (c : Call) (speech floor : PerMic Gain) : Call :=
  { c with speech := speech, noiseFloor := floor,
           selected := if c.route ≠ .none ∧ c.routeSet = .all then moveChoice speech c.selected else c.selected }

/-- R160: every 10 ms in RUN; the sender keeps the cadence (log 1). -/
def execMicLevelDelivery (speech noise : PerMic Gain) (s : State) : Out :=
  .next (if s.running then s.mapCall (fun c => c.levels speech noise) else s)

/-- R160: a noise-floor level as a figure below full scale; mute is 480. -/
def noiseFigure : Gain → Nat
  | none => 480
  | some g => (-g).toNat

/-- R160: the figures of the idle microphones. -/
def Call.idleFigures (c : Call) : List Nat :=
  (Mic.all.filter (fun m => !formsUplink c m)).map (fun m => noiseFigure (c.noiseFloor.get m))

/-- R160: a mean as a whole figure; the rounding of one that is not whole is not given (log 11). -/
def wholeMean (l : List Nat) : Nat :=
  let sum := sumNat l
  let n := l.length
  if n = 0 ∨ sum % n = 0 then sum / n
  else if Config.noiseRoundsUp sum n then sum / n + 1 else sum / n

/-- R160: NOISE. -/
def Call.noiseNow (c : Call) : Nat := wholeMean c.idleFigures

def State.formNoise (s : State) : State :=
  (s.mapCall (fun c => { c with noise := c.noiseNow })).deliver .noise (s.call.noiseNow : Int)

/-- R160: every 100 ms in RUN; the sender keeps the cadence (log 1). -/
def execNoiseForming (s : State) : Out := .next (if s.running then s.formNoise else s)

/-! ## The canceller (R162, R163) -/

/-- R162: an estimate has earned the move to CONVERGED; a Tc that changes after it does not undo that. -/
def Echo.convergeDue (e : Echo) : Bool := e.state == .converging && e.earned

def Echo.converge (e : Echo) : Echo :=
  if e.convergeDue then { e with state := .converged, timer := none, earned := false } else e

/-- R163: 150 ms without double talk. -/
def Echo.hangDue (e : Echo) : Bool := e.state == .frozen && decide (150 ≤ e.hang)

def Echo.thaw (e : Echo) : Echo := if e.hangDue then { e.startTest with state := e.prior } else e

/-- R162: the tests of the thresholds; the move to CONVERGED is ECHO_CONVERGED's (log 1). -/
def Echo.test (e : Echo) : Echo :=
  match e.state with
  | .converging =>
    if e.tc ≤ e.erle then { e with timer := some (e.timer.getD 0), earned := decide (500 ≤ e.timer.getD 0) }
    else { e with timer := none, earned := false }
  | .converged => if e.erle + 24 < e.tc then e.startTest else e
  | _ => e

/-- R163: an estimate with double talk. -/
def Echo.freeze (e : Echo) : Echo := { e.startTest with state := .frozen, prior := e.state }

/-- R162: the timer has run since the last estimate: it moves by 10 at an estimate and not at a RENDER_FRAME, so that R166 reports
multiples of 10 ms (log 1). -/
def Echo.runTimer (e : Echo) : Echo := { e with timer := e.timer.map (· + 10) }

/-- R162, R163: an estimate in CONVERGING or CONVERGED. Whether double talk lets R162 act first is not given (log 12): one free value decides
whether ERLE is set, and with it whether R162's tests against Tc and 500 ms are made before the freeze, which settle the prior state that it
records. -/
def Echo.estimateActive (e : Echo) (far : Bool) (erle : Nat) (dt : Bool) : Echo :=
  let m := { e.runTimer with doubleTalk := dt }
  if dt && !Config.doubleTalkSetsErle then m.freeze
  else
    let t := { m with erle := if far then min erle 160 else m.erle }.test
    if dt then t.converge.freeze else t

/-- R163: an estimate in FROZEN. -/
def Echo.estimateFrozen (e : Echo) (dt : Bool) : Echo :=
  { e with hang := if dt then 0 else e.hang + 10, doubleTalk := dt }

/-- R162, R163: one estimate. -/
def Echo.estimate (e : Echo) (far : Bool) (erle : Nat) (dt : Bool) : Echo :=
  match e.state with
  | .off => e
  | .converging => e.estimateActive far erle dt
  | .converged => e.estimateActive far erle dt
  | .frozen => e.estimateFrozen dt

/-- R162, R179: an estimate and its delivery. A convergence or a hang that is due comes before it (log 1), as a change of state of its
own (R166). -/
def State.echoEstimate (s : State) (erle : Nat) (dt : Bool) : State :=
  if s.call.echo.state = .off then s
  else
    let u := s.setEcho s.call.echo.converge.thaw
    let t := u.setEcho (u.call.echo.estimate u.call.farActive erle dt)
    t.deliver .erle (t.call.echo.erle : Int)

/-- R162: every 10 ms in RUN; the sender keeps the cadence (log 1). -/
def execEchoEstimate (erle : Nat) (doubleTalk : Bool) (s : State) : Out :=
  .next (if s.running then s.echoEstimate erle doubleTalk else s)

/-- R162; due at a converge timer of 500 ms (log 1). -/
def execEchoConverged (s : State) : Out :=
  .next (if s.running then s.setEcho s.call.echo.converge else s)

/-- R163; due at a hang of 150 ms (log 1). -/
def execFrozenHangEnd (s : State) : Out :=
  .next (if s.running then s.setEcho s.call.echo.thaw else s)

end Sys2Proof.Machine
end

