-- ==== Sys2Proof/Machine/Tables.lean ====
section
/-! DEFINITION. The five tables that SYS.LOAD_TABLE carries: their formats (log 8), the owners' checks (R6, R26, R46, R49, R168)
and what an accepted load does (R6, R26, R47, R50). A check that fails is `none`, the verdict BAD_TABLE. -/

namespace Sys2Proof.Machine

/-! ## ZONE_POLICY (R6) -/

/-- A row record {zone, row, effect, depth} as its four bytes give it. -/
structure PolicyRecord where
  zone : Nat
  row : Nat
  effect : Nat
  depth : Nat
deriving DecidableEq, Repr

def policyRecords : List Byte → Option (List PolicyRecord)
  | [] => some []
  | a :: b :: c :: d :: l => (policyRecords l).map (fun r => ⟨a.toNat, b.toNat, c.toNat, d.toNat⟩ :: r)
  | _ => none

/-- R6: the effect a record gives its row, within the range of its depth; an effect byte that names none of the three makes the table
a BAD_TABLE by the model's choice (log 8). -/
def PolicyRecord.effectOf (r : PolicyRecord) : Option Effect :=
  match r.effect with
  | 0 => if r.row = 0 then none else some .exclusive
  | 1 => if r.row = 0 ∨ 160 < r.depth then none else some (.duck r.depth)
  | 2 => some .mix
  | _ => none

/-- R6: one row of a zone's rows. -/
def PolicyRows.put (p : PolicyRows) (row : Nat) (e : Effect) : Option PolicyRows :=
  match row with
  | 0 => some { p with entertainment := e }
  | 1 => some { p with traffic := e }
  | 2 => some { p with prompt := e }
  | 3 => some { p with ring := e }
  | 4 => some { p with call := e }
  | 5 => some { p with chime := e }
  | 6 => some { p with emergency := e }
  | 7 => some { p with privateCall := e }
  | _ => none

/-- R6: one record, over the rows before it. -/
def putRecord (t : PerZone PolicyRows) (r : PolicyRecord) : Option (PerZone PolicyRows) :=
  match zoneOf r.zone, r.effectOf with
  | some z, some e => ((t.get z).put r.row e).map (fun p => t.set z p)
  | _, _ => none

def putRecords : PerZone PolicyRows → List PolicyRecord → Option (PerZone PolicyRows)
  | t, [] => some t
  | t, r :: l => (putRecord t r).bind (fun u => putRecords u l)

/-- R6: two records name the same zone and row. -/
def rowTwice : List PolicyRecord → Bool
  | [] => false
  | r :: l => l.any (fun x => x.zone == r.zone && x.row == r.row) || rowTwice l

/-- R6: the table of a load. -/
def policyTable (bytes : List Byte) : Option (PerZone PolicyRows) :=
  (policyRecords bytes).bind (fun l => if rowTwice l then none else putRecords (PerZone.all PolicyRows.default) l)

/-- R6: an accepted load; in RUN every zone is evaluated, and the four evaluations are one moment of R143 (log 25). -/
def State.loadPolicy (s : State) (t : PerZone PolicyRows) : State :=
  let u := s.mapArb (fun a => { a with policy := t, policyLoaded := true })
  if u.running then
    ((((u.evaluateTold .cabin [] false).evaluateTold .driver [] false).evaluateTold .rearL [] false).evaluateTold .rearR [] false).captureAfter
      u
  else u

/-! ## CURVES (R26) -/

def signedWords : List Byte → Option (List Int)
  | [] => some []
  | a :: b :: l => (signedWords l).map (fun r => int2 a b :: r)
  | _ => none

/-- R26: the entries of the steps 1..63 lie in -480..0 and never fall. -/
def curveRises : Int → List Int → Bool
  | _, [] => true
  | p, v :: l => decide (p ≤ v ∧ -480 ≤ v ∧ v ≤ 0) && curveRises v l

def curveTable (bytes : List Byte) : Option (List (List Int)) :=
  match signedWords bytes with
  | none => none
  | some l =>
    let cs := [l.take 64, (l.drop 64).take 64, (l.drop 128).take 64, l.drop 192]
    if l.length = 256 ∧ cs.all (fun c => curveRises (-480) c.tail) then some cs else none

/-- R26: an accepted load; in RUN the Vols whose entry in use changes are delivered (R179). -/
def State.loadCurves (s : State) (t : List (List Int)) : State :=
  let u := s.mapBank (fun b => { b with curves := t, curvesLoaded := true })
  if u.running then
    (((u.deliverVolumes s .cabin).deliverVolumes s .driver).deliverVolumes s .rearL).deliverVolumes s .rearR
  else u

/-! ## CHANNEL_MAP (R45 to R47) -/

def rowOf : Nat → Option Row
  | 0 => some .f | 1 => some .r | 2 => some .x | 3 => some .h | _ => none

def sideOf : Nat → Option Side
  | 0 => some .l | 1 => some .r | 2 => some .c | _ => none

/-- R45, R46: an entry within its ranges. -/
def entryOf (row side : Nat) (trim : Int) (rated tau group : Nat) : Option ChannelEntry :=
  match rowOf row, sideOf side with
  | some w, some d =>
    if -96 ≤ trim ∧ trim ≤ 24 ∧ 1 ≤ rated ∧ rated ≤ 4096 ∧ 256 ≤ tau ∧ tau ≤ 32768 ∧ group ≤ 7 then
      some ⟨w, d, trim, rated, tau, group⟩
    else none
  | _, _ => none

/-- The entries with their channels: nine bytes each, the two-byte fields high byte first. -/
def mapRecords : List Byte → Option (List (Nat × ChannelEntry))
  | [] => some []
  | c :: w :: d :: t :: p1 :: p0 :: u1 :: u0 :: grp :: l =>
    match entryOf w.toNat d.toNat (int1 t) (word2 p1 p0) (word2 u1 u0) grp.toNat, mapRecords l with
    | some e, some es => some ((c.toNat, e) :: es)
    | _, _ => none
  | _ => none

/-- The entry of each channel in turn; none where a channel has none. -/
def inChannelOrder (l : List (Nat × ChannelEntry)) : List Nat → Option (List ChannelEntry)
  | [] => some []
  | k :: ks =>
    match l.find? (fun x => x.1 == k), inChannelOrder l ks with
    | some x, some es => some (x.2 :: es)
    | _, _ => none

/-- R46: 22 entries that name each channel 0..21 once, two of them of row H. -/
def mapTable (bytes : List Byte) : Option (List ChannelEntry) :=
  match mapRecords bytes with
  | none => none
  | some l =>
    if l.length = 22 ∧ (l.filter (fun x => x.2.row == .h)).length = 2 then inChannelOrder l (List.range 22) else none

/-- The memories of a zone's channels, those at the marked positions back at zero. -/
def clearAt (marked : Nat → Bool) : Nat → List (List SectionMem) → List (List SectionMem)
  | _, [] => []
  | i, m :: ms => (if marked i then [] else m) :: clearAt marked (i + 1) ms

/-- R47: what DRIVER's headrest channels keep: a channel that stays keeps its memories, a newly attached one has none. -/
def reattach {α : Type} (none_ : α) (old new : List Nat) (mems : List α) : List α :=
  new.map (fun k => if old.contains k then mems.getD (old.idxOf k) none_ else none_)

/-- R47 step 2: DRIVER's mix points, attached to new headrest channels, start from mute. -/
def Renderer.attachDriver (r : Renderer) (old new : List Nat) : Renderer :=
  if old = new then r
  else
    let r := Source.all.foldl (fun r src => r.mapMix .driver src MixPoint.fromMute) r
    { r with eqMem := { r.eqMem with driver := reattach [] old new r.eqMem.driver }
             shelfMem := { r.shelfMem with driver := reattach ⟨0, 0, 0, 0⟩ old new r.shelfMem.driver } }

/-- R47 step 3: the memories of the channels whose EQ group has changed. -/
def Renderer.regroup (r : Renderer) (changed : Nat → Bool) (heads : List Nat) : Renderer :=
  { r with eqMem := { r.eqMem with cabin := clearAt changed 0 r.eqMem.cabin
                                   driver := clearAt (fun i => changed (heads.getD i 22)) 0 r.eqMem.driver } }

/-- R46, R47: an accepted load. -/
def State.loadMap (s : State) (t : List ChannelEntry) : State :=
  let u := s.mapBank (fun b => { b with map := t, mapLoaded := true })
  if u.running then
    let changed := fun k => decide ((s.bank.entry k).group ≠ (u.bank.entry k).group)
    (u.mapRend (fun r => (r.attachDriver (rowH 0 s.bank.map) (rowH 0 t)).regroup changed (rowH 0 t))).reconverge
  else u

/-! ## EQ_BANK (R48 to R50) -/

/-- R49: a group record. -/
structure GroupRecord where
  preset : Nat
  group : Nat
  sections : List Biquad
deriving DecidableEq, Repr

def coefficientWords : Nat → List Byte → Option (List Int × List Byte)
  | 0, l => some ([], l)
  | n + 1, a :: b :: c :: d :: l => (coefficientWords n l).map (fun r => (int4 a b c d :: r.1, r.2))
  | _ + 1, _ => none

def biquads : List Int → List Biquad
  | b0 :: b1 :: b2 :: a1 :: a2 :: l => ⟨b0, b1, b2, a1, a2⟩ :: biquads l
  | _ => []

/-- R49: a section is stable; 2^30 stands for 1. -/
def Biquad.stable (c : Biquad) : Bool := decide (c.a2.natAbs < 2 ^ 30 ∧ (c.a1.natAbs : Int) < 2 ^ 30 + c.a2)

/-- The group records: preset, group, number of sections, and five four-byte coefficients for each section; the first argument
bounds how many records there are. -/
def groupRecords : Nat → List Byte → Option (List GroupRecord)
  | _, [] => some []
  | 0, _ :: _ => none
  | k + 1, p :: g :: n :: l =>
    if 15 < p.toNat ∨ 8 < g.toNat ∨ 8 < n.toNat then none
    else
      match coefficientWords (5 * n.toNat) l with
      | none => none
      | some (ws, rest) =>
        if (biquads ws).all Biquad.stable then
          (groupRecords k rest).map (fun r => ⟨p.toNat, g.toNat, biquads ws⟩ :: r)
        else none
  | _ + 1, _ => none

/-- R49: two records name the same preset and group. -/
def groupTwice : List GroupRecord → Bool
  | [] => false
  | r :: l => l.any (fun x => x.preset == r.preset && x.group == r.group) || groupTwice l

def eqRecords (bytes : List Byte) : Option (List GroupRecord) :=
  (groupRecords bytes.length bytes).bind (fun l => if groupTwice l then none else some l)

def putGroup (eq : List (List (List Biquad))) (r : GroupRecord) : List (List (List Biquad)) :=
  updateAt (fun p => updateAt (fun _ => r.sections) r.group p) r.preset eq

/-- R50: whether a load changes a group of a preset. -/
def Bank.regrouped (old new : Bank) (preset group : Nat) : Bool :=
  decide (old.sections preset group ≠ new.sections preset group)

/-- R50: the channels of every zone that a changed group serves have their memories cleared. -/
def Renderer.reequalise (r : Renderer) (old new : Bank) : Renderer :=
  let hit := fun z k => Bank.regrouped old new (new.current.get z).eqPreset (new.groupOf z k)
  let heads := rowH 0 new.map
  { r with eqMem :=
    { cabin := clearAt (fun k => hit .cabin k) 0 r.eqMem.cabin
      driver := clearAt (fun i => hit .driver (heads.getD i 22)) 0 r.eqMem.driver
      rearL := clearAt (fun k => hit .rearL k) 0 r.eqMem.rearL
      rearR := clearAt (fun k => hit .rearR k) 0 r.eqMem.rearR } }

/-- R60, R164: a loudspeaker group, 0..7, of the CABIN preset has changed, whether or not a channel of the map names it (log 25, where
R50 speaks of a group that serves a loudspeaker channel). -/
def cabinReequalised (old new : Bank) : Bool :=
  (List.range 8).any (fun g => Bank.regrouped old new new.current.cabin.eqPreset g)

/-- R49, R50: an accepted load. -/
def State.loadEq (s : State) (l : List GroupRecord) : State :=
  let u := s.mapBank (fun b => { b with eq := l.foldl putGroup b.eq, eqLoaded := true })
  if u.running then
    let v := u.mapRend (fun r => r.reequalise s.bank u.bank)
    if cabinReequalised s.bank u.bank then v.reconverge else v
  else u

/-! ## VEHICLE (R168) -/

/-- R168: the identifier base and the emergency step. -/
def vehicleTable : List Byte → Option (Nat × Nat)
  | [a, b, c] => if word2 a b ≤ 2038 ∧ 1 ≤ c.toNat ∧ c.toNat ≤ 63 then some (word2 a b, c.toNat) else none
  | _ => none

def State.loadVehicle (s : State) (t : Nat × Nat) : State :=
  s.mapVeh (fun v => { v with base := t.1, step := t.2, loaded := true })

/-! ## The owner's verdict (R188) -/

/-- R188: a complete table is handed to its owner; none is BAD_TABLE. -/
def State.loadTable (s : State) (table : Nat) (bytes : List Byte) : Option State :=
  match table with
  | 0 => (mapTable bytes).map s.loadMap
  | 1 => (curveTable bytes).map s.loadCurves
  | 2 => (eqRecords bytes).map s.loadEq
  | 3 => (policyTable bytes).map s.loadPolicy
  | 4 => (vehicleTable bytes).map s.loadVehicle
  | _ => none

end Sys2Proof.Machine
end

