-- ==== Sys2Proof/Machine/ControlPort.lean ====
section
/-! DEFINITION. The commands of the control port (12_control_link_notices_and_start_up.md): the resets, the frame receiver, the SYS
requests, the notices and the frames that leave. -/

namespace Sys2Proof.Machine

/-! ## The frame receiver (R183) -/

/-- R183: bytes arrive on the line. -/
def execFrameReceived (bytes : List Byte) (s : State) : Out := .next (s.mapPort (·.receive false bytes))

/-- R183: a gap of more than 1 ms. -/
def execFrameGapTimeout (s : State) : Out := .next (s.mapPort (·.receive true []))

/-! ## Requests that are none (R184, R190) -/

/-- R190: how many verbs a class has. -/
def verbsOf : Nat → Nat
  | 0 => 6 | 1 => 6 | 2 => 5 | 3 => 10 | 4 => 5 | 5 => 6 | 6 => 7 | 7 => 1 | 8 => 1 | 9 => 9 | 10 => 5 | 11 => 3 | _ => 0

/-- The requests without a parameter: IDENTIFY, START and RESET, PENDING and POOL.STATUS, COMPLETIONS, the STATUS requests of the
tuner, the traffic monitor, the call controller and the vehicle port, and ANSWER, HOLD, RESUME and END. -/
def bareCodes : List Byte :=
  [codeByte 0 0, codeByte 0 2, codeByte 0 3, codeByte 3 1, codeByte 3 8, codeByte 4 1, codeByte 5 5, codeByte 8 0, codeByte 9 1,
   codeByte 9 2, codeByte 9 3, codeByte 9 4, codeByte 9 8, codeByte 10 4]

/-- R184: whether a payload of a length is some form of a request. R190 fixes SYS.NOTICE_ACK's, which carries one flag set; a
SYS.NOTICE_MASK carries one behind its operation, and a request without a parameter has an empty payload (log 9). -/
def lengthAllowed (code : Byte) (n : Nat) : Bool :=
  if code = codeByte 0 5 then n == 8
  else if code = codeByte 0 4 then decide (8 ≤ n) && Config.payloadLengthAllowed code n
  else if bareCodes.contains code then n == 0
  else Config.payloadLengthAllowed code n

def knownCode (code : Byte) : Bool := decide (code.toNat % 16 < verbsOf (code.toNat / 16))

/-- R184: the first two checks; a frame that passes them is one of the other requests and not this one. -/
def execUnknownRequest (code q : Byte) (payloadLength : Nat) (s : State) : Out :=
  if s.port.resetPending then .next s
  else if knownCode code = false then .next (s.taking.reply code q (.refused .unknown []))
  else if lengthAllowed code payloadLength then .next s
  else .next (s.taking.reply code q (.refused .length []))

/-! ## The request of a held frame (R184, R190) -/

/-- R190: the code byte of each request, class in bits 7..4 and verb in bits 3..0, with its sequence byte; the other rows are
events. DESIGN CHOICE (logs 9 and 15): a SYS.LOAD_TABLE whose segment mark is none of ONLY, FIRST, MORE and LAST, for which R188 gives no
refusal, is no form of the request here, and no command spells it. -/
def requestOf : Instr → Option (Byte × Byte)
  | .coldReset => none
  | .warmReset => none
  | .frameReceived _ => none
  | .frameGapTimeout => none
  | .unknownRequest _ _ _ => none
  | .sysIdentify q => some (0x00, q)
  | .sysLoadTableOnly q _ _ => some (0x01, q)
  | .sysLoadTableFirst q _ _ => some (0x01, q)
  | .sysLoadTableMore q _ _ => some (0x01, q)
  | .sysLoadTableLast q _ _ => some (0x01, q)
  | .sysStart q => some (0x02, q)
  | .sysReset q => some (0x03, q)
  | .sysNoticeMask q _ _ => some (0x04, q)
  | .sysNoticeAck q _ => some (0x05, q)
  | .noticeFrameSent => none
  | .zoneSelect q _ _ => some (0x10, q)
  | .zonePolicy q _ _ _ _ => some (0x11, q)
  | .zoneStatus q _ => some (0x12, q)
  | .zoneVolume q _ _ _ => some (0x13, q)
  | .zoneTrim q _ _ _ => some (0x14, q)
  | .zoneLevels q _ _ => some (0x15, q)
  | .yieldExpiry _ => none
  | .renderFrame _ => none
  | .coolCountExpiry _ => none
  | .profileStage q _ _ => some (0x20, q)
  | .profileRead q _ _ => some (0x21, q)
  | .profileTakeNow q _ _ => some (0x22, q)
  | .profileTakeHold q _ => some (0x22, q)
  | .profileRelease q _ => some (0x23, q)
  | .profileDiscard q _ => some (0x24, q)
  | .poolAlloc q _ _ _ _ => some (0x30, q)
  | .poolPending q => some (0x31, q)
  | .poolCancel q _ => some (0x32, q)
  | .poolSeek q _ _ _ => some (0x33, q)
  | .poolWrite q _ => some (0x34, q)
  | .poolRead q _ => some (0x35, q)
  | .poolSeal q _ _ => some (0x36, q)
  | .poolRelease q _ => some (0x37, q)
  | .poolStatus q => some (0x38, q)
  | .poolClip q _ => some (0x39, q)
  | .voiceEnqueue q _ _ _ _ _ _ _ _ => some (0x40, q)
  | .voiceCompletions q => some (0x41, q)
  | .voiceFlush q _ => some (0x42, q)
  | .voiceSkip q _ => some (0x43, q)
  | .voiceStatus q _ => some (0x44, q)
  | .maxWaitExpiry _ => none
  | .gapExpiry _ => none
  | .fadeComplete _ => none
  | .tunerFront q _ _ => some (0x50, q)
  | .tunerRear q _ _ _ => some (0x51, q)
  | .tunerFlags q _ _ => some (0x52, q)
  | .tunerConfig q _ _ _ _ => some (0x53, q)
  | .tunerSeek q _ => some (0x54, q)
  | .tunerStatus q => some (0x55, q)
  | .tuneFadeDone _ => none
  | .tuneConfirmation _ _ => none
  | .confirmTimeout _ => none
  | .settleDone _ => none
  | .failureRetry _ => none
  | .pathMeasurement _ _ _ _ => none
  | .decodedField _ _ => none
  | .seekStepMeasurement _ _ _ => none
  | .afCheckBegin => none
  | .afTrialEnd => none
  | .peekStart => none
  | .peekCandidateCommand => none
  | .peekMeasurement _ _ _ => none
  | .peekReturn => none
  | .stationList q _ => some (0x60, q)
  | .stationRead q _ _ => some (0x61, q)
  | .stationWrite q _ _ => some (0x62, q)
  | .stationWriteCond q _ _ => some (0x63, q)
  | .stationDelete q _ => some (0x64, q)
  | .stationPresetAssign q _ _ => some (0x65, q)
  | .stationPresetClear q _ => some (0x65, q)
  | .stationPresetQuery q _ _ => some (0x65, q)
  | .stationAdmit q _ _ => some (0x66, q)
  | .stationAgeTick => none
  | .scanConfig q _ _ _ => some (0x70, q)
  | .scanIntervalExpiry => none
  | .scanVisitMeasurement _ _ _ => none
  | .codeDwellEnd => none
  | .scanWindowTimeout => none
  | .trafficStatus q => some (0x80, q)
  | .tailExpiry _ => none
  | .announcementAgeLimit _ => none
  | .callRing q _ _ _ => some (0x90, q)
  | .callAnswer q => some (0x91, q)
  | .callHold q => some (0x92, q)
  | .callResume q => some (0x93, q)
  | .callEnd q => some (0x94, q)
  | .callMode q _ => some (0x95, q)
  | .callTrim q _ _ => some (0x96, q)
  | .callEchoConfig q _ _ => some (0x97, q)
  | .callStatus q => some (0x98, q)
  | .micLevelDelivery _ _ => none
  | .noiseForming => none
  | .echoEstimate _ _ => none
  | .echoConverged => none
  | .frozenHangEnd => none
  | .vehicleSpeed q _ => some (0xA0, q)
  | .vehicleChime q _ => some (0xA1, q)
  | .vehicleChimeStop q _ => some (0xA2, q)
  | .vehicleOverride q _ => some (0xA3, q)
  | .vehicleStatus q => some (0xA4, q)
  | .speed _ => none
  | .speedStale => none
  | .chime _ _ _ _ => none
  | .chimeStop => none
  | .overrideEnter => none
  | .overrideExitResume => none
  | .overrideExitDrop => none
  | .vehicleFrameIgnored _ => none
  | .statusPeriod => none
  | .statusSent => none
  | .chimeDoneSent => none
  | .watchSet q _ _ _ _ _ _ _ => some (0xB0, q)
  | .watchClear q _ => some (0xB1, q)
  | .watchQuery q _ => some (0xB2, q)
  | .watchFire _ => none
  | .replyFrameSent => none

/-- R190: the flag set that eight bytes give: bit j of byte k is flag 8k + j. -/
def flagSet : List Byte → BitVec 64
  | [] => 0
  | b :: bs => (flagSet bs <<< 8) ||| b.zeroExtend 64

/-- R190: the operation and the flag set of a SYS.NOTICE_MASK, the flag set being the last eight bytes (log 9). -/
def maskOperands (payload : List Byte) : Option SetOp × BitVec 64 :=
  (Config.maskOperation (payload.take (payload.length - 8)), flagSet (payload.drop (payload.length - 8)))

/-- R184, R190: the request that a frame's class, verb and payload spell: one refused UNKNOWN or LENGTH, a request without a parameter, an
edit of the notice mask, an acknowledgement, or a control-link form of a vehicle record. The layout of the other requests' parameters is
not given: which request of the frame's code and sequence byte it is is a free value, and where that gives none the frame is taken by its
own row (log 9). -/
def HeldFrame.request (f : HeldFrame) : Option Instr :=
  if knownCode f.code = false ∨ lengthAllowed f.code f.payload.length = false then
    some (.unknownRequest f.code f.seq f.payload.length)
  else
    match f.code.toNat with
    | 0x00 => some (.sysIdentify f.seq)
    | 0x02 => some (.sysStart f.seq)
    | 0x03 => some (.sysReset f.seq)
    | 0x04 => some (.sysNoticeMask f.seq (maskOperands f.payload).1 (maskOperands f.payload).2)
    | 0x05 => some (.sysNoticeAck f.seq (flagSet f.payload))
    | 0x31 => some (.poolPending f.seq)
    | 0x38 => some (.poolStatus f.seq)
    | 0x41 => some (.voiceCompletions f.seq)
    | 0x55 => some (.tunerStatus f.seq)
    | 0x80 => some (.trafficStatus f.seq)
    | 0x91 => some (.callAnswer f.seq)
    | 0x92 => some (.callHold f.seq)
    | 0x93 => some (.callResume f.seq)
    | 0x94 => some (.callEnd f.seq)
    | 0x98 => some (.callStatus f.seq)
    | 0xA0 => some (.vehicleSpeed f.seq f.payload)
    | 0xA1 => some (.vehicleChime f.seq f.payload)
    | 0xA2 => some (.vehicleChimeStop f.seq f.payload)
    | 0xA3 => some (.vehicleOverride f.seq f.payload)
    | 0xA4 => some (.vehicleStatus f.seq)
    | _ => (Config.requestSpelled f.code f.seq f.payload).filter (fun c => requestOf c == some (f.code, f.seq))

/-- R184: the held frame, once no reply waits, where its bytes alone spell its request. -/
def State.heldRequest (s : State) : Option Instr :=
  if s.port.tx.any TxFrame.isReply then none else s.port.held.bind HeldFrame.request

/-! ## IDENTIFY and the tables (R187, R188) -/

def execSysIdentify (q : Byte) (s : State) : Out :=
  serve 0 0 q .always s fun s =>
    report (.identify Config.familyCode Config.revision s.running (s.port.lastReset == .warm) s.bank.mapLoaded
      s.bank.curvesLoaded s.bank.eqLoaded s.arb.policyLoaded s.veh.loaded) s

def State.setAssembly (s : State) (a : Option (Nat × List Byte)) : State := s.mapPort (fun p => { p with assembly := a })

/-- R188: a complete table, with the assembly gone. -/
def State.completeTable (s : State) (table : Nat) (bytes : List Byte) : Reply × State :=
  let t := s.setAssembly none
  match t.loadTable table bytes with
  | some u => report .ok u
  | none => refuse .badTable t

/-- R188: bytes that would fit the buffer. -/
def fitsAssembly (bytes : List Byte) : Bool := decide (bytes.length ≤ Config.assemblyBytes)

def execSysLoadTableOnly (q : Byte) (table : Nat) (bytes : List Byte) (s : State) : Out :=
  serve 0 1 q .always s fun s =>
    if 4 < table then refuse .range s
    else if fitsAssembly bytes then s.completeTable table bytes
    else refuse .badTable (s.setAssembly none)

def execSysLoadTableFirst (q : Byte) (table : Nat) (bytes : List Byte) (s : State) : Out :=
  serve 0 1 q .always s fun s =>
    if 4 < table then refuse .range s
    else if fitsAssembly bytes then report (.assembled bytes.length) (s.setAssembly (some (table, bytes)))
    else refuse .badTable (s.setAssembly none)

/-- R188: the assembly that a MORE or a LAST of a table continues. -/
def State.assemblyOf (s : State) (table : Nat) : Option (List Byte) :=
  match s.port.assembly with
  | some (t, l) => if t = table then some l else none
  | none => none

def execSysLoadTableMore (q : Byte) (table : Nat) (bytes : List Byte) (s : State) : Out :=
  serve 0 1 q .always s fun s =>
    if 4 < table then refuse .range s
    else
      match s.assemblyOf table with
      | none => refuse .state s
      | some l =>
        if fitsAssembly (l ++ bytes) then
          report (.assembled (l ++ bytes).length) (s.setAssembly (some (table, l ++ bytes)))
        else refuse .badTable (s.setAssembly none)

def execSysLoadTableLast (q : Byte) (table : Nat) (bytes : List Byte) (s : State) : Out :=
  serve 0 1 q .always s fun s =>
    if 4 < table then refuse .range s
    else
      match s.assemblyOf table with
      | none => refuse .state s
      | some l =>
        if fitsAssembly (l ++ bytes) then s.completeTable table (l ++ bytes)
        else refuse .badTable (s.setAssembly none)

/-! ## START (R189) -/

/-- R188, R189: the numbers of the tables that are missing. -/
def State.missing (s : State) : List Nat :=
  (if s.bank.mapLoaded then [] else [0]) ++ (if s.bank.curvesLoaded then [] else [1]) ++
    (if s.bank.eqLoaded then [] else [2]) ++ (if s.arb.policyLoaded then [] else [3]) ++
    (if s.veh.loaded then [] else [4])

/-- R189: every filter memory at zero. -/
def Renderer.clearFilters (r : Renderer) : Renderer := { r with eqMem := PerZone.all [], shelfMem := PerZone.all [] }

/-- R189: the entry to RUN. -/
def State.start (s : State) : State :=
  let t := (s.mapPort (fun p => { p with op := .run })).mapRend Renderer.clearFilters
  (((t.beginTune .p1 (t.path .p1).station).planP2).startInterval).buildStatus

def execSysStart (q : Byte) (s : State) : Out :=
  serve 0 2 q .always s fun s =>
    if s.running then refuse .state s
    else if s.missing.isEmpty then report .running s.start
    else (.refused .missingTable s.missing, s)

/-! ## Resets (R187, R189, 12.4) -/

/-- R189: the warm reset is ordered. -/
def State.orderReset (s : State) : State := s.mapPort (fun p => { p with resetPending := true })

def execSysReset (q : Byte) (s : State) : Out :=
  serve 0 3 q .lockable s fun s => report .ok s.orderReset

/-- R187: the part after a cold reset; the waiting commands, the free values' counter and the pool's samples stand (log 5). -/
def State.coldReset (s : State) : State :=
  { State.reset with pending := s.pending, pool := { Pool.reset with mem := s.pool.mem }, free := s.free }

def execColdReset (s : State) : Out := .next s.coldReset

/-- R118: what a warm reset keeps of the tuner. -/
def Tuner.warm (t : Tuner) : Tuner :=
  { Tuner.reset with
    path := ⟨{ PathRec.reset .front with station := t.path.p1.station }, PathRec.reset .idle⟩
    flags := t.flags
    settings := t.settings }

/-- R189, 12.4: the part after a warm reset. -/
def State.warmReset (s : State) : State :=
  { State.reset with
    pending := s.pending
    port := Port.reset .warm
    arb := { Arbiter.reset with policy := s.arb.policy, policyLoaded := s.arb.policyLoaded }
    bank := { s.bank with take := PerZone.all .idle }
    pool := { Pool.reset with mem := s.pool.mem }
    tun := s.tun.warm
    sta := { s.sta with assoc := ⟨⟨none, false⟩, ⟨none, false⟩⟩, reservation := none }
    scan := { Scan.reset with interval := s.scan.interval, permit := s.scan.permit }
    call := { Call.reset with echo := { Echo.reset with tc := s.call.echo.tc, tt := s.call.echo.tt } }
    veh := { Vehicle.reset with base := s.veh.base, step := s.veh.step, loaded := s.veh.loaded }
    free := s.free }

/-- R189: an accepted SYS.RESET waits, and its reply has been transmitted. -/
def Port.resetDue (p : Port) : Bool := p.resetPending && !p.tx.any TxFrame.isReply

/-- R189: the reset that an accepted SYS.RESET ordered. -/
def execWarmReset (s : State) : Out := .next (if s.port.resetDue then s.warmReset else s)

/-! ## Notices (R185, R186) -/

/-- R186: the set names no member above 42. -/
def namesMembers (flags : BitVec 64) : Bool := flags &&& ~~~ flagMembers == 0

/-- R186: an edit of the mask; a flag that is visible and was not builds a frame, and a waiting frame is brought up to date. -/
def Port.editMask (p : Port) (op : SetOp) (named : BitVec 64) : Port :=
  let q := { p with mask := editBits op p.mask named }
  if q.visible &&& ~~~ p.visible == 0 then q.refresh else q.buildNotice

def execSysNoticeMask (q : Byte) (op : Option SetOp) (flags : BitVec 64) (s : State) : Out :=
  serve 0 4 q .runOnly s fun s =>
    match op with
    | none => refuse .range s
    | some o =>
      if namesMembers flags then
        let t := s.mapPort (·.editMask o flags)
        report (.notices t.port.mask t.port.flags) t
      else refuse .range s

/-- R186: an acknowledgement. -/
def State.acknowledge (s : State) (named : BitVec 64) : State :=
  let t := s.mapPort (fun p => Port.refresh { p with flags := p.flags &&& ~~~ named })
  if named.getLsbD Notice.completion.num ∧ t.voc.control ≠ [] then t.raise .completion else t

def execSysNoticeAck (q : Byte) (flags : BitVec 64) (s : State) : Out :=
  serve 0 5 q .runOnly s fun s =>
    if namesMembers flags then
      let t := s.acknowledge flags
      report (.setFlags t.port.flags) t
    else refuse .range s

/-! ## Frames that leave (R184, R185, R190) -/

/-- R185: the NOTICE frame that waits. -/
def waitingNotice : List TxFrame → Option (Byte × BitVec 64)
  | [] => none
  | .notice c l :: _ => some (c, l)
  | .reply _ :: fs => waitingNotice fs

def Port.sendNotice (p : Port) : Port :=
  match waitingNotice p.tx with
  | some (c, l) => { p with tx := afterNotices p.tx, lineOut := some (noticeBytes c l) }
  | none => p

def execNoticeFrameSent (s : State) : Out := .next (s.mapPort Port.sendNotice)

/-- R184: the waiting reply leaves. -/
def execReplyFrameSent (s : State) : Out := .next (s.mapPort Port.replyLeaves)

end Sys2Proof.Machine
end

