-- ==== Sys2Proof/Machine/PoolCommands.lean ====
section
/-! DEFINITION. The commands of the pool allocator (04_the_clip_pool.md). -/

namespace Sys2Proof.Machine

def rateKnown (r : Nat) : Bool := r == 48000 || r == 24000 || r == 16000

/-- R66 steps 1 to 4, for an owner that may be named. -/
def State.alloc (s : State) (n rate : Nat) (o : LinkOwner) (auto : Bool) : Reply × State :=
  match s.pool.lowestFree with
  | none => refuse .noClip s
  | some c =>
    if s.pool.fits o n then
      (.done (.allocated c (n * Config.pageSamples)),
        (s.mapPool (·.grant c n rate (ownerOf o) .filling auto)).deliverFree s.pool.freeCount)
    else if s.pool.slot o ≠ .empty then refuse .busy s
    else (.pending, s.mapPool (·.setSlot o (.waiting n rate auto)))

def execPoolAlloc (q : Byte) (n rate : Nat) (owner : Option LinkOwner) (auto : Bool) (s : State) : Out :=
  serve 3 0 q .runOnly s fun s =>
    match owner with
    | none => refuse .range s
    | some o => if n < 1 ∨ 256 < n ∨ rateKnown rate = false then refuse .range s else s.alloc n rate o auto

/-- R69: a GRANTED slot becomes EMPTY. -/
def Slot.collect : Slot → Slot
  | .granted _ => .empty
  | x => x

def execPoolPending (q : Byte) (s : State) : Out :=
  serve 3 1 q .runOnly s fun s =>
    report (.slots s.pool.vehicleSlot s.pool.controlSlot)
      (s.mapPool (fun p => { p with vehicleSlot := p.vehicleSlot.collect, controlSlot := p.controlSlot.collect }))

def execPoolCancel (q : Byte) (slot : Option LinkOwner) (s : State) : Out :=
  serve 3 2 q .runOnly s fun s =>
    match slot with
    | none => refuse .range s
    | some o =>
      match s.pool.slot o with
      | .waiting _ _ _ => report .ok (s.mapPool (·.setSlot o .empty))
      | .granted c => (.refused .state [c], s)
      | .empty => refuse .state s

/-- R70: the refusal of a seek, if any. -/
def Pool.seekRefusal (p : Pool) (clip pos : Nat) (d : CursorDir) : Option RefCode :=
  let c := p.clip clip
  match c.state, d with
  | .free, _ => some .state
  | .capturing, _ => some .state
  | .ready, .write => some .state
  | .filling, .read => some .state
  | .filling, .write => if c.fill < pos then some .range else none
  | .ready, .read => if c.sealedLen < pos then some .range else none

def execPoolSeek (q : Byte) (clip position : Nat) (dir : Option CursorDir) (s : State) : Out :=
  serve 3 3 q .runOnly s fun s =>
    match dir with
    | none => refuse .range s
    | some d =>
      if clipNumber clip then
        match s.pool.seekRefusal clip position d with
        | some c => refuse c s
        | none => report (.cursor ⟨clip, position, d⟩) (s.mapPool (fun p => { p with cursor := ⟨clip, position, d⟩ }))
      else refuse .range s

/-- R71: whether the cursor allows a write. -/
def Pool.writable (p : Pool) : Bool :=
  p.cursor.clip != 0 && p.cursor.dir == .write && (p.clip p.cursor.clip).state == .filling

/-- R71 steps 2 to 4, for samples that fit the clip. -/
def Pool.put (p : Pool) (l : List Sample) : Pool :=
  let n := p.cursor.clip
  let c := p.clip n
  let pos := p.cursor.position + l.length
  { p.setClip n { c with fill := max c.fill pos } with
    mem := Memory.store c.pages p.mem p.cursor.position l
    cursor := { p.cursor with position := pos } }

/-- R71: a write, with the report of a raised fill count. -/
def State.writeSamples (s : State) (l : List Sample) : State :=
  let n := s.pool.cursor.clip
  let t := s.mapPool (·.put l)
  if (s.pool.clip n).fill < (t.pool.clip n).fill then t.fillReport n else t

def execPoolWrite (q : Byte) (samples : List Sample) (s : State) : Out :=
  serve 3 4 q .runOnly s fun s =>
    if s.pool.writable then
      let l := samples.take 120
      let fit := l.take ((s.pool.clip s.pool.cursor.clip).length - s.pool.cursor.position)
      report (.written fit.length (s.pool.cursor.position + fit.length) (decide (fit.length < l.length))
        (decide (120 < samples.length))) (s.writeSamples fit)
    else refuse .state s

/-- R72: whether the cursor allows a read. -/
def Pool.readable (p : Pool) : Bool :=
  p.cursor.clip != 0 && p.cursor.dir == .read && (p.clip p.cursor.clip).state == .ready

def execPoolRead (q : Byte) (count : Nat) (s : State) : Out :=
  serve 3 5 q .runOnly s fun s =>
    if count < 1 ∨ 120 < count then refuse .range s
    else if s.pool.readable then
      let c := s.pool.clip s.pool.cursor.clip
      let pos := s.pool.cursor.position
      let n := min count (c.sealedLen - pos)
      report (.samples (Memory.load c.pages s.pool.mem pos n) (pos + n) (decide (c.sealedLen ≤ pos + n)))
        (s.mapPool (fun p => { p with cursor := { p.cursor with position := pos + n } }))
    else refuse .state s

/-- R73: a seal and its report to the voice player. -/
def State.seal (s : State) (clip len : Nat) : State := (s.closeClip clip len).sealReport clip

def execPoolSeal (q : Byte) (clip length : Nat) (s : State) : Out :=
  serve 3 6 q .runOnly s fun s =>
    if clipNumber clip then
      let c := s.pool.clip clip
      if c.state ≠ .filling then refuse .state s
      else if length = 0 ∨ c.fill < length then refuse .range s
      else
        let kept := ceilDiv length Config.pageSamples
        report (.sealed length kept (c.pages.length - kept)) (s.seal clip length)
    else refuse .range s

def execPoolRelease (q : Byte) (clip : Nat) (s : State) : Out :=
  serve 3 7 q .runOnly s fun s =>
    if clipNumber clip then
      let c := s.pool.clip clip
      if c.state = .free then refuse .state s
      else if c.state = .capturing ∨ c.use ≠ .unused then refuse .inUse s
      else report (.released c.pages.length) (s.freeClip clip)
    else refuse .range s

def execPoolStatus (q : Byte) (s : State) : Out :=
  serve 3 8 q .runOnly s fun s =>
    let p := s.pool
    report (.poolStatus p.freeCount p.vehicleHeld p.otherHeld p.freeReserve p.freeClips p.vehicleSlot p.controlSlot p.capturing
      p.cursor) s

def execPoolClip (q : Byte) (clip : Nat) (s : State) : Out :=
  serve 3 9 q .runOnly s fun s =>
    if clipNumber clip then report (.clip (s.pool.clip clip).report) s else refuse .range s

end Sys2Proof.Machine
end

