-- ==== Sys2Proof/Machine/Profiles.lean ====
section
/-! DEFINITION. The commands of the profile bank (03_rendering_profiles_and_the_loudspeaker_map.md). -/

namespace Sys2Proof.Machine

def trafficModeOf : Int → Option TrafficMode
  | 0 => some .off | 1 => some .live | 2 => some .liveOrCapture | _ => none

/-- R51: the range of a numeric field; none for the two that are not numeric. -/
def fieldRange : ProfileField → Option (Int × Int)
  | .mediaCurve => some (0, 3)
  | .voiceCurve => some (0, 3)
  | .callCurve => some (0, 3)
  | .eqPreset => some (0, 15)
  | .loudness => none
  | .balance => some (-15, 15)
  | .fade => some (-15, 15)
  | .slope => some (0, 15)
  | .v0 => some (0, 250)
  | .smax => some (0, 48)
  | .rampRate => some (1, 64)
  | .yieldTime => some (0, 250)
  | .cap => some (-480, 0)
  | .privacy => some (0, 480)
  | .trafficMode => none

/-- R52: whether a value of a field is refused. -/
def valueRefused (f : ProfileField) (v : Int) : Bool :=
  match f with
  | .loudness => v != 0 && v != 1
  | .trafficMode => (trafficModeOf v).isNone
  | _ => false

/-- R52: a value as it is staged. -/
def stagedValue (f : ProfileField) (v : Int) : Int :=
  match fieldRange f with
  | some (a, b) => clampInt a b v
  | none => v

/-- R52: one field of a profile takes a value that is within its range. -/
def Profile.write (p : Profile) (f : ProfileField) (v : Int) : Profile :=
  match f with
  | .mediaCurve => { p with mediaCurve := v.toNat }
  | .voiceCurve => { p with voiceCurve := v.toNat }
  | .callCurve => { p with callCurve := v.toNat }
  | .eqPreset => { p with eqPreset := v.toNat }
  | .loudness => { p with loudness := decide (v = 1) }
  | .balance => { p with balance := v }
  | .fade => { p with fade := v }
  | .slope => { p with slope := v.toNat }
  | .v0 => { p with v0 := v.toNat }
  | .smax => { p with smax := v.toNat }
  | .rampRate => { p with rampRate := v.toNat }
  | .yieldTime => { p with yieldTime := v.toNat }
  | .cap => { p with cap := v }
  | .privacy => { p with privacy := v.toNat }
  | .trafficMode => { p with trafficMode := (trafficModeOf v).getD p.trafficMode }

/-- R52: the field records, all of which must name a field. -/
def namedFields : List (Option ProfileField × Int) → Option (List (ProfileField × Int))
  | [] => some []
  | (none, _) :: _ => none
  | (some f, v) :: l => (namedFields l).map (fun r => (f, v) :: r)

def namedTwice : List (ProfileField × Int) → Bool
  | [] => false
  | (f, _) :: l => l.any (fun x => x.1 == f) || namedTwice l

/-- R52: the profile after the named fields have taken their values. -/
def Profile.writeAll (p : Profile) (l : List (ProfileField × Int)) : Profile :=
  l.foldl (fun p x => p.write x.1 (stagedValue x.1 x.2)) p

/-- R52: each field as staged, with its clamped mark. -/
def stagedReport (l : List (ProfileField × Int)) : List (ProfileField × Int × Bool) :=
  l.map (fun x => (x.1, stagedValue x.1 x.2, decide (stagedValue x.1 x.2 ≠ x.2)))

def State.stage (s : State) (z : Zone) (l : List (ProfileField × Int)) : State :=
  s.mapBank (fun b => { b with staged := b.staged.set z ((b.staged.get z).writeAll l) })

/-- R184: a list without a field record is no form of the request, which is told before anything else, in STARTUP too; a list of more than
15 records is left to R52, which refuses it RANGE, since it names a field twice or one that is none (log 20). -/
def execProfileStage (q : Byte) (zone : Nat) (fields : List (Option ProfileField × Int)) (s : State) : Out :=
  if fields.isEmpty then serve 2 0 q .always s (refuse .length)
  else serve 2 0 q .runOnly s fun s =>
    match zoneOf zone, namedFields fields with
    | some z, some l =>
      if namedTwice l ∨ l.any (fun x => valueRefused x.1 x.2) then refuse .range s
      else report (.stagedFields (stagedReport l)) (s.stage z l)
    | _, _ => refuse .range s

def execProfileRead (q : Byte) (zone : Nat) (copy : Option ProfileCopy) (s : State) : Out :=
  serve 2 1 q .runOnly s fun s =>
    match zoneOf zone, copy with
    | some z, some c =>
      let p := match c with | .staged => s.bank.staged.get z | .current => s.bank.current.get z
      let waits := s.bank.take.get z == .deferred
      report (.profile p (s.bank.take.get z) (waits && s.overrideWaits) (waits && s.callWaits z)) s
    | _, _ => refuse .range s

def execProfileTakeNow (q : Byte) (zone : Nat) (modeKnown : Bool) (s : State) : Out :=
  serve 2 2 q .runOnly s fun s =>
    match zoneOf zone, modeKnown with
    | some z, true => report (.take .idle (some (s.takeChanges z))) (s.takeCopy z)
    | _, _ => refuse .range s

def execProfileTakeHold (q : Byte) (zone : Nat) (s : State) : Out :=
  serve 2 2 q .runOnly s fun s =>
    match zoneOf zone with
    | some z => report (.take .holding none) (s.setTake z .holding)
    | none => refuse .range s

def execProfileRelease (q : Byte) (zone : Nat) (s : State) : Out :=
  serve 2 3 q .runOnly s fun s =>
    match zoneOf zone with
    | some z =>
      if s.bank.take.get z = .holding then report (.take .idle (some (s.takeChanges z))) (s.takeCopy z)
      else refuse .state s
    | none => refuse .range s

/-- R56. -/
def State.discard (s : State) (z : Zone) : State :=
  (s.mapBank (fun b => { b with staged := b.staged.set z (b.current.get z) })).setTake z .idle

def execProfileDiscard (q : Byte) (zone : Nat) (s : State) : Out :=
  serve 2 4 q .runOnly s fun s =>
    match zoneOf zone with
    | some z => report (.discarded (s.bank.current.get z)) (s.discard z)
    | none => refuse .range s

end Sys2Proof.Machine
end

