-- ==== Sys2Proof/Machine/Render.lean ====
section
/-! DEFINITION. The commands of the renderer (02_gain_arithmetic.md): ZONE_VOLUME, ZONE_TRIM, ZONE_LEVELS, RENDER_FRAME,
COOL_COUNT_EXPIRY. -/

namespace Sys2Proof.Machine

/-- R24: a volume step is set; VOLUME is delivered where the step is a new one (R179). -/
def State.setStep (s : State) (z : Zone) (k : Kind) (step : Nat) : State :=
  (s.mapRend (fun r => { r with volume := r.volume.set z ((r.volume.get z).set k step) })).deliverVolumes s z

def execZoneVolume (q : Byte) (zone kind step : Nat) (s : State) : Out :=
  serve 1 3 q .lockable s fun s =>
    match zoneOf zone, kindOf kind with
    | some z, some k => report (.volume (min step 63) (decide (63 < step))) (s.setStep z k (min step 63))
    | _, _ => refuse .range s

/-- R27: a source trim is set. -/
def State.setTrim (s : State) (z : Zone) (src : Source) (v : Int) : State :=
  s.mapRend (fun r => { r with trims := r.trims.set z ((r.trims.get z).set src v) })

def execZoneTrim (q : Byte) (zone source : Nat) (trim : Int) (s : State) : Out :=
  serve 1 4 q .runOnly s fun s =>
    match zoneOf zone, sourceOf source with
    | some z, some src =>
      let v := clampInt (-48) 24 trim
      report (.trim v (decide (v ≠ trim))) (s.setTrim z src v)
    | _, _ => refuse .range s

/-- R43: one channel's line. -/
def State.levelLine (s : State) (z : Zone) (src : Source) (i k : Nat) : LevelLine where
  channel := k
  balance := balanceTerm (s.profile z).balance (s.bank.side z k)
  fade := s.fadeAt z k
  trim := s.trimAt z k
  privacy := s.privacyTerm z src k
  reduction := s.reductionAt z k
  target := s.target z src k
  applied := (((s.rend.mix.get z).get src).getD i MixPoint.mute).applied

/-- R43: the lines in channel order. -/
def State.levelLines (s : State) (z : Zone) (src : Source) : Nat → List Nat → List LevelLine
  | _, [] => []
  | i, k :: ks => s.levelLine z src i k :: State.levelLines s z src (i + 1) ks

def execZoneLevels (q : Byte) (zone source : Nat) (s : State) : Out :=
  serve 1 5 q .runOnly s fun s =>
    match zoneOf zone, sourceOf source with
    | some z, some src =>
      report (.levels (s.volTerm z src) ((s.rend.trims.get z).get src) (s.duckOf z src) (s.speedTerm z src)
        (s.rend.hush.get src) (s.levelLines z src 0 (s.bank.channels z))) s
    | _, _ => refuse .range s

/-- R34, R44: a render frame runs in RUN alone. -/
def execRenderFrame (inp : FrameInput) (s : State) : Out :=
  .next (if s.running then s.renderStep inp else s)

/-- R41: the fall of one channel. -/
def State.coolFall (s : State) (k : Nat) : State :=
  (s.mapRend (fun r => { r with thermal := updateAt Thermal.fall k r.thermal })).deliverThermal (maxReduction s.rend.thermal)

/-- R41; due at a cool count of 16 (log 1). -/
def execCoolCountExpiry (channel : Nat) (s : State) : Out :=
  .next (if s.running then s.coolFall channel else s)

end Sys2Proof.Machine
end

