-- ==== Sys2Proof/Machine/StationCommands.lean ====
section
/-! DEFINITION. The commands of the station table and the scan controller (07_station_table_and_background_scan.md). -/

namespace Sys2Proof.Machine

/-! ## Reading (R132, R192) -/

/-- R132: the lines of the occupied slots from slot n on. -/
def listLines : Nat → List StaSlot → List ListLine
  | _, [] => []
  | n, x :: xs =>
    match x.record with
    | some r => ⟨n, r.code, r.band, r.primary, r.name, r.preset⟩ :: listLines (n + 1) xs
    | none => listLines (n + 1) xs

/-- R132; a following request should begin at the next occupied slot (log 19). -/
def execStationList (q : Byte) (first : Nat) (s : State) : Out :=
  serve 6 0 q .runOnly s fun s =>
    if 39 < first then refuse .range s
    else
      let l := listLines first (s.sta.slots.drop first)
      report (.stationList (l.take 16) ((l.drop 16).head?.map ListLine.slot)) s

def bandNum : Band → Nat
  | .fm => 0 | .am => 1

def originNum : Origin → Nat
  | .scan => 0 | .tuned => 1 | .host => 2

def twoBytes (n : Nat) : List Byte := [hiByte n, loByte n]

def entryBytes (e : FreqEntry) : List Byte := twoBytes e.freq ++ [loByte e.q] ++ twoBytes e.age

/-- R192: the name in eight bytes. -/
def nameBytes (n : List Byte) : List Byte := n.take 8 ++ List.replicate (8 - n.length) 0

/-- R192: the payload of the DONE reply to STATION.READ, the outcome byte first. -/
def recordBytes (slot : Nat) (rev : BitVec 16) (r : StationRec) : List Byte :=
  [0, loByte slot] ++ twoBytes rev.toNat ++ twoBytes r.code ++
    [loByte (bandNum r.band),
     loByte (bitOf r.tp + 2 * bitOf r.name.isSome + 4 * bitOf r.pty.isSome + 8 * bitOf r.preset.isSome
       + 16 * originNum r.origin),
     loByte (r.pty.getD 0), loByte (r.preset.getD 255)] ++ twoBytes r.age ++
    [loByte (r.name.getD []).length] ++ nameBytes (r.name.getD []) ++ [loByte r.freqs.length] ++
    r.freqs.flatMap entryBytes

def execStationRead (q : Byte) (slot : Nat) (reserve : Bool) (s : State) : Out :=
  serve 6 1 q .runOnly s fun s =>
    match s.sta.slots[slot]? with
    | none => refuse .range s
    | some x =>
      match x.record with
      | none => refuse .state s
      | some r =>
        report (.stationRecord (recordBytes slot x.revision r))
          (if reserve then s.mapSta (fun t => { t with reservation := some (slot, x.revision) }) else s)

/-! ## Writing (R133) -/

def hasTwice : List Nat → Bool
  | [] => false
  | x :: xs => xs.contains x || hasTwice xs

/-- R133 step 1: the band a list is checked against: the band written, or the record's. -/
def writeBand (old : Option StationRec) (f : StationFields) : Option Band :=
  match f.band with
  | some b => bandOf b
  | none => old.map StationRec.band

/-- R133: the list as rounded. -/
def roundList (b : Band) (l : List Nat) : List Nat := l.map (Band.round b)

/-- R133 step 1, for a frequency list: a length outside 1..8 and a list that rounding makes name a frequency twice count too
(log 20). -/
def listRefused (b : Option Band) (l : List Nat) : Bool :=
  l.isEmpty || decide (8 < l.length) || hasTwice l ||
    match b with
    | none => false
    | some b => l.any (fun f => !Band.holds b f) || (b == .am && decide (1 < l.length)) || hasTwice (roundList b l)

/-- R133 step 1. The code of a record that becomes AM must be 0, whether written or held (log 20). -/
def fieldsRefused (old : Option StationRec) (f : StationFields) : Bool :=
  (match f.band with | some b => (bandOf b).isNone | none => false) ||
  (match f.pty with | some p => decide (31 < p) | none => false) ||
  (match f.name with | some n => decide (8 < n.length) | none => false) ||
  (match f.freqs with | some l => listRefused (writeBand old f) l | none => false) ||
  (writeBand old f == some .am && (f.code.getD ((old.map StationRec.code).getD 0)) != 0)

/-- R133: a listed frequency: an old entry keeps its figures, a new one has none. -/
def keptEntry (old : List FreqEntry) (f : Nat) : FreqEntry :=
  (old.find? (fun e => e.freq == f)).getD ⟨f, 0, 65535⟩

/-- R133: the record as written; `base` is the record held, or a new one. -/
def writtenRecord (base : StationRec) (b : Band) (f : StationFields) : StationRec where
  code := f.code.getD base.code
  band := b
  name := f.name.orElse (fun _ => base.name)
  pty := f.pty.orElse (fun _ => base.pty)
  freqs := match f.freqs with | some l => (roundList b l).map (keptEntry base.freqs) | none => base.freqs
  tp := f.tp.getD base.tp
  preset := base.preset
  origin := .host
  age := base.age

/-- R133: what an empty slot starts from; a record written into it has not been heard (log 20). -/
def blankRecord (b : Band) : StationRec := ⟨0, b, none, none, [], false, none, .host, 65535⟩

/-- R120: whether two records would break a key. -/
def keysClash (a b : StationRec) : Bool :=
  if a.code = 0 ∧ b.code = 0 then a.band == b.band && a.primary == b.primary else a.code == b.code

/-- R133 step 4. -/
def Table.clashes (t : Table) (slot : Nat) (r : StationRec) : Bool :=
  (List.range t.slots.length).any (fun n =>
    n != slot && match t.recAt n with | some o => keysClash r o | none => false)

/-- R133 steps 2 to 4: the record to write, and whether it enters an empty slot. -/
def Table.prepare (t : Table) (slot : Nat) (f : StationFields) : Except RefCode (StationRec × Bool) :=
  let old := t.recAt slot
  if fieldsRefused old f then .error .range
  else
    match old, writeBand old f with
    | none, some b =>
      if f.band.isNone ∨ f.freqs.isNone then .error .range
      else
        let r := writtenRecord (blankRecord b) b f
        if t.clashes slot r then .error .inUse else .ok (r, true)
    | some o, some b =>
      if o.band ≠ b ∧ f.freqs.isNone then .error .range
      else
        let r := writtenRecord o b f
        if t.clashes slot r then .error .inUse else .ok (r, false)
    | _, none => .error .range

/-- R133: the fields are applied together. -/
def State.writeRecord (s : State) (slot : Nat) (r : StationRec) (enters : Bool) : State :=
  State.countHost s (s.mapSta (fun t => if enters then t.enter slot r else t.setRec slot (some r)))

def State.revisionOf (s : State) (slot : Nat) : BitVec 16 :=
  match s.sta.slots[slot]? with | some x => x.revision | none => 0

/-- R133: the written frequencies that were off the grid, each with what it was rounded to. -/
def roundedOnes (b : Band) (f : StationFields) : List (Nat × Nat) :=
  ((f.freqs.getD []).map (fun x => (x, Band.round b x))).filter (fun x => x.1 != x.2)

def execStationWrite (q : Byte) (slot : Nat) (fields : StationFields) (s : State) : Out :=
  serve 6 2 q .runOnly s fun s =>
    if s.sta.slots.length ≤ slot then refuse .range s
    else
      match s.sta.prepare slot fields with
      | .error c => refuse c s
      | .ok (r, enters) =>
        let t := s.writeRecord slot r enters
        report (.revision (t.revisionOf slot) (roundedOnes r.band fields)) t

/-- R133: the link's reservation names the slot. -/
def Table.reserves (t : Table) (slot : Nat) : Bool :=
  match t.reservation with | some (n, _) => n == slot | none => false

def State.dropReservation (s : State) : State := s.mapSta (fun t => { t with reservation := none })

def execStationWriteCond (q : Byte) (slot : Nat) (fields : StationFields) (s : State) : Out :=
  serve 6 3 q .runOnly s fun s =>
    if s.sta.slots.length ≤ slot then refuse .range s
    else
      match s.sta.prepare slot fields with
      | .error c => refuse c s
      | .ok (r, enters) =>
        if s.sta.reserves slot then
          let t := (s.writeRecord slot r enters).dropReservation
          report (.revision (t.revisionOf slot) (roundedOnes r.band fields)) t
        else refuse .stale s.dropReservation

/-- R134; the reply carries the slot's new revision (log 19). -/
def execStationDelete (q : Byte) (slot : Nat) (s : State) : Out :=
  serve 6 4 q .runOnly s fun s =>
    match s.sta.slots[slot]? with
    | none => refuse .range s
    | some x =>
      if x.record.isNone then refuse .state s
      else
        let t := State.countHost s (s.mapSta (·.leave slot))
        report (.revision (t.revisionOf slot) []) t

/-! ## Presets (R135) -/

/-- R135: every record linked to a preset loses its preset field. -/
def Table.unlink (t : Table) (p : Nat) : Table :=
  { t with slots := t.slots.map (fun x => { x with record := x.record.map (fun r =>
      if r.preset = some p then { r with preset := none } else r) }) }

/-- R135: ASSIGN. -/
def Table.assign (t : Table) (p slot : Nat) (r : StationRec) : Table :=
  let t := t.unlink p
  let t := match r.preset with
    | some o => if o = p then t else t.mapPreset o (fun _ => none)
    | none => t
  (t.mapPreset p (fun _ => some ⟨⟨r.band, r.primary.getD 0, r.code⟩, some slot⟩)).mapRec slot (fun x => { x with preset := some p })

def execStationPresetAssign (q : Byte) (preset slot : Nat) (s : State) : Out :=
  serve 6 5 q .runOnly s fun s =>
    if s.sta.presets.length ≤ preset then refuse .range s
    else
      match s.sta.slots[slot]? with
      | none => refuse .range s
      | some x =>
        match x.record with
        | none => refuse .state s
        | some r =>
          let t := State.countHost s (s.mapSta (·.assign preset slot r))
          report (.presets t.sta.presets) t

def execStationPresetClear (q : Byte) (preset : Nat) (s : State) : Out :=
  serve 6 5 q .runOnly s fun s =>
    if s.sta.presets.length ≤ preset then refuse .range s
    else
      let t := State.countHost s (s.mapSta (fun t => (t.unlink preset).mapPreset preset (fun _ => none)))
      report (.presets t.sta.presets) t

def execStationPresetQuery (q : Byte) (preset : Nat) (opKnown : Bool) (s : State) : Out :=
  serve 6 5 q .runOnly s fun s =>
    if s.sta.presets.length ≤ preset ∨ opKnown = false then refuse .range s else report (.presets s.sta.presets) s

def execStationAdmit (q : Byte) (op : Option SetOp) (mask : BitVec 32) (s : State) : Out :=
  serve 6 6 q .runOnly s fun s =>
    match op with
    | none => refuse .range s
    | some o =>
      let m := editBits o s.sta.mask mask
      report (.admission m) (s.mapSta (fun t => { t with mask := m }))

/-! ## Ages (R119) -/

def StationRec.older (r : StationRec) : StationRec :=
  { r with age := min 65535 (r.age + 1), freqs := r.freqs.map (fun e => { e with age := min 65535 (e.age + 1) }) }

def State.agesRise (s : State) : State :=
  s.mapSta (fun t => { t with slots := t.slots.map (fun x => { x with record := x.record.map StationRec.older }) })

/-- R119: once a second in RUN; the sender keeps the second (log 1). -/
def execStationAgeTick (s : State) : Out := .next (if s.running then s.agesRise else s)

/-! ## The scan controller (R127 to R131) -/

def execScanConfig (q : Byte) (interval permit admitQ : Nat) (s : State) : Out :=
  serve 7 0 q .runOnly s fun s =>
    let i := clampNat 2 60 interval
    let p := min permit 100
    let a := min admitQ 100
    report (.scanSettings i p a [decide (i ≠ interval), decide (p ≠ permit), decide (a ≠ admitQ)])
      ((s.mapScan (fun c => { c with interval := i, permit := p })).mapSta (fun t => { t with admitQ := a }))

/-- R128: the window falls due; due at a timer of 0 (log 1). -/
def State.scanDue (s : State) : State :=
  if s.scan.timer = some 0 ∧ s.scan.window.isNone then
    if s.scanAllowed then
      if s.tun.check.isNone then s.beginWindow
      else s.mapScan (fun c => { c with timer := none, waiting := true })
    else s.startInterval
  else s

def execScanIntervalExpiry (s : State) : Out := .next (if s.running then State.countDevice s s.scanDue else s)

/-- R129 steps 2 to 4; due 25 ms after the naming (log 1). The threshold is the one that stood at the naming (R127). -/
def State.visitMeasure (s : State) (fs mp adj : Nat) : State :=
  match s.scan.window with
  | some w =>
    match w.visit with
    | .named 0 admitQ =>
      let y := s.path .p2
      if y.state = .locked ∧ y.station = ⟨.fm, s.scan.cursor⟩ then
        let q := quality fs mp adj
        let t := s.mapSta (·.scanQuality s.scan.cursor q)
        if q < admitQ then t.endVisit
        else t.mapScan (fun c => { c with window := some { w with visit := .dwell 200 q } })
      else s.endVisit
    | _ => s
  | none => s

def execScanVisitMeasurement (fs mp adj : Nat) (s : State) : Out :=
  .next (if s.running then State.countDevice s (s.visitMeasure fs mp adj) else s)

/-- R130: the dwell's decision, on a non-zero code or after 200 ms (log 1). -/
def State.dwellEnd (s : State) : State :=
  match s.scan.window with
  | some w =>
    match w.visit with
    | .dwell left q =>
      let d := (s.path .p2).decoded
      if left = 0 ∨ d.code.getD 0 ≠ 0 then (s.mapSta (·.dwell s.scan.cursor q d)).endVisit else s
    | _ => s
  | none => s

def execCodeDwellEnd (s : State) : Out := .next (if s.running then State.countDevice s s.dwellEnd else s)

/-- R131: 500 ms from the window's beginning (log 1). -/
def State.windowEnd (s : State) : State :=
  match s.scan.window with
  | some w => if w.left = 0 then s.endWindow.replan else s
  | none => s

def execScanWindowTimeout (s : State) : Out := .next (if s.running then State.countDevice s s.windowEnd else s)

end Sys2Proof.Machine
end

