-- ==== Sys2Proof/Machine/TrafficCommands.lean ====
section
/-! DEFINITION. The commands of the traffic monitor (08_traffic_announcements.md). -/

namespace Sys2Proof.Machine

/-- R148: the fill count of the capture clip, as it stands. -/
def State.captureFill (s : State) : Nat :=
  match s.traf.capture with
  | .recording _ n => (s.pool.clip n).fill
  | _ => 0

def execTrafficStatus (q : Byte) (s : State) : Out :=
  serve 8 0 q .runOnly s fun s =>
    report (.traffic (s.ann .p1) (s.ann .p2) s.traf.capture s.captureFill) s

/-- R142; due at a tail timer of 0 (log 1). -/
def execTailExpiry (p : Path) (s : State) : Out :=
  .next (if s.running ∧ (s.ann p).tail = some 0 then s.endAnn p else s)

/-- R145: the age limit of an announcement. -/
def State.ageLimit (s : State) (p : Path) : State :=
  let a := s.ann p
  if a.state ≠ .quiet ∧ 90000 ≤ a.age then
    match s.traf.capture with
    | .recording r n => if r = p then s.truncate p n else s.setAnn p { a with eligible := false }
    | _ => s.setAnn p { a with eligible := false }
  else s

/-- R145; due at an age of 90000 ms (log 1). -/
def execAnnouncementAgeLimit (p : Path) (s : State) : Out := .next (if s.running then s.ageLimit p else s)

end Sys2Proof.Machine
end

