-- ==== Sys2Proof/Machine/TunerCommands.lean ====
section
/-! DEFINITION. The commands of the tuner path controller (06_tuner_paths.md). -/

namespace Sys2Proof.Machine

/-! ## Requests -/

/-- R106 steps 1 to 5. -/
def State.frontTune (s : State) (st : Station) : State :=
  if (s.path .p1).station = st ∧ (s.path .p1).state = .locked then s.abandonCheck
  else
    let t := (s.mapTun (fun u => { u with seek := none, peek := none })).abandonCheck
    let t := (t.setPath .p1 { t.path .p1 with station := st }).resolveWishes
    (t.startTune .p1 st).replan

/-- R106, R108: the station a request names, rounded; none where it is refused RANGE. -/
def stationOf (band : Option Band) (freq : Nat) : Option Station :=
  match band with
  | none => none
  | some b => if Band.holds b freq then some ⟨b, Band.round b freq⟩ else none

def execTunerFront (q : Byte) (band : Option Band) (freq : Nat) (s : State) : Out :=
  serve 5 0 q .lockable s fun s =>
    match stationOf band freq with
    | none => refuse .range s
    | some st =>
      let t := State.countDevice s (s.frontTune st)
      report (.front st (t.path .p2).role) t

def otherRear : Zone → Zone
  | .rearL => .rearR
  | _ => .rearL

/-- R108: the decision in its order. -/
def State.rearTune (s : State) (z : Zone) (st : Station) : Except RefCode State :=
  if st = (s.path .p1).station then .ok ((s.setWish z (.station st)).setEnt z (some .radio1)).replan
  else if s.entSource (otherRear z) = some .radio2 ∧ (s.path .p2).station ≠ st then .error .pathBusy
  else if (s.path .p2).state = .failed then .error .state
  else .ok ((s.setWish z (.station st)).setEnt z (some .radio2)).replan

def execTunerRear (q : Byte) (zone : Nat) (band : Option Band) (freq : Nat) (s : State) : Out :=
  serve 5 1 q .lockable s fun s =>
    match zoneOf zone, stationOf band freq with
    | some z, some st =>
      if z.rear then
        match s.rearTune z st with
        | .error c => refuse c s
        | .ok u =>
          let t := State.countDevice s u
          report (.rear st (s.path .p2).role (t.entSource z) (t.entState z)) t
      else refuse .range s
    | _, _ => refuse .range s

/-- 00_scope.md, Set edits, on one flag. -/
def editFlag (op : SetOp) (old named : Bool) : Bool :=
  match op with
  | .set => old || named
  | .clear => old && !named
  | .replace => named

def TunerFlags.edit (op : SetOp) (old named : TunerFlags) : TunerFlags where
  diversity := editFlag op old.diversity named.diversity
  scan := editFlag op old.scan named.scan
  af := editFlag op old.af named.af
  ta := editFlag op old.ta named.ta

/-- R112: AF enable is cleared. -/
def State.afCleared (s : State) : State := (s.mapTun Tuner.emptyHold).abandonCheck

/-- R128, R131: scan enable is cleared. -/
def State.scanCleared (s : State) : State :=
  s.mapScan (fun c => { c with timer := none, window := none, waiting := false })

/-- R128: scan enable is set. -/
def State.scanSet (s : State) : State :=
  if s.scan.timer.isNone ∧ s.scan.window.isNone ∧ s.scan.waiting = false then s.startInterval else s

/-- R112: the flags take new values. Where TA watch is set while both paths carry TP and TA, P1's announcement begins wholly before P2's:
its filing may start the capture, and P2's eligible mark is then clear (R139, R143; log 25). Where it is cleared while both announce, P1's
ends wholly before P2's (R142; log 25): P1's capture, closed, may make way for one of P2, which P2's own end then frees, its fill count 0. -/
def State.setFlags (s : State) (f : TunerFlags) : State :=
  let old := s.tun.flags
  let t := s.mapTun (fun t => { t with flags := f })
  let t := if old.af ∧ f.af = false then t.afCleared else t
  let t := if old.scan ∧ f.scan = false then t.scanCleared else if old.scan = false ∧ f.scan then t.scanSet else t
  let t := if old.diversity = f.diversity ∧ old.scan = f.scan then t else t.replan
  if old.ta = f.ta then t else (t.annSync .p1).annSync .p2

def execTunerFlags (q : Byte) (op : Option SetOp) (flags : TunerFlags) (s : State) : Out :=
  serve 5 2 q .runOnly s fun s =>
    match op with
    | none => refuse .range s
    | some o =>
      let f := TunerFlags.edit o s.tun.flags flags
      report (.tunerFlags f) (State.countDevice s (s.setFlags f))

def execTunerConfig (q : Byte) (afThreshold afHold afMargin seekThreshold : Nat) (s : State) : Out :=
  serve 5 3 q .runOnly s fun s =>
    let t : TunerSettings := ⟨min afThreshold 100, clampNat 500 10000 afHold, min afMargin 50, min seekThreshold 100⟩
    report (.tunerSettings t [decide (t.afThreshold ≠ afThreshold), decide (t.afHold ≠ afHold), decide (t.afMargin ≠ afMargin),
      decide (t.seekThreshold ≠ seekThreshold)]) (s.mapTun (fun u => { u with settings := t }))

/-- R113: the entry to SEEKING. -/
def State.enterSeek (s : State) (d : SeekDir) : State :=
  let t := (s.mapTun (fun u => { u with seek := none, peek := none })).abandonCheck
  let x := t.path .p1
  let y := { x with state := .seeking, phase := none, wait := none, retry := 0, retryTimer := none, retrying := false,
                    decoded := Decoded.absent }
  let t := ((t.setPath .p1 y).mapTun Tuner.emptyHold).dropAssoc .p1
  ((((t.orderHush .radio1 5).annSync .p1).seekStep ⟨d, x.station.freq, false⟩)).replan

def execTunerSeek (q : Byte) (dir : Option SeekDir) (s : State) : Out :=
  serve 5 4 q .lockable s fun s =>
    match dir with
    | none => refuse .range s
    | some d => report .ok (State.countDevice s (s.enterSeek d))

def execTunerStatus (q : Byte) (s : State) : Out :=
  serve 5 5 q .runOnly s fun s =>
    let t := s.tun
    report (.tunerStatus t.path.p1.report t.path.p2.report s.radioQuality t.wishL t.wishR t.flags (t.check.map AfCheck.report)
      t.holdCount) s

/-! ## Tune events (R103, R105) -/

/-- R103: the end of FADING; due at a wait of 0 (log 1). -/
def State.fadeDone (s : State) (p : Path) : State :=
  let x := s.path p
  if x.state = .tuning ∧ x.phase = some .fading ∧ x.wait = some 0 then s.setPath p x.command else s

def execTuneFadeDone (p : Path) (s : State) : Out := .next (if s.running then s.fadeDone p else s)

/-- R103: SETTLING begins. -/
def PathRec.settle (x : PathRec) : PathRec :=
  { x with state := .tuning, phase := some .settling, wait := some (settleTime x.station.band), retryTimer := none,
           retrying := false }

/-- R116: a confirmation during a peek. -/
def Peek.confirm (k : Peek) (home at_ : Station) : Peek :=
  if k.measured then { k with returnConfirmed := k.returnConfirmed || decide (at_ = home) }
  else if k.commanded ∧ at_ = ⟨.fm, k.cand⟩ then { k with candConfirmed := true }
  else k

/-- R103, R105, R113, R116: what a confirmation of a station means to a path. -/
def State.confirmed (s : State) (p : Path) (at_ : Station) : State :=
  let x := s.path p
  match x.state with
  | .tuning =>
    if x.phase = some .confirming ∧ at_ = x.station then s.setPath p x.settle else s
  | .failed =>
    if x.retrying ∧ at_ = x.station then
      let t := s.setPath p x.cleared.settle
      match p with
      | .p1 => t
      | .p2 => t.replan
    else s
  | .seeking =>
    match s.tun.seek with
    | some k =>
      if p = .p1 ∧ k.settling = false ∧ at_ = x.station then
        (s.setPath p { x with wait := some (settleTime x.station.band) }).mapTun
          (fun t => { t with seek := some { k with settling := true } })
      else s
    | none => s
  | .peek => s.mapTun (fun t => { t with peek := t.peek.map (fun k => k.confirm x.station at_) })
  | _ => s

def execTuneConfirmation (p : Path) (at_ : Station) (s : State) : Out :=
  .next (if s.running then State.countDevice s (s.confirmed p at_) else s)

/-- R103: the command is sent again. -/
def PathRec.resend (x : PathRec) : PathRec := { x with retry := 1, wait := some 20 }

/-- R103, R105, R113: 20 ms without a confirmation; due at a wait of 0 (log 1). A retry that stays unconfirmed leaves the retry count at 0:
DESIGN CHOICE (log 22). -/
def State.unconfirmed (s : State) (p : Path) : State :=
  let x := s.path p
  if x.wait = some 0 then
    match x.state, x.phase with
    | .tuning, some .confirming => if x.retry = 0 then s.setPath p x.resend else s.failPath p
    | .failed, _ =>
      if x.retry = 0 then s.setPath p x.resend else s.setPath p { x with retrying := false, wait := none, retry := 0 }
    | .seeking, _ =>
      match s.tun.seek with
      | some k => if k.settling then s else if x.retry = 0 then s.setPath p x.resend else s.failPath p
      | none => s
    | _, _ => s
  else s

def execConfirmTimeout (p : Path) (s : State) : Out :=
  .next (if s.running then State.countDevice s (s.unconfirmed p) else s)

/-- R103: the end of SETTLING; due at a wait of 0 (log 1). -/
def State.settled (s : State) (p : Path) : State :=
  let x := s.path p
  if x.state = .tuning ∧ x.phase = some .settling ∧ x.wait = some 0 then (s.enterLocked p).replan else s

def execSettleDone (p : Path) (s : State) : Out :=
  .next (if s.running then State.countDevice s (s.settled p) else s)

/-- R105: a retry; due at a retry timer of 0 (log 1). -/
def State.retryTune (s : State) (p : Path) : State :=
  let x := s.path p
  if x.state = .failed ∧ x.retryTimer = some 0 then
    s.setPath p { x with retrying := true, retry := 0, wait := some 20, retryTimer := some 1000 }
  else s

def execFailureRetry (p : Path) (s : State) : Out := .next (if s.running then s.retryTune p else s)

/-! ## Measurements and decoded data (R102, R104, R114, R123) -/

/-- R114: a measurement below the AF threshold; the check falls due where the count reaches the hold time (R112). -/
def Tuner.raiseHold (t : Tuner) : Tuner :=
  { t with holdCount := t.holdCount + 10, holdDue := decide (t.settings.afHold ≤ t.holdCount + 10) }

/-- R114: the hold count at a measurement of P1. -/
def State.holdStep (s : State) : State :=
  if s.tun.settings.afThreshold ≤ s.radioQuality then s.mapTun Tuner.emptyHold
  else if s.tun.flags.af ∧ s.tun.check.isNone ∧ (s.path .p1).station.band = .fm then s.mapTun Tuner.raiseHold
  else s

/-- R115: a measurement of a trial by P2. -/
def State.trialStep (s : State) (q : Nat) : State :=
  s.mapTun (fun t => { t with check := t.check.map (fun c => { c with trial := c.trial.map (fun k =>
    if k.qs.length < 3 ∧ k.sinceLock.isSome then { k with qs := k.qs ++ [q] } else k) }) })

/-- R123: the station table's part of a measurement. -/
def State.assocStep (s : State) (p : Path) : State :=
  let x := s.path p
  let a := s.sta.assoc.get p
  if x.carries p = false ∨ x.q < s.sta.admitQ then s
  else if a.awaiting then s.mapSta (·.associate p x)
  else
    match a.slot with
    | some n => s.mapSta (·.mapRec n (fun r => { r with age := 0 }))
    | none => s

/-- R102: a measurement of a LOCKED path. -/
def State.measure (s : State) (p : Path) (fs mp adj : Nat) : State :=
  let x := s.path p
  let y := quality fs mp adj
  let t := s.setPath p { x with fs := fs, mp := mp, adj := adj, q := y, measured := true }
  let t := match p with
    | .p1 => (t.deliver .q1 (t.radioQuality : Int)).holdStep
    | .p2 => (t.deliver .q2 (y : Int)).trialStep y
  t.assocStep p

def execPathMeasurement (p : Path) (fs mp adj : Nat) (s : State) : Out :=
  .next (if s.running ∧ (s.path p).state = .locked then State.countDevice s (s.measure p fs mp adj) else s)

/-- R104: the decoded data after an item is read. -/
def Decoded.read (d : Decoded) : DecodedItem → Decoded
  | .sync on => { d with sync := on }
  | .code c => { d with code := some c }
  | .name n => { d with name := some n }
  | .pty p => { d with pty := some p }
  | .tp on => { d with tp := on }
  | .ta on => { d with ta := on }
  | .af f =>
    let l := d.afs.getD []
    { d with afs := some (if l.contains f ∨ 25 ≤ l.length then l else l ++ [f]) }

/-- R104, R124, R125: what the station table does with a changed item. -/
def State.tableItem (s : State) (p : Path) (item : DecodedItem) : State :=
  let x := s.path p
  match item with
  | .code c =>
    if x.carries p ∨ x.role = .scan then s.mapSta (·.codeArrives p x (x.carries p) c) else s
  | .sync _ => s
  | .ta _ => s
  | _ => if x.carries p then s.mapSta (·.fieldArrives p item (x.decoded.afs.getD [])) else s

/-- R104: an item is read; a change is handed on. -/
def State.decodeItem (s : State) (p : Path) (item : DecodedItem) : State :=
  let x := s.path p
  let d := x.decoded.read item
  if d = x.decoded then s
  else ((s.setPath p { x with decoded := d }).tableItem p item).annSync p

def execDecodedField (p : Path) (item : DecodedItem) (s : State) : Out :=
  .next (if s.running ∧ (s.path p).state = .locked ∧ (s.path p).station.band = .fm then
    State.countDevice s (s.decodeItem p item) else s)

/-! ## Seek (R113) -/

/-- R113 steps 3 and 4, and its bound of one full band; due at a wait of 0 (log 1). -/
def State.seekMeasure (s : State) (fs mp adj : Nat) : State :=
  let x := s.path .p1
  match s.tun.seek with
  | some k =>
    if x.state = .seeking ∧ k.settling ∧ x.wait = some 0 then
      if s.tun.settings.seekThreshold ≤ quality fs mp adj ∨ x.station.freq = k.start ∨ s.seekOver k = true then s.seekStop else s.seekStep k
    else s
  | none => s

def execSeekStepMeasurement (fs mp adj : Nat) (s : State) : Out :=
  .next (if s.running then State.countDevice s (s.seekMeasure fs mp adj) else s)

/-! ## The AF check (R114 to R116) -/

/-- R114: insertion by last q, highest first, equal figures in list order. -/
def insertByQ (e : FreqEntry) : List FreqEntry → List FreqEntry
  | [] => [e]
  | x :: xs => if x.q < e.q then e :: x :: xs else x :: insertByQ e xs

/-- R114: the candidates. -/
def State.candidates (s : State) : List Nat :=
  let x := s.path .p1
  match (s.sta.lookup x false).bind s.sta.recAt with
  | some r => ((r.freqs.filter (fun e => e.freq != x.station.freq)).foldl (fun l e => insertByQ e l) []).map FreqEntry.freq
  | none => []

/-- R114: due once a measurement has found the hold count at the hold time (log 1). -/
def State.checkBegin (s : State) : State :=
  let x := s.path .p1
  if s.tun.flags.af ∧ x.state = .locked ∧ x.station.band = .fm ∧ s.tun.check.isNone ∧ s.tun.holdDue then
    match s.candidates with
    | [] => s.mapTun Tuner.emptyHold
    | l => (s.mapTun (fun t => { t with check := some ⟨[], l, s.radioQuality, none⟩, holdDue := false })).replan
  else s

def execAfCheckBegin (s : State) : Out := .next (if s.running then State.countDevice s s.checkBegin else s)

/-- R115: the mean of the measurements of the first 30 ms. -/
def trialMean (l : List Nat) : Nat := sumNat l / max 1 l.length

/-- R115: the end of a trial by P2, 200 ms from the lock or once a code has been read and 30 ms have passed. A code that was read within
the 30 ms ends it when they have passed (log 22). -/
def State.trialEnd (s : State) : State :=
  match s.tun.check with
  | some c =>
    match c.trial with
    | some k =>
      let y := s.path .p2
      match k.sinceLock with
      | some t =>
        if y.state = .locked ∧ (200 ≤ t ∨ (30 ≤ t ∧ y.decoded.code.isSome)) then
          let r := s.judge c k.cand (trialMean k.qs) y.decoded.code
          if r.2 then r.1 else r.1.afAdvance
        else s
      | none => s
    | none => s
  | none => s

def execAfTrialEnd (s : State) : Out := .next (if s.running then State.countDevice s s.trialEnd else s)

/-- R115, R116: a peek may start: the next candidate is to be tried by a peek and the spacing is kept. -/
def State.peekDue (s : State) : Option Nat :=
  let y := s.path .p2
  match s.tun.check with
  | some c =>
    match c.untried with
    | f :: _ =>
      if c.trial.isNone ∧ s.tun.peek.isNone ∧ (s.path .p1).state = .locked ∧ (y.role = .rear ∨ y.state = .failed) ∧
          ¬ (y.role = .rear ∧ y.state = .locked ∧ y.station = ⟨.fm, f⟩) ∧
          2000 ≤ s.tun.peekAge.getD 2000 then some f
      else none
    | [] => none
  | none => none

def State.peekBegin (s : State) : State :=
  match s.peekDue with
  | some f =>
    let t := (s.setPath .p1 { s.path .p1 with state := .peek }).orderHush .radio1 1
    (t.mapTun (fun u => { u with peek := some ⟨f, 0, false, false, false, false⟩, peekAge := some 0 })).planP2
  | none => s

def execPeekStart (s : State) : Out := .next (if s.running then State.countDevice s s.peekBegin else s)

/-- R116: due 2 ms into the peek. -/
def State.peekCommand (s : State) : State :=
  s.mapTun (fun t => { t with peek := t.peek.map (fun k => if 2 ≤ k.time then { k with commanded := true } else k) })

def execPeekCandidateCommand (s : State) : Out := .next (if s.running then s.peekCommand else s)

/-- R116: due 6 ms into the peek: the measurement, and the command back. -/
def State.peekMeasure (s : State) (fs mp adj : Nat) : State :=
  match s.tun.peek with
  | some k =>
    if 6 ≤ k.time ∧ k.commanded ∧ k.measured = false then
      let t := s.mapTun (fun u => { u with peek := some { k with measured := true } })
      match s.tun.check with
      | some c =>
        if k.candConfirmed ∧ c.untried.head? = some k.cand then (t.judge c k.cand (quality fs mp adj) none).1 else t
      | none => t
    else s
  | none => s

def execPeekMeasurement (fs mp adj : Nat) (s : State) : Out :=
  .next (if s.running then State.countDevice s (s.peekMeasure fs mp adj) else s)

/-- R116: due 10 ms into the peek: back to LOCKED, or on as a tune. -/
def State.peekEnd (s : State) : State :=
  match s.tun.peek with
  | some k =>
    if 10 ≤ k.time ∧ k.measured then
      let x := s.path .p1
      let t := s.mapTun (fun u => { u with peek := none })
      if k.returnConfirmed then ((t.setPath .p1 { x with state := .locked }).liftHush .radio1).replan
      else (t.startTune .p1 x.station).replan
    else s
  | none => s

def execPeekReturn (s : State) : Out := .next (if s.running then State.countDevice s s.peekEnd else s)

end Sys2Proof.Machine
end

