-- ==== Sys2Proof/Machine/VehicleCommands.lean ====
section
/-! DEFINITION. The commands of the vehicle port (10_vehicle_link_and_emergency_override.md). -/

namespace Sys2Proof.Machine

/-! ## The control-link forms (R173) -/

def execVehicleSpeed (q : Byte) (_parameters : List Byte) (s : State) : Out :=
  serve 10 0 q .runOnly s fun s => refuse .privileged s

def execVehicleChime (q : Byte) (_parameters : List Byte) (s : State) : Out :=
  serve 10 1 q .runOnly s fun s => refuse .privileged s

def execVehicleChimeStop (q : Byte) (_parameters : List Byte) (s : State) : Out :=
  serve 10 2 q .runOnly s fun s => refuse .privileged s

def execVehicleOverride (q : Byte) (_parameters : List Byte) (s : State) : Out :=
  serve 10 3 q .runOnly s fun s => refuse .privileged s

/-- R173: the tag and the step are absent outside override. -/
def execVehicleStatus (q : Byte) (s : State) : Out :=
  serve 10 4 q .runOnly s fun s =>
    let v := s.veh
    report (.vehicle v.speed v.age v.stale v.override (if v.override then s.call.savedTag else none)
      (if v.override then v.savedStep else none) v.refusal v.chimeDone.isSome s.voc.vehicle.length v.base v.step) s

/-! ## The records of the bus (R169, R170, R174, R176) -/

def execSpeed (v : Nat) (s : State) : Out := .next (if s.takesRecords then s.speedRecord v else s)

/-- R169: the age reaches 1000 ms. -/
def State.goStale (s : State) : State :=
  if s.veh.age < 1000 then s else s.mapVeh (fun v => { v with stale := true })

/-- R169; due at an age of 1000 ms (log 1). -/
def execSpeedStale (s : State) : Out := .next (if s.running then s.goStale else s)

def execChime (clip mask repeats gap : Nat) (s : State) : Out :=
  .next (if s.takesRecords then s.chimeRecord clip mask repeats gap else s)

def execChimeStop (s : State) : Out := .next (if s.takesRecords then s.chimeStopRecord else s)

def execOverrideEnter (s : State) : Out := .next (if s.takesRecords then s.overrideEnterRecord else s)

def execOverrideExitResume (s : State) : Out := .next (if s.takesRecords then s.overrideExitRecord false else s)

def execOverrideExitDrop (s : State) : Out := .next (if s.takesRecords then s.overrideExitRecord true else s)

/-- R168: a frame of the bus. One that is not a record of the four changes nothing; one that is acts as that record does. -/
def State.busFrame (s : State) (f : VehicleFrame) : State :=
  match readFrame s.veh.base f with
  | some r => s.vehicleRecord r
  | none => s

def execVehicleFrameIgnored (frame : VehicleFrame) (s : State) : Out :=
  .next (if s.takesRecords then s.busFrame frame else s)

/-! ## What is sent (R171, R172) -/

/-- R172; due at a period of 0 ms left (log 1). -/
def execStatusPeriod (s : State) : Out :=
  .next (if s.running ∧ s.veh.statusTimer = some 0 then s.buildStatus else s)

/-- R168, R172: the waiting STATUS record goes out at base + 8. -/
def State.sendStatus (s : State) : State :=
  match s.veh.status with
  | some r => s.mapVeh (fun v => { v with status := none, busOut := some ⟨v.base + 8, false, false, r.bytes⟩ })
  | none => s

def execStatusSent (s : State) : Out := .next (if s.running then s.sendStatus else s)

/-- R171: the CHIME_DONE goes out at base + 9; the head completion leaves, the waiters are served, and the next is built. -/
def State.sendChimeDone (s : State) : State :=
  match s.veh.chimeDone with
  | some c =>
    let t := s.mapVeh (fun v => { v with chimeDone := none, busOut := some ⟨v.base + 9, false, false, c.chimeBytes⟩ })
    ((t.mapVoc (fun x => { x with vehicle := x.vehicle.tail })).serveWaiters false).buildChimeDone
  | none => s

def execChimeDoneSent (s : State) : Out := .next (if s.running then s.sendChimeDone else s)

end Sys2Proof.Machine
end

