-- ==== Sys2Proof/Machine/VoiceCommands.lean ====
section
/-! DEFINITION. The commands of the voice player (05_announcement_voices.md). -/

namespace Sys2Proof.Machine

/-- R84, R96, R97: the voice a request names, with the refusal of CHIME and of a number outside 0..3. -/
def linkVoice (v : Nat) : Except RefCode Voice :=
  match voiceOf v with
  | none => .error .range
  | some .chime => .error .privileged
  | some x => .ok x

def execVoiceEnqueue (q : Byte) (voice clip mask repeats gap threshold : Nat) (trim : Int) (maxWait : Nat) (s : State) : Out :=
  serve 4 0 q .lockable s fun s =>
    match linkVoice voice with
    | .error c => refuse c s
    | .ok v =>
      let p : Placing := ⟨clip, mask, repeats, gap, threshold, trim, maxWait⟩
      match s.place v p with
      | .error c => refuse c s
      | .ok t =>
        report (.enqueued ((s.voice v).queue.length + 1) p.entry (t.voice v).state (decide (15 < repeats))
          (decide (p.entry.trim ≠ trim))) t

/-- R94: the completions leave the head of the control queue, and its waiters are served. -/
def State.takeCompletions (s : State) : State :=
  (s.mapVoc (fun x => { x with control := x.control.drop 8 })).serveWaiters true

def execVoiceCompletions (q : Byte) (s : State) : Out :=
  serve 4 1 q .runOnly s fun s =>
    if s.voc.control.isEmpty then report (.completions [] 0) s
    else report (.completions (s.voc.control.take 8) (s.voc.control.drop 8).length) s.takeCompletions

def execVoiceFlush (q : Byte) (voice : Nat) (s : State) : Out :=
  serve 4 2 q .lockable s fun s =>
    match linkVoice voice with
    | .error c => refuse c s
    | .ok v =>
      match s.flush v with
      | .error c => refuse c s
      | .ok r => report (.flushed r.2.1 r.2.2.1 r.2.2.2) r.1

def execVoiceSkip (q : Byte) (voice : Nat) (s : State) : Out :=
  serve 4 3 q .lockable s fun s =>
    match linkVoice voice with
    | .error c => refuse c s
    | .ok v =>
      let r := s.voice v
      match r.state, r.queue with
      | .idle, _ => refuse .state s
      | .retiring, _ => refuse .state s
      | _, [] => refuse .state s
      | _, e :: _ => report (.skipped e.clip r.queue.length) ((s.conclude v .flushed).startFade v)

/-- R98: an entry placed during a flush's fade stands at the head and is reported as the current one, with the position, the passes and
the first-sample mark that the flushed entry left; while none has been placed, the reply carries these leftovers beside no current
entry (log 25). A gap timer or a maximum-wait timer that does not run is reported with 0
remaining, as R20 says for the yield timer only (log 25). -/
def execVoiceStatus (q : Byte) (voice : Nat) (s : State) : Out :=
  serve 4 4 q .runOnly s fun s =>
    match voiceOf voice with
    | none => refuse .range s
    | some v =>
      let r := s.voice v
      let queue := if onControl v then s.voc.control else s.voc.vehicle
      let fading := r.state == .retiring && r.fade.isSome
      let stalled := (s.waiters (onControl v)).contains (.voice v)
      let current := if r.state = .idle then none else r.queue.head?
      report (.voiceStatus r.state fading stalled current r.position r.passes r.first (r.gap.getD 0) (r.maxWait.getD 0)
        (r.queue.tail.map Entry.clip) queue.length (s.waiters (onControl v)).length) s

/-- R89: due at a maximum-wait timer of 0 (log 1). -/
def State.expire (s : State) (v : Voice) : State :=
  if (s.voice v).maxWait = some 0 then
    match (s.voice v).state with
    | .starting => (s.conclude v .expired).retire v
    | .waitingFill => (s.conclude v .expired).retire v
    | .waitingZone => (s.conclude v .expired).retire v
    | _ => s
  else s

def execMaxWaitExpiry (v : Voice) (s : State) : Out := .next (if s.running then s.expire v else s)

/-- R90, R91: due at a gap timer of 0 (log 1). -/
def State.endGap (s : State) (v : Voice) : State :=
  let r := s.voice v
  if r.state = .gap ∧ r.gap = some 0 then
    let t := s.liftHush (voiceSource v)
    t.setVoice v { r with state := if s.voiceHeard v then .playing else .waitingZone, gap := none, fade := none, position := 0 }
  else s

def execGapExpiry (v : Voice) (s : State) : Out := .next (if s.running then s.endGap v else s)

/-- R83, R92, R96: due at a fade count of 0 (log 1). -/
def State.endFade (s : State) (v : Voice) : State :=
  let r := s.voice v
  if r.fade = some 0 then
    let t := s.setVoice v { r with fade := none }
    match r.state, r.flushing with
    | .retiring, true => t.nextEntry v
    | .retiring, false => t.retire v
    | _, _ => t
  else s

def execFadeComplete (v : Voice) (s : State) : Out := .next (if s.running then s.endFade v else s)

end Sys2Proof.Machine
end

