-- ==== Sys2Proof/Machine/WatchCommands.lean ====
section
/-! DEFINITION. The commands of the watch unit (11_watches.md). -/

namespace Sys2Proof.Machine

/-- R178, R182: the quantity a request names. -/
def quantityOf : QuantityField → Option Quantity
  | .speed => some .speed
  | .q1 => some .q1
  | .q2 => some .q2
  | .freePages => some .freePages
  | .maxThermalL => some .maxThermalL
  | .erle => some .erle
  | .noise => some .noise
  | .volume z k =>
    match zoneOf z, kindOf k with
    | some z, some k => some (.volume z k)
    | _, _ => none

/-- R178, R182: the action a request names. -/
def actionOf : ActionField → Option WatchAction
  | .notify => some .notify
  | .take z => (zoneOf z).map .take
  | .release z => (zoneOf z).map .release

/-- R178: the threshold's range; a 16-bit field cannot leave it. -/
def thresholdKnown (t : Int) : Bool := decide (-32768 ≤ t ∧ t ≤ 32767)

/-- R182: the record a request asks for; none is refused RANGE. -/
def watchOf (quantity : Option QuantityField) (threshold : Int) (cond : Option WatchCond) (hold : Nat) (mode : Option WatchMode)
    (action : Option ActionField) : Option Watch :=
  match quantity.bind quantityOf, cond, mode, action.bind actionOf with
  | some q, some c, some m, some a =>
    if thresholdKnown threshold = false ∨ hold < 1 ∨ 255 < hold then none
    else some ⟨q, threshold, c, hold, m, a, 0, true, none, none⟩
  | _, _, _, _ => none

def State.setWatch (s : State) (slot : Nat) (w : Option Watch) : State :=
  s.mapWat (fun x => { x with slots := x.slots.set slot w })

def execWatchSet (q : Byte) (slot : Nat) (quantity : Option QuantityField) (threshold : Int) (cond : Option WatchCond) (hold : Nat)
    (mode : Option WatchMode) (action : Option ActionField) (s : State) : Out :=
  serve 11 0 q .runOnly s fun s =>
    if 15 < slot then refuse .range s
    else
      match watchOf quantity threshold cond hold mode action with
      | some w => report (.watch (some w)) (s.setWatch slot (some w))
      | none => refuse .range s

/-- R182. DESIGN CHOICE (log 25): the rule names no results, and the DONE reply carries EMPTY, the slot as WATCH.QUERY would report it. -/
def execWatchClear (q : Byte) (slot : Nat) (s : State) : Out :=
  serve 11 1 q .runOnly s fun s =>
    if 15 < slot then refuse .range s else report (.watch none) (s.setWatch slot none)

def execWatchQuery (q : Byte) (slot : Nat) (s : State) : Out :=
  serve 11 2 q .runOnly s fun s =>
    if 15 < slot then refuse .range s else report (.watch (s.wat.slots.getD slot none)) s

/-! ## Fires (R181) -/

/-- The first fire owed by a slot, and what is left (log 2). -/
def takeOwed (slot : Nat) : List (Nat × WatchAction) → Option (WatchAction × List (Nat × WatchAction))
  | [] => none
  | (n, a) :: l =>
    if n = slot then some (a, l)
    else (takeOwed slot l).map (fun r => (r.1, (n, a) :: r.2))

/-- R181: a fire raises WATCH(n) and carries out its action. -/
def State.fire (s : State) (slot : Nat) (a : WatchAction) : State :=
  let t := s.raise (.watch slot)
  match a with
  | .notify => t
  | .take z => t.watchOrder z false
  | .release z => t.watchOrder z true

def State.watchFire (s : State) (slot : Nat) : State :=
  match takeOwed slot s.wat.owed with
  | some (a, l) => (s.mapWat (fun w => { w with owed := l })).fire slot a
  | none => s

def execWatchFire (slot : Nat) (s : State) : Out := .next (if s.running then s.watchFire slot else s)

end Sys2Proof.Machine
end

