-- ==== Sys2Proof/Machine/Zones.lean ====
section
/-! DEFINITION. The commands of the zone arbiter (01_zones_and_claims.md): ZONE_SELECT, ZONE_POLICY, ZONE_STATUS, YIELD_EXPIRY. -/

namespace Sys2Proof.Machine

/-- R19: the wish that a selection leaves a rear zone with. -/
def wishOf : Option Source → Wish
  | some .radio1 => .cabin
  | _ => .none

/-- R19: an accepted selection. -/
def State.selectEnt (s : State) (z : Zone) (src : Option Source) : State :=
  let t := s.setEnt z src
  if z.rear then (t.setWish z (wishOf src)).replan else t

def execZoneSelect (q : Byte) (zone source : Nat) (s : State) : Out :=
  serve 1 0 q .lockable s fun s =>
    match zoneOf zone with
    | none => refuse .range s
    | some z =>
      match selectOf z source with
      | none => refuse .range s
      | some src =>
        let t := State.countDevice s (s.selectEnt z src)
        report (.entertainment (t.entSource z) (t.entState z)) t

/-- R6: the row of a number. -/
def PolicyRows.get (p : PolicyRows) : Nat → Option Effect
  | 0 => some p.entertainment
  | 1 => some p.traffic
  | 2 => some p.prompt
  | 3 => some p.ring
  | 4 => some p.call
  | 5 => some p.chime
  | 6 => some p.emergency
  | 7 => some p.privateCall
  | _ => none

def PolicyRows.set (p : PolicyRows) (row : Nat) (e : Effect) : PolicyRows :=
  match row with
  | 0 => { p with entertainment := e }
  | 1 => { p with traffic := e }
  | 2 => { p with prompt := e }
  | 3 => { p with ring := e }
  | 4 => { p with call := e }
  | 5 => { p with chime := e }
  | 6 => { p with emergency := e }
  | 7 => { p with privateCall := e }
  | _ => p

/-- R7: the effect a request names, and whether its depth was clamped; none, refused RANGE, for an effect that the row does not accept
and, by the model's choice, for one that is none of the three (log 15). -/
def rowEffect (row : Nat) (e : Option EffectName) (depth : Nat) : Option (Effect × Bool) :=
  match e, row with
  | some .mix, _ => some (.mix, false)
  | _, 0 => none
  | some .exclusive, _ => some (.exclusive, false)
  | some .duck, _ => some (.duck (min depth 160), decide (160 < depth))
  | none, _ => none

/-- R7: a row is replaced and the zone evaluated. -/
def State.setRow (s : State) (z : Zone) (row : Nat) (e : Effect) : State :=
  (s.mapArb (fun a => { a with policy := a.policy.set z ((a.policy.get z).set row e) })).evaluate z []

def execZonePolicy (q : Byte) (zone row : Nat) (effect : Option EffectName) (depth : Nat) (s : State) : Out :=
  serve 1 1 q .runOnly s fun s =>
    match zoneOf zone with
    | none => refuse .range s
    | some z =>
      match (s.arb.policy.get z).get row, rowEffect row effect depth with
      | some old, some (e, clamped) =>
        report (.policyRow e clamped) (if e = old then s else s.setRow z row e)
      | _, _ => refuse .range s

def execZoneStatus (q : Byte) (zone : Nat) (s : State) : Out :=
  serve 1 2 q .runOnly s fun s =>
    match zoneOf zone with
    | none => refuse .range s
    | some z =>
      let zs := s.zone z
      report (.zoneStatus (zs.claims.map Claim.report) zs.leading (zs.yieldTimer.getD 0) zs.entHeld) s

/-- R15; due at a timer of 0 (log 1). -/
def execYieldExpiry (z : Zone) (s : State) : Out :=
  .next (if s.running ∧ (s.zone z).yieldTimer = some 0 then s.yieldExpired z else s)

end Sys2Proof.Machine
end

