-- ==== Sys2Proof/Machine/Dispatch.lean ====
section
/-! DEFINITION. The dispatch: one arm for each command, each arm one call of its meaning. -/

namespace Sys2Proof.Machine

def exec (i : Instr) (s : State) : Host.Outcome State Fault Refusal :=
  match i with
  | .coldReset => Sys2Proof.Machine.execColdReset s
  | .warmReset => Sys2Proof.Machine.execWarmReset s
  | .frameReceived bytes => Sys2Proof.Machine.execFrameReceived bytes s
  | .frameGapTimeout => Sys2Proof.Machine.execFrameGapTimeout s
  | .unknownRequest code q payloadLength => Sys2Proof.Machine.execUnknownRequest code q payloadLength s
  | .sysIdentify q => Sys2Proof.Machine.execSysIdentify q s
  | .sysLoadTableOnly q table bytes => Sys2Proof.Machine.execSysLoadTableOnly q table bytes s
  | .sysLoadTableFirst q table bytes => Sys2Proof.Machine.execSysLoadTableFirst q table bytes s
  | .sysLoadTableMore q table bytes => Sys2Proof.Machine.execSysLoadTableMore q table bytes s
  | .sysLoadTableLast q table bytes => Sys2Proof.Machine.execSysLoadTableLast q table bytes s
  | .sysStart q => Sys2Proof.Machine.execSysStart q s
  | .sysReset q => Sys2Proof.Machine.execSysReset q s
  | .sysNoticeMask q op flags => Sys2Proof.Machine.execSysNoticeMask q op flags s
  | .sysNoticeAck q flags => Sys2Proof.Machine.execSysNoticeAck q flags s
  | .noticeFrameSent => Sys2Proof.Machine.execNoticeFrameSent s
  | .zoneSelect q zone source => Sys2Proof.Machine.execZoneSelect q zone source s
  | .zonePolicy q zone row effect depth => Sys2Proof.Machine.execZonePolicy q zone row effect depth s
  | .zoneStatus q zone => Sys2Proof.Machine.execZoneStatus q zone s
  | .zoneVolume q zone kind step => Sys2Proof.Machine.execZoneVolume q zone kind step s
  | .zoneTrim q zone source trim => Sys2Proof.Machine.execZoneTrim q zone source trim s
  | .zoneLevels q zone source => Sys2Proof.Machine.execZoneLevels q zone source s
  | .yieldExpiry z => Sys2Proof.Machine.execYieldExpiry z s
  | .renderFrame inp => Sys2Proof.Machine.execRenderFrame inp s
  | .coolCountExpiry channel => Sys2Proof.Machine.execCoolCountExpiry channel s
  | .profileStage q zone fields => Sys2Proof.Machine.execProfileStage q zone fields s
  | .profileRead q zone copy => Sys2Proof.Machine.execProfileRead q zone copy s
  | .profileTakeNow q zone modeKnown => Sys2Proof.Machine.execProfileTakeNow q zone modeKnown s
  | .profileTakeHold q zone => Sys2Proof.Machine.execProfileTakeHold q zone s
  | .profileRelease q zone => Sys2Proof.Machine.execProfileRelease q zone s
  | .profileDiscard q zone => Sys2Proof.Machine.execProfileDiscard q zone s
  | .poolAlloc q n rate owner auto => Sys2Proof.Machine.execPoolAlloc q n rate owner auto s
  | .poolPending q => Sys2Proof.Machine.execPoolPending q s
  | .poolCancel q slot => Sys2Proof.Machine.execPoolCancel q slot s
  | .poolSeek q clip position dir => Sys2Proof.Machine.execPoolSeek q clip position dir s
  | .poolWrite q samples => Sys2Proof.Machine.execPoolWrite q samples s
  | .poolRead q count => Sys2Proof.Machine.execPoolRead q count s
  | .poolSeal q clip length => Sys2Proof.Machine.execPoolSeal q clip length s
  | .poolRelease q clip => Sys2Proof.Machine.execPoolRelease q clip s
  | .poolStatus q => Sys2Proof.Machine.execPoolStatus q s
  | .poolClip q clip => Sys2Proof.Machine.execPoolClip q clip s
  | .voiceEnqueue q voice clip mask repeats gap threshold trim maxWait => Sys2Proof.Machine.execVoiceEnqueue q voice clip mask repeats gap threshold trim maxWait s
  | .voiceCompletions q => Sys2Proof.Machine.execVoiceCompletions q s
  | .voiceFlush q voice => Sys2Proof.Machine.execVoiceFlush q voice s
  | .voiceSkip q voice => Sys2Proof.Machine.execVoiceSkip q voice s
  | .voiceStatus q voice => Sys2Proof.Machine.execVoiceStatus q voice s
  | .maxWaitExpiry v => Sys2Proof.Machine.execMaxWaitExpiry v s
  | .gapExpiry v => Sys2Proof.Machine.execGapExpiry v s
  | .fadeComplete v => Sys2Proof.Machine.execFadeComplete v s
  | .tunerFront q band freq => Sys2Proof.Machine.execTunerFront q band freq s
  | .tunerRear q zone band freq => Sys2Proof.Machine.execTunerRear q zone band freq s
  | .tunerFlags q op flags => Sys2Proof.Machine.execTunerFlags q op flags s
  | .tunerConfig q afThreshold afHold afMargin seekThreshold => Sys2Proof.Machine.execTunerConfig q afThreshold afHold afMargin seekThreshold s
  | .tunerSeek q dir => Sys2Proof.Machine.execTunerSeek q dir s
  | .tunerStatus q => Sys2Proof.Machine.execTunerStatus q s
  | .tuneFadeDone p => Sys2Proof.Machine.execTuneFadeDone p s
  | .tuneConfirmation p at_ => Sys2Proof.Machine.execTuneConfirmation p at_ s
  | .confirmTimeout p => Sys2Proof.Machine.execConfirmTimeout p s
  | .settleDone p => Sys2Proof.Machine.execSettleDone p s
  | .failureRetry p => Sys2Proof.Machine.execFailureRetry p s
  | .pathMeasurement p fs mp adj => Sys2Proof.Machine.execPathMeasurement p fs mp adj s
  | .decodedField p item => Sys2Proof.Machine.execDecodedField p item s
  | .seekStepMeasurement fs mp adj => Sys2Proof.Machine.execSeekStepMeasurement fs mp adj s
  | .afCheckBegin => Sys2Proof.Machine.execAfCheckBegin s
  | .afTrialEnd => Sys2Proof.Machine.execAfTrialEnd s
  | .peekStart => Sys2Proof.Machine.execPeekStart s
  | .peekCandidateCommand => Sys2Proof.Machine.execPeekCandidateCommand s
  | .peekMeasurement fs mp adj => Sys2Proof.Machine.execPeekMeasurement fs mp adj s
  | .peekReturn => Sys2Proof.Machine.execPeekReturn s
  | .stationList q first => Sys2Proof.Machine.execStationList q first s
  | .stationRead q slot reserve => Sys2Proof.Machine.execStationRead q slot reserve s
  | .stationWrite q slot fields => Sys2Proof.Machine.execStationWrite q slot fields s
  | .stationWriteCond q slot fields => Sys2Proof.Machine.execStationWriteCond q slot fields s
  | .stationDelete q slot => Sys2Proof.Machine.execStationDelete q slot s
  | .stationPresetAssign q preset slot => Sys2Proof.Machine.execStationPresetAssign q preset slot s
  | .stationPresetClear q preset => Sys2Proof.Machine.execStationPresetClear q preset s
  | .stationPresetQuery q preset opKnown => Sys2Proof.Machine.execStationPresetQuery q preset opKnown s
  | .stationAdmit q op mask => Sys2Proof.Machine.execStationAdmit q op mask s
  | .stationAgeTick => Sys2Proof.Machine.execStationAgeTick s
  | .scanConfig q interval permit admitQ => Sys2Proof.Machine.execScanConfig q interval permit admitQ s
  | .scanIntervalExpiry => Sys2Proof.Machine.execScanIntervalExpiry s
  | .scanVisitMeasurement fs mp adj => Sys2Proof.Machine.execScanVisitMeasurement fs mp adj s
  | .codeDwellEnd => Sys2Proof.Machine.execCodeDwellEnd s
  | .scanWindowTimeout => Sys2Proof.Machine.execScanWindowTimeout s
  | .trafficStatus q => Sys2Proof.Machine.execTrafficStatus q s
  | .tailExpiry p => Sys2Proof.Machine.execTailExpiry p s
  | .announcementAgeLimit p => Sys2Proof.Machine.execAnnouncementAgeLimit p s
  | .callRing q mode clip gap => Sys2Proof.Machine.execCallRing q mode clip gap s
  | .callAnswer q => Sys2Proof.Machine.execCallAnswer q s
  | .callHold q => Sys2Proof.Machine.execCallHold q s
  | .callResume q => Sys2Proof.Machine.execCallResume q s
  | .callEnd q => Sys2Proof.Machine.execCallEnd q s
  | .callMode q mode => Sys2Proof.Machine.execCallMode q mode s
  | .callTrim q down up => Sys2Proof.Machine.execCallTrim q down up s
  | .callEchoConfig q tc tt => Sys2Proof.Machine.execCallEchoConfig q tc tt s
  | .callStatus q => Sys2Proof.Machine.execCallStatus q s
  | .micLevelDelivery speech noise => Sys2Proof.Machine.execMicLevelDelivery speech noise s
  | .noiseForming => Sys2Proof.Machine.execNoiseForming s
  | .echoEstimate erle doubleTalk => Sys2Proof.Machine.execEchoEstimate erle doubleTalk s
  | .echoConverged => Sys2Proof.Machine.execEchoConverged s
  | .frozenHangEnd => Sys2Proof.Machine.execFrozenHangEnd s
  | .vehicleSpeed q parameters => Sys2Proof.Machine.execVehicleSpeed q parameters s
  | .vehicleChime q parameters => Sys2Proof.Machine.execVehicleChime q parameters s
  | .vehicleChimeStop q parameters => Sys2Proof.Machine.execVehicleChimeStop q parameters s
  | .vehicleOverride q parameters => Sys2Proof.Machine.execVehicleOverride q parameters s
  | .vehicleStatus q => Sys2Proof.Machine.execVehicleStatus q s
  | .speed v => Sys2Proof.Machine.execSpeed v s
  | .speedStale => Sys2Proof.Machine.execSpeedStale s
  | .chime clip mask repeats gap => Sys2Proof.Machine.execChime clip mask repeats gap s
  | .chimeStop => Sys2Proof.Machine.execChimeStop s
  | .overrideEnter => Sys2Proof.Machine.execOverrideEnter s
  | .overrideExitResume => Sys2Proof.Machine.execOverrideExitResume s
  | .overrideExitDrop => Sys2Proof.Machine.execOverrideExitDrop s
  | .vehicleFrameIgnored frame => Sys2Proof.Machine.execVehicleFrameIgnored frame s
  | .statusPeriod => Sys2Proof.Machine.execStatusPeriod s
  | .statusSent => Sys2Proof.Machine.execStatusSent s
  | .chimeDoneSent => Sys2Proof.Machine.execChimeDoneSent s
  | .watchSet q slot quantity threshold cond hold mode action => Sys2Proof.Machine.execWatchSet q slot quantity threshold cond hold mode action s
  | .watchClear q slot => Sys2Proof.Machine.execWatchClear q slot s
  | .watchQuery q slot => Sys2Proof.Machine.execWatchQuery q slot s
  | .watchFire slot => Sys2Proof.Machine.execWatchFire slot s
  | .replyFrameSent => Sys2Proof.Machine.execReplyFrameSent s

end Sys2Proof.Machine
end

