-- ==== Sys2Proof/Safety.lean ====
section
/-! DEFINITION. The terms the statements are written in: when the part serves a request, what a reply leaves behind, the code bytes of
R190, what whole groups of operations leave as it was, and the properties that every step keeps. The machine reads none of it. -/

namespace Sys2Proof.Machine

/-! ## Serving -/

/-- R184, R187, R189: the part is in RUN and no accepted SYS.RESET waits for its effect. -/
def Serves (s : State) : Prop := s.port.op = .run ∧ s.port.resetPending = false

/-- R175: it serves, and override is not active. -/
def Unlocked (s : State) : Prop := Serves s ∧ s.veh.override = false

/-- R184: `t` is `u` with one reply frame built: the request's frame is gone from the receiver, which goes on behind it (R183), unless
the frame it holds is another request's (log 9), a reply that still waited has left on the line, the new reply is the last frame built, and
where no earlier reply waited it joins the frames that did. Nothing else differs. -/
def RepliesWith (u t : State) (code q : Byte) (r : Reply) : Prop :=
  t = { u with port := { u.port.spendFor code q with
    tx := t.port.tx, lineOut := u.port.replyLeaves.lineOut, lastReply := some ⟨code, q, r⟩ } } ∧
  t.port.tx.getLast? = some (.reply ⟨code, q, r⟩) ∧
  (u.port.tx.any TxFrame.isReply = false → t.port.tx = u.port.tx ++ [.reply ⟨code, q, r⟩])

/-- R184: the command answers a next state in which the request has its own effect, `u`, and its one reply. -/
def Answers (c : Instr) (s u : State) (code q : Byte) (r : Reply) : Prop :=
  ∃ t, exec c s = .next t ∧ RepliesWith u t code q r

/-- R184: the operands are those of some form of the request; a PROFILE.STAGE without a field record is none (log 20). -/
def formed : Instr → Bool
  | .profileStage _ _ [] => false
  | _ => true

/-- R175: the codes refused LOCKED in override: SYS.RESET, ZONE.SELECT and VOLUME, VOICE.ENQUEUE, FLUSH and SKIP, TUNER.FRONT, REAR
and SEEK, CALL.RING, ANSWER, HOLD, RESUME, END and MODE. -/
def lockedCodes : List Byte :=
  [0x03, 0x10, 0x13, 0x40, 0x42, 0x43, 0x50, 0x51, 0x54, 0x90, 0x91, 0x92, 0x93, 0x94, 0x95]

/-- R187: the codes served in STARTUP: SYS.IDENTIFY, SYS.LOAD_TABLE and SYS.START. -/
def startupCodes : List Byte := [0x00, 0x01, 0x02]

/-- R190: the codes of the table, the NOTICE class apart: the number of verbs of each class. -/
def verbCounts : List Nat := [6, 6, 5, 10, 5, 6, 7, 1, 1, 9, 5, 3]

/-- R184, R190: a code byte that names a request of section 12.5. -/
def namesRequest (code : Byte) : Prop := code.toNat % 16 < verbCounts.getD (code.toNat / 16) 0

/-- R183, R190: a frame on the line. -/
def frameBytes (code q : Byte) (payload : List Byte) : List Byte :=
  let body := BitVec.ofNat 8 payload.length :: code :: q :: payload
  0xC5 :: body ++ [(crc16 body).extractLsb' 8 8, (crc16 body).extractLsb' 0 8]

/-- R184: the refusal codes as section 12.5 numbers them. -/
def refusalCode : RefCode → Byte
  | .unknown => 1
  | .length => 2
  | .range => 3
  | .state => 4
  | .busy => 5
  | .inUse => 6
  | .noClip => 7
  | .pathBusy => 8
  | .stale => 9
  | .locked => 10
  | .privileged => 11
  | .notStarted => 12
  | .missingTable => 13
  | .badTable => 14

/-! ## Tables as bytes (log 8) -/

/-- R26: four curves, curve by curve, as 16-bit words. -/
def curvesBytes (cs : List (List Int)) : List Byte := cs.flatten.flatMap (fun v => twoBytes (BitVec.ofInt 16 v).toNat)

/-- R45, R46: a channel entry as it is loaded: its channel, its row (F 0, R 1, X 2, H 3), its side (L 0, R 1, C 2) and the rest. -/
structure MapRecord where
  channel : Nat
  row : Nat
  side : Nat
  trim : Int
  rated : Nat
  tau : Nat
  group : Nat
deriving DecidableEq, Repr

/-- Its fields fit the format. -/
def MapRecord.fits (x : MapRecord) : Prop :=
  x.channel < 256 ∧ x.row < 256 ∧ x.side < 256 ∧ (-128 ≤ x.trim ∧ x.trim ≤ 127) ∧ x.rated < 65536 ∧ x.tau < 65536 ∧ x.group < 256

def MapRecord.bytes (x : MapRecord) : List Byte :=
  [BitVec.ofNat 8 x.channel, BitVec.ofNat 8 x.row, BitVec.ofNat 8 x.side, BitVec.ofInt 8 x.trim] ++
    twoBytes x.rated ++ twoBytes x.tau ++ [BitVec.ofNat 8 x.group]

def mapBytes (l : List MapRecord) : List Byte := l.flatMap MapRecord.bytes

/-- A coefficient's four bytes, high byte first. -/
def fourBytes (v : Int) : List Byte :=
  let w := BitVec.ofInt 32 v
  [w.extractLsb' 24 8, w.extractLsb' 16 8, w.extractLsb' 8 8, w.extractLsb' 0 8]

/-- A group record's fields fit the format. -/
def GroupRecord.fits (x : GroupRecord) : Prop :=
  x.preset < 256 ∧ x.group < 256 ∧ x.sections.length < 256 ∧
  ∀ c ∈ x.sections, ∀ v ∈ [c.b0, c.b1, c.b2, c.a1, c.a2], -(2 ^ 31) ≤ v ∧ v < 2 ^ 31

def GroupRecord.bytes (x : GroupRecord) : List Byte :=
  [BitVec.ofNat 8 x.preset, BitVec.ofNat 8 x.group, BitVec.ofNat 8 x.sections.length] ++
    x.sections.flatMap (fun c => [c.b0, c.b1, c.b2, c.a1, c.a2].flatMap fourBytes)

/-- R49: group records. -/
def eqBytes (l : List GroupRecord) : List Byte := l.flatMap GroupRecord.bytes

/-- R6: row records of four bytes. -/
def policyBytes (l : List PolicyRecord) : List Byte :=
  l.flatMap (fun x => [x.zone, x.row, x.effect, x.depth].map (BitVec.ofNat 8))

/-! ## What groups of operations leave -/

/-- What the operations of claims, clips, voices and announcements leave: every block of registers but the claim lists, the mix
points and hushes, the clip records, the voices, the announcements, the CHIME_DONE, the notice flags and the watches' evaluations. -/
abbrev ClaimFrame (s t : State) : Prop :=
  t.pending = s.pending ∧ t.free = s.free ∧ t.port.op = s.port.op ∧ t.port.lastReset = s.port.lastReset ∧
  t.port.resetPending = s.port.resetPending ∧ t.port.rx = s.port.rx ∧ t.port.held = s.port.held ∧
  t.port.mask = s.port.mask ∧ t.port.assembly = s.port.assembly ∧ t.port.lastReply = s.port.lastReply ∧
  t.port.lineOut = s.port.lineOut ∧ t.arb.policy = s.arb.policy ∧ t.arb.policyLoaded = s.arb.policyLoaded ∧
  t.rend.volume = s.rend.volume ∧ t.rend.trims = s.rend.trims ∧ t.rend.thermal = s.rend.thermal ∧ t.rend.out = s.rend.out ∧
  t.rend.uplink = s.rend.uplink ∧ t.rend.telemUplink = s.rend.telemUplink ∧ t.pool.mem = s.pool.mem ∧
  t.veh.speed = s.veh.speed ∧ t.veh.age = s.veh.age ∧ t.veh.stale = s.veh.stale ∧ t.veh.override = s.veh.override ∧
  t.veh.savedStep = s.veh.savedStep ∧ t.veh.refusal = s.veh.refusal ∧ t.veh.status = s.veh.status ∧
  t.veh.statusTimer = s.veh.statusTimer ∧ t.veh.base = s.veh.base ∧ t.veh.step = s.veh.step ∧ t.veh.loaded = s.veh.loaded ∧
  t.veh.busOut = s.veh.busOut ∧ t.wat.slots.length = s.wat.slots.length ∧ t.rend.eqMem = s.rend.eqMem ∧
  t.rend.shelfMem = s.rend.shelfMem ∧ t.bank = s.bank ∧ t.tun = s.tun ∧ t.sta = s.sta ∧ t.scan = s.scan ∧ t.call = s.call ∧
  t.pool.clips.length = s.pool.clips.length ∧   t.port.tx.countP TxFrame.isReply = s.port.tx.countP TxFrame.isReply

/-- What the operations of the tuner paths, the station table and the scan leave: the port, the policy, the renderer's registers, the
profile bank, the samples, the call, the vehicle port, the tuner's flags and settings, the admission mask and the scan settings. -/
abbrev TunerFrame (s t : State) : Prop :=
  t.pending = s.pending ∧ t.free = s.free ∧ t.port.op = s.port.op ∧ t.port.lastReset = s.port.lastReset ∧
  t.port.resetPending = s.port.resetPending ∧ t.port.rx = s.port.rx ∧ t.port.held = s.port.held ∧
  t.port.mask = s.port.mask ∧ t.port.assembly = s.port.assembly ∧ t.port.lastReply = s.port.lastReply ∧
  t.port.lineOut = s.port.lineOut ∧ t.arb.policy = s.arb.policy ∧ t.arb.policyLoaded = s.arb.policyLoaded ∧
  t.rend.volume = s.rend.volume ∧ t.rend.trims = s.rend.trims ∧ t.rend.thermal = s.rend.thermal ∧ t.rend.out = s.rend.out ∧
  t.rend.uplink = s.rend.uplink ∧ t.rend.telemUplink = s.rend.telemUplink ∧ t.pool.mem = s.pool.mem ∧
  t.veh.speed = s.veh.speed ∧ t.veh.age = s.veh.age ∧ t.veh.stale = s.veh.stale ∧ t.veh.override = s.veh.override ∧
  t.veh.savedStep = s.veh.savedStep ∧ t.veh.refusal = s.veh.refusal ∧ t.veh.status = s.veh.status ∧
  t.veh.statusTimer = s.veh.statusTimer ∧ t.veh.base = s.veh.base ∧ t.veh.step = s.veh.step ∧ t.veh.loaded = s.veh.loaded ∧
  t.veh.busOut = s.veh.busOut ∧ t.wat.slots.length = s.wat.slots.length ∧ t.rend.eqMem = s.rend.eqMem ∧
  t.rend.shelfMem = s.rend.shelfMem ∧ t.bank = s.bank ∧ t.call = s.call ∧ t.tun.flags = s.tun.flags ∧
  t.tun.settings = s.tun.settings ∧ t.sta.mask = s.sta.mask ∧ t.sta.admitQ = s.sta.admitQ ∧
  t.scan.interval = s.scan.interval ∧ t.scan.permit = s.scan.permit ∧ t.pool.clips.length = s.pool.clips.length ∧
  t.sta.slots.length = s.sta.slots.length ∧ t.sta.presets.length = s.sta.presets.length ∧
  t.port.tx.countP TxFrame.isReply = s.port.tx.countP TxFrame.isReply

/-- What takes, calls and the canceller leave: the port, the policy, the volumes and trims, the thermal model, the samples, the
vehicle port, the tuner, the station table and the scan, the bank's staged profiles and tables, and the call's settings. -/
abbrev CallFrame (s t : State) : Prop :=
  t.pending = s.pending ∧ t.free = s.free ∧ t.port.op = s.port.op ∧ t.port.lastReset = s.port.lastReset ∧
  t.port.resetPending = s.port.resetPending ∧ t.port.rx = s.port.rx ∧ t.port.held = s.port.held ∧
  t.port.mask = s.port.mask ∧ t.port.assembly = s.port.assembly ∧ t.port.lastReply = s.port.lastReply ∧
  t.port.lineOut = s.port.lineOut ∧ t.arb.policy = s.arb.policy ∧ t.arb.policyLoaded = s.arb.policyLoaded ∧
  t.rend.volume = s.rend.volume ∧ t.rend.trims = s.rend.trims ∧ t.rend.thermal = s.rend.thermal ∧ t.rend.out = s.rend.out ∧
  t.rend.uplink = s.rend.uplink ∧ t.rend.telemUplink = s.rend.telemUplink ∧ t.pool.mem = s.pool.mem ∧
  t.veh.speed = s.veh.speed ∧ t.veh.age = s.veh.age ∧ t.veh.stale = s.veh.stale ∧ t.veh.override = s.veh.override ∧
  t.veh.savedStep = s.veh.savedStep ∧ t.veh.refusal = s.veh.refusal ∧ t.veh.status = s.veh.status ∧
  t.veh.statusTimer = s.veh.statusTimer ∧ t.veh.base = s.veh.base ∧ t.veh.step = s.veh.step ∧ t.veh.loaded = s.veh.loaded ∧
  t.veh.busOut = s.veh.busOut ∧ t.wat.slots.length = s.wat.slots.length ∧ t.tun = s.tun ∧ t.sta = s.sta ∧ t.scan = s.scan ∧
  t.bank.staged = s.bank.staged ∧ t.bank.map = s.bank.map ∧ t.bank.mapLoaded = s.bank.mapLoaded ∧ t.bank.eq = s.bank.eq ∧
  t.bank.eqLoaded = s.bank.eqLoaded ∧ t.bank.curves = s.bank.curves ∧ t.bank.curvesLoaded = s.bank.curvesLoaded ∧
  t.call.downTrim = s.call.downTrim ∧ t.call.upTrim = s.call.upTrim ∧ t.call.speech = s.call.speech ∧
  t.call.noiseFloor = s.call.noiseFloor ∧ t.call.noise = s.call.noise ∧ t.call.callWin = s.call.callWin ∧
  t.call.telemWin = s.call.telemWin ∧ t.call.farActive = s.call.farActive ∧ t.call.echo.tc = s.call.echo.tc ∧
  t.call.echo.tt = s.call.echo.tt ∧ t.pool.clips.length = s.pool.clips.length ∧
  t.port.tx.countP TxFrame.isReply = s.port.tx.countP TxFrame.isReply

/-! ## Changes of the station table -/

/-- R120, R132: the changes of the table from `s` to `t` are counted: the revision of a slot rises by 1 where the content of its record
differs, and a reservation of that slot becomes none; everywhere else both stand. -/
def Counted (s t : State) : Prop :=
  let same : Nat → Prop := fun m => (t.sta.recAt m).map StationRec.content = (s.sta.recAt m).map StationRec.content
  (∀ m, (same m → t.revisionOf m = s.revisionOf m) ∧ (¬ same m → t.revisionOf m = s.revisionOf m + 1)) ∧
  (s.sta.reservation = none → t.sta.reservation = none) ∧
  ∀ m v, s.sta.reservation = some (m, v) →
    (same m → t.sta.reservation = some (m, v)) ∧ (¬ same m → t.sta.reservation = none)

/-- R120: the changes are counted, and a change of a slot has raised STATION_CHANGED. -/
def CountedByDevice (s t : State) : Prop :=
  Counted s t ∧ ((∃ m, (t.sta.recAt m).map StationRec.content ≠ (s.sta.recAt m).map StationRec.content) →
    t.port.flags.getLsbD 21 = true)

/-- R124: an entry joins a list of frequencies: nothing where its frequency is listed, at the tail where there is room, and else in place
of the entry behind the primary with the largest age, of equal ages the one nearer the tail, at the tail too. -/
def Joined (old : List FreqEntry) (e : FreqEntry) (new : List FreqEntry) : Prop :=
  (e.freq ∈ old.map FreqEntry.freq → new = old) ∧
  (e.freq ∉ old.map FreqEntry.freq → old.length < 8 → new = old ++ [e]) ∧
  (e.freq ∉ old.map FreqEntry.freq → 8 ≤ old.length → ∃ k x, 1 ≤ k ∧ old[k]? = some x ∧ new = old.eraseIdx k ++ [e] ∧
    ∀ j y, 1 ≤ j → j ≠ k → old[j]? = some y → y.age < x.age ∨ (y.age = x.age ∧ j < k))

/-- R123, R126: the slot that a new record takes: the lowest empty one, or, where none is empty, that of the record with origin SCAN, no
preset and the largest age, of equal ages the lowest slot. -/
def TakesSlot (t : Table) (i : Nat) : Prop :=
  (i < t.slots.length ∧ t.recAt i = none ∧ ∀ j, j < i → (t.recAt j).isSome = true) ∨
  ((∀ j, j < t.slots.length → (t.recAt j).isSome = true) ∧
    ∃ o, t.recAt i = some o ∧ o.origin = .scan ∧ o.preset = none ∧
      ∀ m p, m ≠ i → t.recAt m = some p → p.origin = .scan → p.preset = none → p.age < o.age ∨ (p.age = o.age ∧ i < m))

/-- R121: the slot of the record that an AF check's inputs go to: by P1's code, or without a known one by its frequency. -/
def checkedSlot (s : State) : Option Nat :=
  let x := s.path .p1
  match x.decoded.code with
  | some c => if c = 0 then s.sta.byFreq x.station.band x.station.freq else s.sta.byCode c
  | none => s.sta.byFreq x.station.band x.station.freq

/-- R127: an AF check has measured the frequency `f` with the quality `q`: where the checked record lists it, its last q is `q` and its age
0; at a switch the entry moves to the head of the list, but not where the record has code 0 and another FM record of code 0 has the
frequency as its primary. Every other record stands, and the change is counted. -/
def AfInput (s t : State) (f q : Nat) (switched : Prop) : Prop :=
  CountedByDevice s t ∧ (∀ m, checkedSlot s ≠ some m → t.sta.recAt m = s.sta.recAt m) ∧
  ∀ n r, checkedSlot s = some n → s.sta.recAt n = some r →
    let fresh := r.freqs.map (fun e => if e.freq = f then (⟨f, q, 0⟩ : FreqEntry) else e)
    let taken := r.code = 0 ∧ r.primary ≠ some f ∧
      ∃ m o, s.sta.recAt m = some o ∧ o.band = .fm ∧ o.code = 0 ∧ o.primary = some f
    (¬ switched ∨ taken → t.sta.recAt n = some { r with freqs := fresh }) ∧
    (switched → ¬ taken → t.sta.recAt n = some { r with
      freqs := fresh.filter (fun e => e.freq == f) ++ fresh.filter (fun e => e.freq != f) })

/-! ## What every step keeps -/

/-- R62, R63: each of the 1024 pages of the pool is free or belongs to one clip, to no more than one, and a FREE clip holds none. -/
def PagesOnce (p : Pool) : Prop :=
  (p.freePages ++ p.clips.flatMap Clip.pages).Nodup ∧ (∀ n, n ∈ p.freePages ++ p.clips.flatMap Clip.pages ↔ n < 1024) ∧
  ∀ c ∈ p.clips, c.state = .free → c.pages = []

/-- R2 to R5: a zone's list is ordered by priority and then by arrival, has one claim of a source and one ENTERTAINMENT claim at most,
gives each claim its source's class, and every arrival lies below the counter. -/
def ClaimsOk (zs : ZoneState) : Prop :=
  zs.claims.Pairwise (fun c d =>
    d.cls.priority < c.cls.priority ∨ (d.cls.priority = c.cls.priority ∧ c.arrival < d.arrival)) ∧
  (zs.claims.map Claim.source).Nodup ∧
  (∀ c ∈ zs.claims, c.cls = classOf c.source ∧ c.arrival < zs.nextArrival) ∧
  ∀ c ∈ zs.claims, ∀ d ∈ zs.claims, c.cls = .entertainment → d.cls = .entertainment → c.source = d.source

/-- R24, R27, R41: the renderer's registers are within their ranges. -/
def RendererInRange (r : Renderer) : Prop :=
  (∀ z k, (r.volume.get z).get k ≤ 63) ∧ (∀ z src, -48 ≤ (r.trims.get z).get src ∧ (r.trims.get z).get src ≤ 24) ∧
  r.thermal.length = 22 ∧
  ∀ t ∈ r.thermal, t.energy ≤ 2147483647 ∧ t.reduction ≤ 96 ∧ t.cool ≤ 16

/-- R51: a profile's field as the number the control link carries. -/
def Profile.value (p : Profile) : ProfileField → Int
  | .mediaCurve => p.mediaCurve
  | .voiceCurve => p.voiceCurve
  | .callCurve => p.callCurve
  | .eqPreset => p.eqPreset
  | .loudness => if p.loudness then 1 else 0
  | .balance => p.balance
  | .fade => p.fade
  | .slope => p.slope
  | .v0 => p.v0
  | .smax => p.smax
  | .rampRate => p.rampRate
  | .yieldTime => p.yieldTime
  | .cap => p.cap
  | .privacy => p.privacy
  | .trafficMode => match p.trafficMode with | .off => 0 | .live => 1 | .liveOrCapture => 2

/-- R51: the lowest and the highest number of a field. -/
def fieldBounds : ProfileField → Int × Int
  | .mediaCurve => (0, 3)
  | .voiceCurve => (0, 3)
  | .callCurve => (0, 3)
  | .eqPreset => (0, 15)
  | .loudness => (0, 1)
  | .balance => (-15, 15)
  | .fade => (-15, 15)
  | .slope => (0, 15)
  | .v0 => (0, 250)
  | .smax => (0, 48)
  | .rampRate => (1, 64)
  | .yieldTime => (0, 250)
  | .cap => (-480, 0)
  | .privacy => (0, 480)
  | .trafficMode => (0, 2)

/-- R51: a profile's fields are within their ranges. -/
def ProfileInRange (p : Profile) : Prop :=
  p.mediaCurve ≤ 3 ∧ p.voiceCurve ≤ 3 ∧ p.callCurve ≤ 3 ∧ p.eqPreset ≤ 15 ∧ (-15 ≤ p.balance ∧ p.balance ≤ 15) ∧
  (-15 ≤ p.fade ∧ p.fade ≤ 15) ∧ p.slope ≤ 15 ∧ p.v0 ≤ 250 ∧ p.smax ≤ 48 ∧ (1 ≤ p.rampRate ∧ p.rampRate ≤ 64) ∧
  p.yieldTime ≤ 250 ∧ (-480 ≤ p.cap ∧ p.cap ≤ 0) ∧ p.privacy ≤ 480

/-- R112, R127, R158, R162, R168, R169: the settings and the vehicle port's registers are within their ranges; R178: there are
sixteen watch slots. -/
def SettingsInRange (s : State) : Prop :=
  s.tun.settings.afThreshold ≤ 100 ∧ (500 ≤ s.tun.settings.afHold ∧ s.tun.settings.afHold ≤ 10000) ∧
  s.tun.settings.afMargin ≤ 50 ∧ s.tun.settings.seekThreshold ≤ 100 ∧
  (2 ≤ s.scan.interval ∧ s.scan.interval ≤ 60) ∧ s.scan.permit ≤ 100 ∧ s.sta.admitQ ≤ 100 ∧
  (-48 ≤ s.call.downTrim ∧ s.call.downTrim ≤ 24) ∧ (-48 ≤ s.call.upTrim ∧ s.call.upTrim ≤ 24) ∧
  (24 ≤ s.call.echo.tc ∧ s.call.echo.tc ≤ 160) ∧ (100 ≤ s.call.echo.tt ∧ s.call.echo.tt ≤ 200) ∧
  s.veh.speed ≤ 300 ∧ s.veh.age ≤ 1000 ∧ s.veh.base ≤ 2038 ∧ (1 ≤ s.veh.step ∧ s.veh.step ≤ 63) ∧
  (∀ n, s.veh.savedStep = some n → n ≤ 63) ∧ s.wat.slots.length = 16

/-- The lengths that the rules fix: R63's 63 clips, R119's 40 slots, R122's 12 presets and R49's bank of sixteen presets of nine groups; and,
once a table has been loaded, the 22 channels of R45 and the four curves of 64 entries of R26. The 22 thermal records stand in
RendererInRange and the sixteen watch slots in SettingsInRange. -/
def SizesOk (s : State) : Prop :=
  s.pool.clips.length = 63 ∧ s.sta.slots.length = 40 ∧ s.sta.presets.length = 12 ∧
  (s.bank.eq.length = 16 ∧ ∀ p ∈ s.bank.eq, p.length = 9) ∧ (s.bank.mapLoaded = true → s.bank.map.length = 22) ∧
  (s.bank.curvesLoaded = true → s.bank.curves.length = 4 ∧ ∀ c ∈ s.bank.curves, c.length = 64)

/-- R161, R174 to R176: the uplink route is TELEM in override and only then; outside it the route is CALL exactly while a call is
ACTIVE; and the canceller is OFF exactly while there is no route. -/
def RouteOk (s : State) : Prop :=
  (s.call.route = .telem ↔ s.veh.override = true) ∧
  (s.call.route = .call ↔ s.call.state = .active) ∧
  (s.call.echo.state = .off ↔ s.call.route = .none) ∧
  s.call.echo.prior ≠ .off

end Sys2Proof.Machine
end

