-- ==== Sys2Proof/Certificates/Slice0/Obligations.lean ====
section
/-! DEFINITION. The statements for the provers. The rules R<n> are those of spec/. -/

open Sys2Proof
open Sys2Proof.Machine

/-! ## The queue, the replies and the gates -/

/-- A step takes the command at the front of the queue and runs it on the state with the queue's rest. On an empty queue the block idles,
unless its control port holds a frame whose bytes spell a request: it then takes that request, once no reply waits (R184). What a step
does on an empty queue, and which requests bytes spell whose layout is not given, are the model's choices (logs 9, 14). -/
def Obligations.StepTakesTheFrontCommand : Prop :=
  (∀ s c rest, s.pending = c :: rest → step s = exec c { s with pending := rest }) ∧
  (∀ s, s.pending = [] → (s.port.held = none ∨ s.port.tx.any TxFrame.isReply = true) → step s = .next s) ∧
  ∀ s f, s.pending = [] → s.port.held = some f → s.port.tx.any TxFrame.isReply = false →
    (f.request = none → step s = .next s) ∧ ∀ c, f.request = some c → step s = exec c s

/-- No command faults or is refused by the model: each answers a next state, and none touches the queue. -/
def Obligations.EveryCommandAnswersANextState : Prop :=
  ∀ c s, ∃ t, exec c s = .next t ∧ t.pending = s.pending

/-- R184, R190, R183: a request taken for service gets one reply frame, the only reply that waits and the last frame built, with its
code byte and sequence byte unchanged. Its frame leaves the receiver, which is in HUNT where nothing came behind the frame and
otherwise goes on behind it, a whole frame there being held next. That the frames built before have left by then, that bytes
behind a held frame wait for it, and that a held frame of another code or sequence byte stays held, are the model's choices (logs 9, 13,
17). -/
def Obligations.EveryRequestGetsOneReply : Prop :=
  ∀ c s code q, requestOf c = some (code, q) → s.port.resetPending = false →
    ∃ t r, exec c s = .next t ∧ t.port.lastReply = some ⟨code, q, r⟩ ∧
      t.port.tx.getLast? = some (.reply ⟨code, q, r⟩) ∧
      t.port.tx.countP TxFrame.isReply = 1 ∧
      (∀ f, s.port.held = some f → (f.code ≠ code ∨ f.seq ≠ q) → t.port.held = some f ∧ t.port.rx = s.port.rx) ∧
      ((∀ f, s.port.held = some f → f.code = code ∧ f.seq = q) →
        (s.port.rx = .hunt → t.port.held = none ∧ t.port.rx = .hunt) ∧
        ∀ code' q' (payload : List Byte), payload.length ≤ 250 → s.port.rx = .behind (frameBytes code' q' payload) →
          t.port.held = some ⟨code', q', payload⟩ ∧ t.port.rx = .hunt)

/-- R187: in STARTUP every request but SYS.IDENTIFY, SYS.LOAD_TABLE and SYS.START is refused NOT_STARTED and changes nothing else.
12.3: nothing moves in STARTUP but the control port and the resets: every other event leaves the state as it was. R175: in override each
request of the left column is refused LOCKED and leaves the part as it was. That a PROFILE.STAGE
without a field record, where R52 gives the list at least one, is refused LENGTH (R184), in STARTUP too, is the model's choice (log 20,
DESIGN CHOICE). -/
def Obligations.StartupRefusesOtherRequests : Prop :=
  (∀ c s code q, s.port.op = .startup → s.port.resetPending = false → formed c = true → requestOf c = some (code, q) →
    code ∉ startupCodes → Answers c s s code q (.refused .notStarted [])) ∧
  (∀ c s, s.port.op = .startup → requestOf c = none →
    c ≠ .coldReset → c ≠ .warmReset → (∀ l, c ≠ .frameReceived l) → c ≠ .frameGapTimeout →
    (∀ code q n, c ≠ .unknownRequest code q n) → c ≠ .noticeFrameSent → c ≠ .replyFrameSent →
    exec c s = .next s) ∧
  (∀ c s code q, Serves s → s.veh.override = true → requestOf c = some (code, q) → code ∈ lockedCodes →
    Answers c s s code q (.refused .locked [])) ∧
  ∀ s q m, s.port.resetPending = false → Answers (.profileStage q m []) s s 0x20 q (.refused .length [])

/-! ## What every step keeps -/

/-- R2 to R5, R62, R63: every step keeps each zone's list in order, with one claim of a source and one ENTERTAINMENT claim at most,
and keeps each of the 1024 pages of the pool free or with one clip, none with two, and no FREE clip with a page. R26, R45, R49, R63,
R119, R122: every step keeps the numbers of clips, of slots, of presets and of groups of the EQ bank, and of channels and of curve entries
where that table is loaded. -/
def Obligations.StepsKeepClaimListsAndPages : Prop :=
  (∀ s t, (∀ z, ClaimsOk (s.zone z)) → PagesOnce s.pool → step s = .next t →
    (∀ z, ClaimsOk (t.zone z)) ∧ PagesOnce t.pool) ∧
  ∀ s t, SizesOk s → step s = .next t → SizesOk t

/-- R62: every step keeps the sample memory in its canonical form (a form of the model, log 5). -/
def Obligations.StepsKeepTheSampleMemoryCanonical : Prop :=
  ∀ s t, Memory.wf s.pool.mem = true → step s = .next t → Memory.wf t.pool.mem = true

/-- R24, R27, R41, R51, R52, R112, R127, R158, R162, R168, R169: every step keeps the numbered registers, and every field of every
STAGED and CURRENT profile, within their ranges. A cool count may stand at 16 until its fall, which R41 makes at once: that is the
model's choice (log 1). -/
def Obligations.StepsKeepRegistersInRange : Prop :=
  (∀ s t, RendererInRange s.rend → SettingsInRange s → step s = .next t → RendererInRange t.rend ∧ SettingsInRange t) ∧
  (∀ s t, (∀ z, ProfileInRange (s.bank.staged.get z) ∧ ProfileInRange (s.bank.current.get z)) → step s = .next t →
     ∀ z, ProfileInRange (t.bank.staged.get z) ∧ ProfileInRange (t.bank.current.get z))

/-- R161, R174 to R176: every step keeps the uplink route with the call state and the override state, and the canceller with the
route. -/
def Obligations.StepsKeepTheRoute : Prop := ∀ s t, RouteOk s → step s = .next t → RouteOk t

/-- Every one of these properties holds after a cold reset. It rests on the values that the model gives where the manual gives none
(logs 4, 5, 7). -/
def Obligations.ResetMeetsWhatStepsKeep : Prop :=
  (∀ z, ClaimsOk (State.reset.zone z)) ∧ PagesOnce State.reset.pool ∧ Memory.wf State.reset.pool.mem = true ∧
  RendererInRange State.reset.rend ∧ SettingsInRange State.reset ∧ SizesOk State.reset ∧
  (∀ z, ProfileInRange (State.reset.bank.staged.get z) ∧ ProfileInRange (State.reset.bank.current.get z)) ∧
  RouteOk State.reset

/-! ## The control port -/

/-- R187 and the cold column of 12.4. What stays is the model's choice: the queue of commands, the counter of free values and the
pool's samples, which the manual gives no reset (log 5). The registers that the manual gives no value hold the model's (logs 4, 7).
-/
def Obligations.ColdResetClearsThePart : Prop :=
  ∀ s, ∃ t, exec .coldReset s = .next t ∧
    t.pending = s.pending ∧ t.free = s.free ∧ t.pool.mem = s.pool.mem ∧
    { t with pending := [], free := 0, pool := { t.pool with mem := [] } } = State.reset ∧
    t.port.op = .startup ∧ t.port.lastReset = .cold ∧ t.port.flags = 0 ∧ t.port.mask = 0 ∧ t.port.noticeCount = 0 ∧
    t.port.rx = .hunt ∧ t.port.held = none ∧ t.port.assembly = none ∧
    t.bank.mapLoaded = false ∧ t.bank.curvesLoaded = false ∧ t.bank.eqLoaded = false ∧ t.arb.policyLoaded = false ∧
    t.veh.loaded = false ∧
    (∀ z, (t.zone z).claims = []) ∧ (∀ z k, (t.rend.volume.get z).get k = 0) ∧
    (∀ z src, (t.rend.trims.get z).get src = 0) ∧ (∀ e ∈ t.rend.thermal, e = ⟨0, 0, 0⟩) ∧
    t.pool.freePages.length = 1024 ∧ (∀ c ∈ t.pool.clips, c.state = .free) ∧
    t.tun.path.p1.station = ⟨.fm, 8750⟩ ∧ t.tun.flags = ⟨false, false, false, false⟩ ∧
    t.tun.settings = ⟨30, 2000, 10, 40⟩ ∧ t.scan.interval = 20 ∧ t.scan.permit = 50 ∧ t.sta.admitQ = 35 ∧
    (∀ x ∈ t.sta.slots, x = ⟨none, 0⟩) ∧ (∀ x ∈ t.sta.presets, x = none) ∧ t.sta.mask = BitVec.allOnes 32 ∧
    t.call.state = .idle ∧ t.call.echo.state = .off ∧ t.call.echo.tc = 72 ∧ t.call.echo.tt = 120 ∧
    t.veh.override = false ∧ t.veh.speed = 0 ∧ t.veh.age = 1000 ∧ t.veh.stale = true ∧
    ∀ w ∈ t.wat.slots, w = none

/-- R189 and the warm column of 12.4: an accepted SYS.RESET orders a warm reset, which takes effect when no reply waits any more. Until
then no frame is taken for service and every received record is ignored; that a waiting NOTICE and a held frame stay until the effect is
the model's choice (log 17). The effect enters STARTUP and keeps the five tables, the profiles, the station
table with its presets and its two admission settings, the tuner's flags and settings, the scan's two settings, the echo thresholds and
P1's station, and every other register is as after a cold reset, but that the last reset was WARM. Without an accepted SYS.RESET, and
while its reply still waits, the row does nothing (log 1). Which samples and free values stay is the model's choice (log 5), and the
registers that the manual gives no value hold the model's (logs 4, 7). -/
def Obligations.SysResetOrdersTheWarmReset : Prop :=
  (∀ s q, Unlocked s → Answers (.sysReset q) s { s with port := { s.port with resetPending := true } } 0x03 q (.done .ok)) ∧
  (∀ s, s.port.resetPending = true →
    (∀ c code q, requestOf c = some (code, q) → exec c s = .next s) ∧
    (∀ code q n, exec (.unknownRequest code q n) s = .next s) ∧
    (∀ v, exec (.speed v) s = .next s) ∧ (∀ c m r g, exec (.chime c m r g) s = .next s) ∧
    exec .chimeStop s = .next s ∧ exec .overrideEnter s = .next s ∧ exec .overrideExitResume s = .next s ∧
    exec .overrideExitDrop s = .next s ∧ ∀ f, exec (.vehicleFrameIgnored f) s = .next s) ∧
  (∀ s, (s.port.resetPending = false ∨ s.port.tx.any TxFrame.isReply = true) → exec .warmReset s = .next s) ∧
  ∀ s, s.port.resetPending = true → s.port.tx.any TxFrame.isReply = false → ∃ t, exec .warmReset s = .next t ∧
    t.pending = s.pending ∧ t.free = s.free ∧ t.pool = { State.reset.pool with mem := s.pool.mem } ∧
    t.port = { State.reset.port with lastReset := .warm } ∧
    t.arb = { State.reset.arb with policy := s.arb.policy, policyLoaded := s.arb.policyLoaded } ∧
    t.rend = State.reset.rend ∧ t.bank = { s.bank with take := ⟨.idle, .idle, .idle, .idle⟩ } ∧
    t.voc = State.reset.voc ∧ t.traf = State.reset.traf ∧ t.wat = State.reset.wat ∧
    t.tun.path.p1 = { State.reset.tun.path.p1 with station := s.tun.path.p1.station } ∧
    t.tun = { State.reset.tun with
      path := ⟨t.tun.path.p1, State.reset.tun.path.p2⟩, flags := s.tun.flags, settings := s.tun.settings } ∧
    t.sta = { s.sta with assoc := ⟨⟨none, false⟩, ⟨none, false⟩⟩, reservation := none } ∧
    t.scan = { State.reset.scan with interval := s.scan.interval, permit := s.scan.permit } ∧
    t.call = { State.reset.call with echo := { State.reset.call.echo with tc := s.call.echo.tc, tt := s.call.echo.tt } } ∧
    t.veh = { State.reset.veh with base := s.veh.base, step := s.veh.step, loaded := s.veh.loaded } ∧
    t.port.flags = 0 ∧ t.port.mask = 0 ∧ t.port.rx = .hunt ∧ t.port.held = none ∧ t.port.tx = [] ∧
    (∀ z, (t.zone z).claims = []) ∧ (∀ z k, (t.rend.volume.get z).get k = 0) ∧ (∀ z src, (t.rend.trims.get z).get src = 0) ∧
    t.pool.freePages.length = 1024 ∧ (∀ c ∈ t.pool.clips, c.state = .free) ∧
    (∀ p, (t.path p).state = .idle ∧ (t.path p).decoded.code = none) ∧ t.tun.wishL = .none ∧ t.tun.wishR = .none ∧
    t.tun.seek = none ∧ t.tun.check = none ∧ t.tun.peek = none ∧ t.tun.holdCount = 0 ∧
    t.call.state = .idle ∧ t.call.route = .none ∧ t.call.ringClip = none ∧ t.call.savedTag = none ∧ t.call.downTrim = 0 ∧
    t.call.upTrim = 0 ∧ t.call.echo.state = .off ∧ t.call.echo.applied = 0 ∧
    t.call.echo.retained = ⟨none, none, none, none⟩ ∧ t.veh.override = false ∧ t.veh.speed = 0 ∧ t.veh.stale = true ∧
    ∀ w ∈ t.wat.slots, w = none

/-- R183, R190: a whole frame that arrives at a receiver in HUNT with room is held for service, and nothing else changes; bytes that
come behind it, or while a frame is held, are kept behind it, and a gap then changes nothing. R183: bytes without a marker leave a
receiver in HUNT as it was. A frame with a length above 250, as soon as that byte has come, and a frame with a wrong CRC are discarded,
and the search goes on behind their marker, so that a later marker in them starts a frame; without one the receiver is in HUNT. A gap
discards an unfinished frame of any length: the search goes on behind its marker, and the gap then applies to what that finds; without a
later marker the receiver returns to HUNT. That the bytes behind a held frame wait for it is the model's choice (log 13). -/
def Obligations.FramesAreHeldOrDropped : Prop :=
  (∀ s code q (payload : List Byte), payload.length ≤ 250 → s.port.rx = .hunt → s.port.held = none →
     exec (.frameReceived (frameBytes code q payload)) s =
       .next { s with port := { s.port with held := some ⟨code, q, payload⟩ } } ∧
     ∀ b (more : List Byte), exec (.frameReceived (frameBytes code q payload ++ b :: more)) s =
       .next { s with port := { s.port with held := some ⟨code, q, payload⟩, rx := .behind (b :: more) } }) ∧
  (∀ s f b (old more : List Byte), s.port.held = some f →
     (s.port.rx = .hunt → exec .frameGapTimeout s = .next s ∧
       exec (.frameReceived (b :: more)) s = .next { s with port := { s.port with rx := .behind (b :: more) } }) ∧
     (s.port.rx = .behind (b :: old) → exec .frameGapTimeout s = .next s ∧
       exec (.frameReceived more) s = .next { s with port := { s.port with rx := .behind (b :: old ++ more) } })) ∧
  (∀ s (l : List Byte), s.port.rx = .hunt → s.port.held = none → exec .frameGapTimeout s = .next s ∧
     (0xC5 ∉ l → exec (.frameReceived l) s = .next s) ∧
     ∀ len : Byte, 250 < len.toNat →
       exec (.frameReceived (0xC5 :: len :: l)) s = exec (.frameReceived (len :: l)) s) ∧
  (∀ s (len code q hi lo : Byte) (payload more : List Byte), s.port.rx = .hunt → s.port.held = none →
     payload.length = len.toNat → len.toNat ≤ 250 →
     ((crc16 (len :: code :: q :: payload)).extractLsb' 8 8 ≠ hi ∨
       (crc16 (len :: code :: q :: payload)).extractLsb' 0 8 ≠ lo) →
     exec (.frameReceived (0xC5 :: len :: code :: q :: payload ++ hi :: lo :: more)) s =
       exec (.frameReceived (len :: code :: q :: payload ++ hi :: lo :: more)) s ∧
     (0xC5 ∉ len :: code :: q :: payload ++ hi :: lo :: more →
       exec (.frameReceived (0xC5 :: len :: code :: q :: payload ++ hi :: lo :: more)) s = .next s)) ∧
  ∀ s (l : List Byte), s.port.rx = .frame (0xC5 :: l) → s.port.held = none →
    (∀ len rest, l = len :: rest → len.toNat ≤ 250 ∧ rest.length < len.toNat + 4) →
    (∃ t, exec (.frameReceived l) { s with port := { s.port with rx := .hunt } } = .next t ∧
      exec .frameGapTimeout s = exec .frameGapTimeout t) ∧
    (0xC5 ∉ l → exec .frameGapTimeout s = .next { s with port := { s.port with rx := .hunt } })

/-- R184, R190: a code byte that names no request is refused UNKNOWN, and then a payload length that no form of the request allows is
refused LENGTH, which for SYS.NOTICE_ACK is any length but 8, and for the requests without a parameter any but 0 (DEDUCED, log 9); for
SYS.NOTICE_MASK, whose flag set takes 8 bytes, any below 8 is (log 9), and which lengths the others allow is free (log 9). That such a row
with a code and length that pass both checks does nothing, since they belong to another row, is the model's choice (log 9). A held frame's
bytes spell the request so refused, a request without a parameter, a SYS.NOTICE_ACK with its flag set (bit j of byte k is flag 8k + j), a
SYS.NOTICE_MASK with its flag set in the last 8 bytes, its operation being free (log 9), and the control-link form of a vehicle record; the
other frames spell none, or a request of their own code byte and sequence byte that is free, since the layout of their parameters is not
given (log 9). -/
def Obligations.UnknownAndLengthAreRefused : Prop :=
  let bare : List (Byte × (Byte → Instr)) := [(0x00, .sysIdentify), (0x02, .sysStart), (0x03, .sysReset), (0x31, .poolPending),
    (0x38, .poolStatus), (0x41, .voiceCompletions), (0x55, .tunerStatus), (0x80, .trafficStatus), (0x91, .callAnswer),
    (0x92, .callHold), (0x93, .callResume), (0x94, .callEnd), (0x98, .callStatus), (0xA4, .vehicleStatus)]
  let record : List (Byte × (Byte → List Byte → Instr)) := [(0xA0, .vehicleSpeed), (0xA1, .vehicleChime),
    (0xA2, .vehicleChimeStop), (0xA3, .vehicleOverride)]
  let allows : Byte → Nat → Prop := fun code n => Config.payloadLengthAllowed code n = true ∧ (code = 0x04 → 8 ≤ n)
  (∀ s code q n, s.port.resetPending = false →
    (¬ namesRequest code → Answers (.unknownRequest code q n) s s code q (.refused .unknown [])) ∧
    (code ≠ 0x05 → code ∉ bare.map Prod.fst → namesRequest code →
      (¬ allows code n → Answers (.unknownRequest code q n) s s code q (.refused .length [])) ∧
      (allows code n → exec (.unknownRequest code q n) s = .next s)) ∧
    (n ≠ 8 → Answers (.unknownRequest 0x05 q n) s s 0x05 q (.refused .length [])) ∧
    exec (.unknownRequest 0x05 q 8) s = .next s ∧
    (code ∈ bare.map Prod.fst →
      (n ≠ 0 → Answers (.unknownRequest code q n) s s code q (.refused .length [])) ∧
      exec (.unknownRequest code q 0) s = .next s)) ∧
  ∀ (code q : Byte) (l : List Byte), let asked := HeldFrame.request ⟨code, q, l⟩
    (¬ namesRequest code → asked = some (.unknownRequest code q l.length)) ∧
    (∀ c ∈ bare, c.1 = code → (l = [] → asked = some (c.2 q)) ∧ (l ≠ [] → asked = some (.unknownRequest code q l.length))) ∧
    (code = 0x05 → (l.length ≠ 8 → asked = some (.unknownRequest 0x05 q l.length)) ∧
      (l.length = 8 → ∃ flags : BitVec 64, asked = some (.sysNoticeAck q flags) ∧
        ∀ k j b, l[k]? = some b → j < 8 → flags.getLsbD (8 * k + j) = b.getLsbD j)) ∧
    (code = 0x04 → allows code l.length → ∃ (op : Option SetOp) (flags : BitVec 64), asked = some (.sysNoticeMask q op flags) ∧
      ∀ k j b, l[l.length - 8 + k]? = some b → j < 8 → flags.getLsbD (8 * k + j) = b.getLsbD j) ∧
    (namesRequest code → code ≠ 0x05 → code ∉ bare.map Prod.fst →
      (¬ allows code l.length → asked = some (.unknownRequest code q l.length)) ∧
      (allows code l.length → (∀ c ∈ record, c.1 = code → asked = some (c.2 q l)) ∧
        (code ∉ record.map Prod.fst → asked = none ∨ ∃ c, asked = some c ∧ requestOf c = some (code, q))))

/-- R187, R188: SYS.IDENTIFY reports the part in either operating state; FIRST begins an assembly and MORE adds to it, with the
number of bytes so far in the reply, and a segment beyond 24,576 bytes is refused BAD_TABLE and discards it. A table number above 4
is refused RANGE, and MORE and LAST without an assembly of the table STATE. LAST completes the table as ONLY of all its bytes does;
the assembly is gone either way. R168, R26, R45, R46, R49, R6: a complete table that passes its owner's checks takes the place of the
one held before, with nothing else changed in STARTUP, and any other is refused BAD_TABLE with the table held before still in force.
In RUN CHANNEL_MAP hands a reconvergence notice, starts DRIVER's mix points from mute where the headrest channels change, and empties the
section memories of each channel of another EQ group and all memories of a newly attached headrest channel (R47); EQ_BANK empties those of
each channel that a changed group of its zone's preset serves, and hands a notice where it changes a loudspeaker group of the CABIN preset
(R50, R60; that the group need not serve a channel is the model's choice, log 25); CURVES delivers each VOLUME whose figure it changes; and
after ZONE_POLICY every zone is evaluated, and the voices follow their claims (R88). An empty list of memories stands for zeros. The byte
formats are the model's (log 8). -/
def Obligations.IdentifyAndTables : Prop :=
  ((∀ s q, s.port.resetPending = false →
     Answers (.sysIdentify q) s s 0x00 q (.done (.identify 0x0A48 1 (decide (s.port.op = .run))
       (decide (s.port.lastReset = .warm)) s.bank.mapLoaded s.bank.curvesLoaded s.bank.eqLoaded s.arb.policyLoaded
       s.veh.loaded))) ∧
   (∀ s q table (bytes : List Byte), s.port.resetPending = false → table ≤ 4 →
     (bytes.length ≤ 24576 →
       Answers (.sysLoadTableFirst q table bytes) s { s with port := { s.port with assembly := some (table, bytes) } }
         0x01 q (.done (.assembled bytes.length))) ∧
     (24576 < bytes.length →
       Answers (.sysLoadTableFirst q table bytes) s { s with port := { s.port with assembly := none } }
         0x01 q (.refused .badTable []))) ∧
   (∀ s q table (old bytes : List Byte), s.port.resetPending = false → table ≤ 4 → s.port.assembly = some (table, old) →
     (old.length + bytes.length ≤ 24576 →
       Answers (.sysLoadTableMore q table bytes) s
         { s with port := { s.port with assembly := some (table, old ++ bytes) } }
         0x01 q (.done (.assembled (old.length + bytes.length)))) ∧
     (24576 < old.length + bytes.length →
       Answers (.sysLoadTableMore q table bytes) s { s with port := { s.port with assembly := none } }
         0x01 q (.refused .badTable []) ∧
       Answers (.sysLoadTableLast q table bytes) s { s with port := { s.port with assembly := none } }
         0x01 q (.refused .badTable []) ∧
       Answers (.sysLoadTableOnly q table (old ++ bytes)) s { s with port := { s.port with assembly := none } }
         0x01 q (.refused .badTable [])) ∧
     ∀ u r, Answers (.sysLoadTableOnly q table (old ++ bytes)) s u 0x01 q r →
       Answers (.sysLoadTableLast q table bytes) s u 0x01 q r) ∧
   ∀ s q table (bytes : List Byte), s.port.resetPending = false →
     (4 < table →
       Answers (.sysLoadTableOnly q table bytes) s s 0x01 q (.refused .range []) ∧
       Answers (.sysLoadTableFirst q table bytes) s s 0x01 q (.refused .range []) ∧
       Answers (.sysLoadTableMore q table bytes) s s 0x01 q (.refused .range []) ∧
       Answers (.sysLoadTableLast q table bytes) s s 0x01 q (.refused .range [])) ∧
     (table ≤ 4 → (∀ l, s.port.assembly ≠ some (table, l)) →
       Answers (.sysLoadTableMore q table bytes) s s 0x01 q (.refused .state []) ∧
       Answers (.sysLoadTableLast q table bytes) s s 0x01 q (.refused .state []))) ∧
  (∀ s q (old bytes whole : List Byte) (b1 b0 step : Byte), s.port.resetPending = false →
     (whole = [b1, b0, step] → b1.toNat * 256 + b0.toNat ≤ 2038 → 1 ≤ step.toNat → step.toNat ≤ 63 →
       let u := { s with port := { s.port with assembly := none }
                         veh := { s.veh with base := b1.toNat * 256 + b0.toNat, step := step.toNat, loaded := true } }
       Answers (.sysLoadTableOnly q 4 whole) s u 0x01 q (.done .ok) ∧
       (s.port.assembly = some (4, old) → old ++ bytes = whole →
         Answers (.sysLoadTableLast q 4 bytes) s u 0x01 q (.done .ok))) ∧
     (whole.length ≠ 3 ∨ (whole = [b1, b0, step] ∧
         (2038 < b1.toNat * 256 + b0.toNat ∨ step.toNat = 0 ∨ 63 < step.toNat)) →
       let u := { s with port := { s.port with assembly := none } }
       Answers (.sysLoadTableOnly q 4 whole) s u 0x01 q (.refused .badTable []) ∧
       (s.port.assembly = some (4, old) → old ++ bytes = whole →
         Answers (.sysLoadTableLast q 4 bytes) s u 0x01 q (.refused .badTable [])))) ∧
  (∀ s q (cs : List (List Int)), s.port.resetPending = false → cs.length = 4 → (∀ c ∈ cs, c.length = 64) →
     (∀ c ∈ cs, ∀ v ∈ c, -32768 ≤ v ∧ v ≤ 32767) →
     let u := { s with port := { s.port with assembly := none } }
     ((∀ c ∈ cs, ∀ i, 1 ≤ i → i ≤ 63 → -480 ≤ c.getD i 0 ∧ c.getD i 0 ≤ 0 ∧ (2 ≤ i → c.getD (i - 1) 0 ≤ c.getD i 0)) →
       let v := { u with bank := { s.bank with curves := cs, curvesLoaded := true } }
       ∃ w, Answers (.sysLoadTableOnly q 1 (curvesBytes cs)) s { v with wat := w } 0x01 q (.done .ok) ∧
         (s.port.op = .startup → w = s.wat) ∧
         (s.port.op = .run → ∀ (i : Nat) (x : Watch), s.wat.slots[i]? = some (some x) →
           ((∀ z k, x.quantity ≠ .volume z k) → w.slots[i]? = some (some x)) ∧
           ∀ z k, x.quantity = .volume z k → w.slots[i]? = some (some
             (if s.volFigure z k = v.volFigure z k then x else (evalWatch (v.volFigure z k) x).1)))) ∧
     ((∃ c ∈ cs, ∃ i, 1 ≤ i ∧ i ≤ 63 ∧ (c.getD i 0 < -480 ∨ 0 < c.getD i 0 ∨ (2 ≤ i ∧ c.getD i 0 < c.getD (i - 1) 0))) →
       Answers (.sysLoadTableOnly q 1 (curvesBytes cs)) s u 0x01 q (.refused .badTable [])) ∧
     ∀ bytes : List Byte, bytes.length ≠ 512 →
       Answers (.sysLoadTableOnly q 1 bytes) s u 0x01 q (.refused .badTable [])) ∧
  (∀ s q (l : List MapRecord), s.port.resetPending = false → (∀ x ∈ l, x.fits) →
     let u := { s with port := { s.port with assembly := none } }
     (l.length = 22 → (∀ k, k < 22 → ∃ x ∈ l, x.channel = k) → (l.filter (fun x => x.row == 3)).length = 2 →
       (∀ x ∈ l, x.row ≤ 3 ∧ x.side ≤ 2 ∧ -96 ≤ x.trim ∧ x.trim ≤ 24 ∧ 1 ≤ x.rated ∧ x.rated ≤ 4096 ∧ 256 ≤ x.tau ∧
         x.tau ≤ 32768 ∧ x.group ≤ 7) →
       ∃ t, Answers (.sysLoadTableOnly q 0 (mapBytes l)) s t 0x01 q (.done .ok) ∧
         t.bank = { s.bank with map := t.bank.map, mapLoaded := true } ∧ t.bank.map.length = 22 ∧
         (∀ x ∈ l, ∃ row side, t.bank.map[x.channel]? = some ⟨row, side, x.trim, x.rated, x.tau, x.group⟩ ∧
           (x.row = 0 ∧ row = .f ∨ x.row = 1 ∧ row = .r ∨ x.row = 2 ∧ row = .x ∨ x.row = 3 ∧ row = .h) ∧
           (x.side = 0 ∧ side = .l ∨ x.side = 1 ∧ side = .r ∨ x.side = 2 ∧ side = .c)) ∧
         (s.port.op = .startup → t = { u with bank := t.bank }) ∧
         (s.port.op = .run →
           t = { u with bank := t.bank, call := { s.call with reconverge := true }, rend := { s.rend with
             mix := { s.rend.mix with driver := t.rend.mix.driver }
             eqMem := { s.rend.eqMem with cabin := t.rend.eqMem.cabin, driver := t.rend.eqMem.driver }
             shelfMem := { s.rend.shelfMem with driver := t.rend.shelfMem.driver } } } ∧
           (∀ k, t.rend.eqMem.cabin.getD k [] = if (s.bank.entry k).group = (t.bank.entry k).group then s.rend.eqMem.cabin.getD k []
             else []) ∧
           (∀ i k, (t.bank.channels .driver)[i]? = some k →
             let j := (s.bank.channels .driver).idxOf k
             t.rend.eqMem.driver.getD i [] = (if k ∈ s.bank.channels .driver ∧ (s.bank.entry k).group = (t.bank.entry k).group then
               s.rend.eqMem.driver.getD j [] else []) ∧
             t.rend.shelfMem.driver.getD i ⟨0, 0, 0, 0⟩ = (if k ∈ s.bank.channels .driver then
               s.rend.shelfMem.driver.getD j ⟨0, 0, 0, 0⟩ else ⟨0, 0, 0, 0⟩)) ∧
           (t.bank.channels .driver = s.bank.channels .driver → t.rend.mix = s.rend.mix) ∧
           (t.bank.channels .driver ≠ s.bank.channels .driver → ∀ src, t.rend.mix.driver.get src =
             (s.rend.mix.driver.get src).map (fun m => { m with restart := true, yieldRate := none, jump := false })))) ∧
     (l.length ≠ 22 ∨ (∃ k, k < 22 ∧ ∀ x ∈ l, x.channel ≠ k) ∨ (l.filter (fun x => x.row == 3)).length ≠ 2 ∨
       (∃ x ∈ l, 21 < x.channel ∨ 3 < x.row ∨ 2 < x.side ∨ x.trim < -96 ∨ 24 < x.trim ∨ x.rated < 1 ∨ 4096 < x.rated ∨
         x.tau < 256 ∨ 32768 < x.tau ∨ 7 < x.group) →
       Answers (.sysLoadTableOnly q 0 (mapBytes l)) s u 0x01 q (.refused .badTable []))) ∧
  (∀ s q (l : List GroupRecord), s.port.resetPending = false → (∀ x ∈ l, x.fits) →
     s.bank.eq.length = 16 → (∀ p ∈ s.bank.eq, p.length = 9) →
     let u := { s with port := { s.port with assembly := none } }
     ((eqBytes l).length ≤ 24576 → (∀ x ∈ l, x.preset ≤ 15 ∧ x.group ≤ 8 ∧ x.sections.length ≤ 8 ∧
         ∀ c ∈ x.sections, |c.a2| < 2 ^ 30 ∧ |c.a1| < 2 ^ 30 + c.a2) →
       (l.map (fun x => (x.preset, x.group))).Nodup →
       ∃ t, Answers (.sysLoadTableOnly q 2 (eqBytes l)) s t 0x01 q (.done .ok) ∧
         t.bank = { s.bank with eq := t.bank.eq, eqLoaded := true } ∧
         (∀ x ∈ l, t.bank.sections x.preset x.group = x.sections) ∧
         (∀ p g, (∀ x ∈ l, x.preset ≠ p ∨ x.group ≠ g) → t.bank.sections p g = s.bank.sections p g) ∧
         (s.port.op = .startup → t = { u with bank := t.bank }) ∧
         (s.port.op = .run →
           t = { u with bank := t.bank, rend := { s.rend with eqMem := t.rend.eqMem }
                        call := { s.call with reconverge := t.call.reconverge } } ∧
           (∀ z i k, (s.bank.channels z)[i]? = some k →
             let p := (s.profile z).eqPreset
             let g := if z.rear then 8 else (s.bank.entry k).group
             (t.rend.eqMem.get z).getD i [] = if t.bank.sections p g = s.bank.sections p g then (s.rend.eqMem.get z).getD i []
               else []) ∧
           (t.call.reconverge = true ↔ s.call.reconverge = true ∨ ∃ x ∈ l, x.group ≤ 7 ∧
             x.preset = s.bank.current.cabin.eqPreset ∧ x.sections ≠ s.bank.sections x.preset x.group))) ∧
     ((∃ x ∈ l, 15 < x.preset ∨ 8 < x.group ∨ 8 < x.sections.length ∨
         ∃ c ∈ x.sections, 2 ^ 30 ≤ |c.a2| ∨ 2 ^ 30 + c.a2 ≤ |c.a1|) ∨ ¬ (l.map (fun x => (x.preset, x.group))).Nodup →
       Answers (.sysLoadTableOnly q 2 (eqBytes l)) s u 0x01 q (.refused .badTable []))) ∧
  ∀ s q (l : List PolicyRecord), s.port.resetPending = false →
    (∀ x ∈ l, x.zone < 256 ∧ x.row < 256 ∧ x.effect < 256 ∧ x.depth < 256) →
    let u := { s with port := { s.port with assembly := none } }
    ((∀ x ∈ l, x.zone ≤ 3 ∧ x.row ≤ 7 ∧ x.effect ≤ 2 ∧ (x.effect = 1 → x.depth ≤ 160) ∧ (x.row = 0 → x.effect = 2)) →
      (l.map (fun x => (x.zone, x.row))).Nodup →
      ∃ t, Answers (.sysLoadTableOnly q 3 (policyBytes l)) s t 0x01 q (.done .ok) ∧ t.arb.policyLoaded = true ∧
        (∀ x ∈ l, ∀ z : Zone, z.num = x.zone → (t.arb.policy.get z).get x.row =
          some (if x.effect = 0 then .exclusive else if x.effect = 1 then .duck x.depth else .mix)) ∧
        (∀ (z : Zone) row, (∀ x ∈ l, x.zone ≠ z.num ∨ x.row ≠ row) →
          (t.arb.policy.get z).get row =
            PolicyRows.get ⟨.mix, .exclusive, .duck 40, .exclusive, .exclusive, .mix, .exclusive, .duck 80⟩ row) ∧
        (s.port.op = .startup → t = { u with arb := { s.arb with policy := t.arb.policy, policyLoaded := true } }) ∧
        (s.port.op = .run →
          let v := { u with arb := { s.arb with policy := t.arb.policy, policyLoaded := true } }
          ClaimFrame v t ∧
          (∀ z, (t.zone z).leading = leadingOf (t.arb.policy.get z) (s.zone z).claims) ∧
          (∀ z, t.zone z = (State.evaluate v z []).zone z ∧ t.rend.mix.get z = (State.evaluate v z []).rend.mix.get z) ∧
          ∀ w, ((s.voice w).state = .playing ∨ (s.voice w).state = .waitingZone →
              t.voice w = { s.voice w with state := if t.voiceHeard w then .playing else .waitingZone }) ∧
            ((s.voice w).state ≠ .playing → (s.voice w).state ≠ .waitingZone → t.voice w = s.voice w))) ∧
    ((∃ x ∈ l, 3 < x.zone ∨ 7 < x.row ∨ (x.effect = 1 ∧ 160 < x.depth) ∨ (x.row = 0 ∧ x.effect ≠ 2) ∨ 2 < x.effect) ∨
        ¬ (l.map (fun x => (x.zone, x.row))).Nodup →
      Answers (.sysLoadTableOnly q 3 (policyBytes l)) s u 0x01 q (.refused .badTable []))

/-- R189: SYS.START is refused STATE in RUN and MISSING_TABLE, with the tables that are missing, in STARTUP, and otherwise enters
RUN: P1 is commanded to its station, the scan interval timer starts, every filter memory is zero and the first STATUS record waits.
-/
def Obligations.StartChecksTheTables : Prop :=
  (∀ s q, Serves s → Answers (.sysStart q) s s 0x02 q (.refused .state [])) ∧
  (∀ s q, s.port.op = .startup → s.port.resetPending = false →
    (s.bank.mapLoaded && s.bank.curvesLoaded && s.bank.eqLoaded && s.arb.policyLoaded && s.veh.loaded) = false →
    ∃ l : List Nat, (∀ n, n ∈ l ↔ (n = 0 ∧ s.bank.mapLoaded = false) ∨ (n = 1 ∧ s.bank.curvesLoaded = false) ∨
        (n = 2 ∧ s.bank.eqLoaded = false) ∨ (n = 3 ∧ s.arb.policyLoaded = false) ∨ (n = 4 ∧ s.veh.loaded = false)) ∧
      Answers (.sysStart q) s s 0x02 q (.refused .missingTable l)) ∧
  ∀ s q, s.port.op = .startup → s.port.resetPending = false →
    (s.bank.mapLoaded && s.bank.curvesLoaded && s.bank.eqLoaded && s.arb.policyLoaded && s.veh.loaded) = true →
    s.tun.path.p1.state = .idle →
    ∃ u, Answers (.sysStart q) s u 0x02 q (.done .running) ∧ u.port.op = .run ∧
      u.tun.path.p1.state = .tuning ∧ u.tun.path.p1.phase = some .confirming ∧ u.tun.path.p1.wait = some 20 ∧
      u.tun.path.p1.station = s.tun.path.p1.station ∧ u.scan.timer = some (s.scan.interval * 1000) ∧
      u.rend.eqMem = ⟨[], [], [], []⟩ ∧ u.rend.shelfMem = ⟨[], [], [], []⟩ ∧
      u.veh.status.isSome = true ∧ u.veh.statusTimer = some 100 ∧
      u.arb.policy = s.arb.policy ∧ u.bank = s.bank ∧ u.call = s.call ∧ u.rend.volume = s.rend.volume ∧
      u.rend.trims = s.rend.trims ∧ u.pool.mem = s.pool.mem ∧ u.sta.slots = s.sta.slots ∧ u.tun.flags = s.tun.flags ∧
      u.tun.settings = s.tun.settings

/-- R185, R186: a raise, the mask edit and the acknowledgement. A raise sets a clear flag, and builds a NOTICE where the flag is enabled and
none waits. A flag that an edit makes visible is carried by a NOTICE that waits to leave: the one that waits, its list brought up to date,
or a new one with the next notice count, which wraps from 255 to 0 (that the first carries 1: DEDUCED, log 16). A flag that an edit
disables, or that is acknowledged, leaves the list of a NOTICE that waits, which goes on waiting with its count, though its list be empty.
An acknowledged COMPLETION is raised again while the control queue holds completions. An edit without an operation, and a flag above 42,
are refused RANGE. -/
def Obligations.NoticeMaskAndAcknowledgement : Prop :=
  let visible : State → BitVec 64 := fun s => s.port.flags &&& s.port.mask
  let waits : State → List TxFrame → Prop := fun s w => s.port.tx = w ∨ ∃ f, s.port.tx = .reply f :: w
  let built : State → State → Prop := fun s t => t.port.noticeCount.toNat = (s.port.noticeCount.toNat + 1) % 256
  (∀ (p : Port) (n : Notice),
    (p.flags.getLsbD n.num = true → p.raise n = p) ∧
    (p.flags.getLsbD n.num = false →
      let l := p.flags ||| (1 : BitVec 64) <<< n.num
      (p.mask.getLsbD n.num = false → p.raise n = { p with flags := l }) ∧
      (p.mask.getLsbD n.num = true → (∀ f ∈ p.tx, f.isReply = true) →
        p.raise n = { p with flags := l, tx := p.tx ++ [.notice (p.noticeCount + 1) (l &&& p.mask)], noticeCount := p.noticeCount + 1 }) ∧
      (p.mask.getLsbD n.num = true → ∀ c old, p.tx = [.notice c old] →
        p.raise n = { p with flags := l, tx := [.notice c (l &&& p.mask)] }))) ∧
  (∀ s q op (named : BitVec 64), Serves s → named &&& ~~~ (0x7FFFFFFFFFF : BitVec 64) = 0 →
    ∃ t, exec (.sysNoticeMask q (some op) named) s = .next t ∧
      t.port.mask = (match op with | .set => s.port.mask ||| named | .clear => s.port.mask &&& ~~~ named | .replace => named) ∧
      t.port.flags = s.port.flags ∧ t = { s with port := t.port } ∧
      t.port.lastReply = some ⟨0x04, q, .done (.notices t.port.mask s.port.flags)⟩ ∧
      (t.port.flags &&& t.port.mask &&& ~~~ (s.port.flags &&& s.port.mask) ≠ 0 →
        ∃ c, .notice c (t.port.flags &&& t.port.mask) ∈ t.port.tx) ∧
      let answer : TxFrame := .reply ⟨0x04, q, .done (.notices t.port.mask s.port.flags)⟩
      (∀ c l, waits s [.notice c l] → t.port.tx = [.notice c (visible t), answer] ∧ t.port.noticeCount = s.port.noticeCount) ∧
      (waits s [] →
        (visible t &&& ~~~ visible s ≠ 0 →
          t.port.tx = [.notice t.port.noticeCount (visible t), answer] ∧ built s t) ∧
        (visible t &&& ~~~ visible s = 0 → t.port.tx = [answer] ∧ t.port.noticeCount = s.port.noticeCount))) ∧
  (∀ s q (named : BitVec 64), Serves s → named &&& ~~~ (0x7FFFFFFFFFF : BitVec 64) = 0 →
    ∃ t, exec (.sysNoticeAck q named) s = .next t ∧ t.port.mask = s.port.mask ∧ t = { s with port := t.port } ∧
      t.port.flags = (if named.getLsbD 1 = true ∧ s.voc.control ≠ [] then s.port.flags &&& ~~~ named ||| 2
        else s.port.flags &&& ~~~ named) ∧
      t.port.lastReply = some ⟨0x05, q, .done (.setFlags t.port.flags)⟩ ∧
      let answer : TxFrame := .reply ⟨0x05, q, .done (.setFlags t.port.flags)⟩
      let again := named.getLsbD 1 = true ∧ s.voc.control ≠ [] ∧ s.port.mask.getLsbD 1 = true
      (∀ c l, waits s [.notice c l] → t.port.tx = [.notice c (visible t), answer] ∧ t.port.noticeCount = s.port.noticeCount) ∧
      (waits s [] →
        (again → t.port.tx = [.notice t.port.noticeCount (visible t), answer] ∧ built s t) ∧
        (¬ again → t.port.tx = [answer] ∧ t.port.noticeCount = s.port.noticeCount))) ∧
  ∀ s q op (named : BitVec 64), Serves s →
    (op = none ∨ named &&& ~~~ (0x7FFFFFFFFFF : BitVec 64) ≠ 0 →
      Answers (.sysNoticeMask q op named) s s 0x04 q (.refused .range [])) ∧
    (named &&& ~~~ (0x7FFFFFFFFFF : BitVec 64) ≠ 0 → Answers (.sysNoticeAck q named) s s 0x05 q (.refused .range []))

/-- R184, R185, R190: the waiting NOTICE leaves with marker, length 8, code 0xF0, its count, its eight bytes of flags and the CRC;
the waiting reply leaves with marker, length, its code byte, its sequence byte, the outcome DONE 0, PENDING 1 or REFUSED 2, the
refusal's code after REFUSED, and the CRC; what was built later still waits. R192: a DONE of STATION.READ carries the station record.
That the waiting frames leave in the order built is the model's choice (log 17); what follows these bytes where the manual gives no
layout is free (log 9). -/
def Obligations.WaitingFramesLeave : Prop :=
  (∀ s c (l : BitVec 64) rest, s.port.tx = .notice c l :: rest → rest.all TxFrame.isReply = true →
    let body : List Byte := [0x08, 0xF0, c, l.extractLsb' 0 8, l.extractLsb' 8 8, l.extractLsb' 16 8, l.extractLsb' 24 8,
      l.extractLsb' 32 8, l.extractLsb' 40 8, l.extractLsb' 48 8, l.extractLsb' 56 8]
    exec .noticeFrameSent s = .next { s with port := { s.port with
      tx := rest
      lineOut := some (0xC5 :: body ++ [(crc16 body).extractLsb' 8 8, (crc16 body).extractLsb' 0 8]) } }) ∧
  (∀ s f rest, s.port.tx = .reply f :: rest → rest.any TxFrame.isReply = false →
    ∃ payload : List Byte,
      exec .replyFrameSent s = .next { s with port := { s.port with
        tx := rest, lineOut := some (frameBytes f.code f.seq payload) } } ∧
      (f.reply = .pending → payload = [1]) ∧
      (∀ c, f.reply = .refused c [] → payload = [2, refusalCode c]) ∧
      (∀ c info, f.reply = .refused c info → payload.head? = some 2 ∧ payload[1]? = some (refusalCode c)) ∧
      (f.reply = .done .ok → payload = [0]) ∧ (∀ r, f.reply = .done r → payload.head? = some 0) ∧
      ∀ n v r, f.reply = .done (.stationRecord (recordBytes n v r)) → payload = recordBytes n v r) ∧
  ∀ s, s.port.tx.any TxFrame.isReply = false → exec .replyFrameSent s = .next s

/-! ## Zones and claims -/

/-- R19, R1: ZONE.SELECT puts the zone's ENTERTAINMENT claim on MEDIA_A, MEDIA_B or RADIO_1, or withdraws it; the DRIVER zone takes
NONE alone. A rear zone's wish becomes the cabin's station for RADIO_1 and none otherwise. Every other zone keeps its ENTERTAINMENT
source. A zone or source that R19 does not name is refused RANGE and changes nothing. -/
def Obligations.ZoneSelectSetsTheEntertainment : Prop :=
  (∀ s q m z n (src : Option Source), Unlocked s → (∀ y, ClaimsOk (s.zone y)) → zoneOf m = some z →
    ((n = 255 ∧ src = none) ∨ (z ≠ .driver ∧ ((n = 0 ∧ src = some .mediaA) ∨ (n = 1 ∧ src = some .mediaB) ∨
      (n = 2 ∧ src = some .radio1)))) →
    (z.rear = true → s.tun.check = none) →
    ∃ u, Answers (.zoneSelect q m n) s u 0x10 q (.done (.entertainment src (u.entState z))) ∧ TunerFrame s u ∧
      u.entSource z = src ∧ (∀ y, y ≠ z → u.entSource y = s.entSource y) ∧
      (z.rear = true → u.wish z = if src = some .radio1 then .cabin else .none)) ∧
  ∀ s q m n, Unlocked s →
    (3 < m ∨ (2 < n ∧ n ≠ 255) ∨ (m = 1 ∧ n ≠ 255)) →
    Answers (.zoneSelect q m n) s s 0x10 q (.refused .range [])

/-- R7: ZONE.POLICY replaces one row of one zone, a DUCK depth being clamped to 160; every other row stays. An edit that leaves the
row as it was changes nothing, and every other edit is followed by an evaluation of the zone. Row 0 takes MIX alone; other numbers
are refused RANGE, and so is an effect that names none of the three, by the model's choice (log 15). -/
def Obligations.ZonePolicyReplacesOneRow : Prop :=
  (∀ s q m z row e depth, Serves s → zoneOf m = some z → row ≤ 7 → (row = 0 → e = .mix) →
    let eff : Effect := match e with | .exclusive => .exclusive | .duck => .duck (min depth 160) | .mix => .mix
    ∃ u, Answers (.zonePolicy q m row (some e) depth) s u 0x11 q
        (.done (.policyRow eff (decide (e = .duck ∧ 160 < depth)))) ∧
      ClaimFrame { s with arb := { s.arb with policy := u.arb.policy } } u ∧
      (u.arb.policy.get z).get row = some eff ∧
      (∀ n, n ≠ row → (u.arb.policy.get z).get n = (s.arb.policy.get z).get n) ∧
      (∀ y, y ≠ z → u.arb.policy.get y = s.arb.policy.get y) ∧
      ((s.arb.policy.get z).get row = some eff → u = s) ∧
      ((s.arb.policy.get z).get row ≠ some eff →
        let t := State.evaluate { s with arb := { s.arb with policy := u.arb.policy } } z []
        u = { t with port := u.port } ∧ u.port.flags = t.port.flags ∧
          (s.port.tx.any TxFrame.isReply = false → u.port = t.port))) ∧
  ∀ s q m row (e : Option EffectName) depth, Serves s →
    (3 < m ∨ 7 < row ∨ e = none ∨ (row = 0 ∧ e ≠ some .mix)) →
    Answers (.zonePolicy q m row e depth) s s 0x11 q (.refused .range [])

/-- R24, R27, R179: ZONE.VOLUME sets one step, clamped to 63, and delivers the zone's VOLUME figure of that kind to the watches
where the step is a new one, whether or not the figure differs (log 25); ZONE.TRIM sets one trim, clamped to -48..+24. Nothing else
changes. -/
def Obligations.VolumeAndTrimEdits : Prop :=
  (∀ s q m z n k step, Unlocked s → zoneOf m = some z → kindOf n = some k →
    let v := { s with rend := { s.rend with volume := s.rend.volume.set z ((s.rend.volume.get z).set k (min step 63)) } }
    Answers (.zoneVolume q m n step) s
      { v with wat := if (s.rend.volume.get z).get k = min step 63 then s.wat else s.wat.deliver (.volume z k) (v.volFigure z k) }
      0x13 q (.done (.volume (min step 63) (decide (63 < step))))) ∧
  (∀ s q m z n src (v : Int), Serves s → zoneOf m = some z → sourceOf n = some src →
    let t := max (-48) (min 24 v)
    Answers (.zoneTrim q m n v) s
      { s with rend := { s.rend with trims := s.rend.trims.set z ((s.rend.trims.get z).set src t) } }
      0x14 q (.done (.trim t (decide (t ≠ v))))) ∧
  (∀ s q m n step, Unlocked s → (3 < m ∨ 2 < n) → Answers (.zoneVolume q m n step) s s 0x13 q (.refused .range [])) ∧
  ∀ s q m n v, Serves s → (3 < m ∨ 11 < n) → Answers (.zoneTrim q m n v) s s 0x14 q (.refused .range [])

/-- R15, R17, R18: a yield timer that has reached 0 stops; every WAITING claim takes its natural state, every other claim keeps its
state, every yielding mark is cleared, and the leading claim is the one the list then has. The entertainment report becomes HELD, with
ENT_HELD raised, where the zone's ENTERTAINMENT claim is HELD, and NOT_HELD, with ENT_RESUMED raised, where a HELD report's claim
sounds again; otherwise no notice is raised. The voices whose claims sound, or no longer do, move between PLAYING and WAITING_ZONE. The
other zones' lists stay. A timer that has not reached 0 makes no expiry. That an
expiry acts when its timer stands at 0, and does nothing before, is the model's choice (log 1). -/
def Obligations.YieldTimerExpires : Prop :=
  (∀ s z, s.port.op = .run → (s.zone z).yieldTimer = some 0 →
    ∃ t, exec (.yieldExpiry z) s = .next t ∧ ClaimFrame s t ∧
      (t.zone z).yieldTimer = none ∧
      (t.zone z).claims = List.zipWith
        (fun c n => { c with state := if c.state = .waiting then n else c.state, yielding := false })
        (s.zone z).claims (naturals (s.arb.policy.get z) Above.none (s.zone z).claims) ∧
      (∀ c ∈ (t.zone z).claims, c.state ≠ .waiting ∧ c.yielding = false) ∧
      (t.zone z).leading = leadingOf (s.arb.policy.get z) (s.zone z).claims ∧
      (∀ y, y ≠ z → t.zone y = s.zone y) ∧
      ((t.zone z).entHeld = true ↔ t.entState z = some .held) ∧
      ((s.zone z).entHeld = false → (t.zone z).entHeld = true → t.port.flags.getLsbD (2 + z.num) = true) ∧
      ((s.zone z).entHeld = true → (t.zone z).entHeld = false → (t.entState z).isSome = true →
        t.port.flags.getLsbD (6 + z.num) = true) ∧
      ((t.zone z).entHeld = (s.zone z).entHeld ∨ t.entState z = none → t.port = s.port) ∧
      ∀ v, let heard := ∃ x c, t.claim x (voiceSource v) = some c ∧ (c.state = .audible ∨ ∃ d, c.state = .ducked d)
        (heard → t.voice v = { s.voice v with
          state := if (s.voice v).state = .waitingZone then .playing else (s.voice v).state }) ∧
        (¬ heard → t.voice v = { s.voice v with
          state := if (s.voice v).state = .playing then .waitingZone else (s.voice v).state })) ∧
  ∀ s z, (s.zone z).yieldTimer ≠ some 0 → exec (.yieldExpiry z) s = .next s

/-- R8, R9, R11 to R14, R16 to R18, R35: an evaluation of a zone. The natural state of a claim is HELD under an EXCLUSIVE claim above it,
else DUCKED by the largest depth above it, else AUDIBLE. A sounding claim that is not fresh takes its natural state: made quieter, with the
yielding mark where Y is not 0; otherwise its mark is gone, but that a claim whose state stays keeps it is the model's choice (log 18). A
HELD claim with the mark takes its natural state and, where it sounds, loses the mark; every other claim is HELD where its natural state is,
and otherwise WAITING while a yield runs and in its natural state where none does. A claim made quieter starts or restarts the timer at Y;
the yield ends where no mark is left. With Y a mix point made quieter gets the rate ceil((A + 480)/Y), at least 1, where A is not mute, and
with Y = 0 a jump; the rates of a claim that carries no mark are gone; a claim newly audible before its jump to mute starts from mute.
That the yield's rate goes before a jump not yet made, and what else becomes of one, are the model's choices (log 25). The entertainment report becomes HELD
at a filing, or with no yield running where the claim becomes HELD, and NOT_HELD where it sounds, each with its notice. The voices whose
claims sound, or no longer do, move between PLAYING and WAITING_ZONE. R4: a filing, a withdrawal and a replacement make such
evaluations. -/
def Obligations.EvaluationTreatsEachClaim : Prop :=
  let sounds : ClaimState → Prop := fun c => c = .audible ∨ ∃ d, c = .ducked d
  let lower : ClaimState → ClaimState → Prop := fun n c =>
    (c = .audible ∧ (n = .held ∨ ∃ d, n = .ducked d ∧ 0 < d)) ∨ ∃ e, c = .ducked e ∧ (n = .held ∨ ∃ d, n = .ducked d ∧ e < d)
  (∀ (rows : PolicyRows) (l : List Claim), (naturals rows Above.none l).length = l.length ∧
    ∀ (i : Nat) n, (naturals rows Above.none l)[i]? = some n →
      (n = .held ↔ ∃ c ∈ l.take i, c.effect rows = .exclusive) ∧
      (∀ d, n = .ducked d ↔ (∀ c ∈ l.take i, c.effect rows ≠ .exclusive) ∧ (∃ c ∈ l.take i, c.effect rows = .duck d) ∧
        ∀ c ∈ l.take i, ∀ e, c.effect rows = .duck e → e ≤ d) ∧
      (n = .audible ↔ ∀ c ∈ l.take i, c.effect rows = .mix)) ∧
  (∀ (s : State) z src shadow, s.claim z src = none →
    (classOf src ≠ .entertainment ∨ s.entClaim z = none) →
    s.file z src shadow = State.evaluateAfter (s.setZone z ((s.zone z).insert src shadow))
      (s.setZone z ((s.zone z).remove src)) z [src] (decide (classOf src = .entertainment))) ∧
  (∀ (s : State) z src, (s.claim z src).isSome = true → ∃ u, s.withdraw z src = State.evaluateAfter u s z [] false ∧
    (u.zone z).claims = (s.zone z).claims.filter (fun c => c.source != src) ∧ ∀ y, y ≠ z → u.zone y = s.zone y) ∧
  (∀ (s : State) z old new, ∃ u, s.replaceEnt z old new = State.evaluateAfter u s z [new] false ∧
    (u.zone z).claims = (s.zone z).claims.map (fun c => if c.source = old then { c with source := new } else c) ∧
    (old ≠ new → ∀ (i : Nat) m, ((s.rend.mix.get z).get new)[i]? = some m →
      ∃ n, ((u.rend.mix.get z).get new)[i]? = some n ∧ n.restart = true ∧ n.applied = m.applied)) ∧
  ∀ (s base : State) z (fresh : List Source) filed, ClaimsOk (s.zone z) →
    let t := s.evaluateAfter base z fresh filed
    let rows := s.arb.policy.get z
    let y := (s.profile z).yieldTime
    let l := (s.zone z).claims
    let nat : Nat → Option ClaimState := fun i => (naturals rows Above.none l)[i]?
    let quieter : Source → Prop := fun src => ∃ (i : Nat) (c : Claim) (n : ClaimState), l[i]? = some c ∧ nat i = some n ∧
      c.source = src ∧ src ∉ fresh ∧ lower n c.state
    let marked : Source → Prop := fun src => ∃ c ∈ (t.zone z).claims, c.source = src ∧ c.yielding = true
    ClaimFrame s t ∧ (∀ x, x ≠ z → t.zone x = s.zone x) ∧ (t.zone z).nextArrival = (s.zone z).nextArrival ∧
    (t.zone z).claims.length = l.length ∧
    (∀ (i : Nat) c n, l[i]? = some c → nat i = some n →
      ∃ d, (t.zone z).claims[i]? = some d ∧ d = { c with state := d.state, yielding := d.yielding } ∧
        (lower n c.state → c.source ∉ fresh → d.state = n ∧ (d.yielding = true ↔ y ≠ 0 ∨ c.yielding = true)) ∧
        (sounds c.state → ¬ lower n c.state → c.source ∉ fresh → d.state = n ∧
          (d.yielding = true ↔ n = c.state ∧ c.yielding = true)) ∧
        (c.state = .held → c.yielding = true → c.source ∉ fresh → d.state = n ∧ (d.yielding = true ↔ n = .held)) ∧
        (c.source ∈ fresh ∨ c.state = .waiting ∨ (c.state = .held ∧ c.yielding = false) →
          d.yielding = false ∧ d.state = if n = .held then .held else if (t.zone z).yieldTimer = none then n else .waiting)) ∧
    ((∃ src, marked src) → ((∃ src, quieter src) → y ≠ 0 → (t.zone z).yieldTimer = some y) ∧
      ((∀ src, ¬ quieter src) ∨ y = 0 → (t.zone z).yieldTimer = (s.zone z).yieldTimer)) ∧
    ((∀ src, ¬ marked src) → (t.zone z).yieldTimer = none) ∧
    (t.zone z).leading = ((l.find? (fun c => c.effect rows != .mix)).or l.head?).map Claim.source ∧
    (∀ src (i : Nat) m, ((s.rend.mix.get z).get src)[i]? = some m → ∃ n, ((t.rend.mix.get z).get src)[i]? = some n ∧
      n = { m with yieldRate := n.yieldRate, jump := n.jump, restart := n.restart } ∧
      (quieter src → y = 0 → n.jump = true ∧ n.yieldRate = m.yieldRate) ∧ (quieter src → n.restart = m.restart) ∧
      (quieter src → y ≠ 0 → n.jump = false ∧ ((m.restart = true ∨ m.applied = none) → n.yieldRate = none) ∧
        ∀ a, m.restart = false → m.applied = some a → ∃ r, n.yieldRate = some r ∧ 1 ≤ r ∧ a + 480 ≤ r * y ∧
          ∀ k : Nat, 1 ≤ k → a + 480 ≤ k * y → r ≤ k) ∧
      (¬ quieter src → marked src → n = m) ∧ (¬ quieter src → ¬ marked src → n.yieldRate = none ∧
        ((∀ (j : Nat) c d, l[j]? = some c → (t.zone z).claims[j]? = some d → c.source = src → d.state = c.state) →
          n.jump = m.jump ∧ n.restart = m.restart) ∧
        ∀ (j : Nat) c d, l[j]? = some c → (t.zone z).claims[j]? = some d → c.source = src → d.state ≠ c.state → n.jump = false ∧
          (n.restart = true ↔ m.restart = true ∨ (m.jump = true ∧ c.state = .held ∧ c.yielding = false)))) ∧
    (∀ x, x ≠ z → t.rend.mix.get x = s.rend.mix.get x) ∧ t.rend.hush = s.rend.hush ∧
    (s.entClaim z = none → (t.zone z).entHeld = false) ∧
    (∀ c d, s.entClaim z = some c → t.entClaim z = some d →
      ((s.zone z).entHeld = true → ((t.zone z).entHeld = false ↔ sounds d.state)) ∧
      ((s.zone z).entHeld = true → sounds d.state → t.port.flags.getLsbD (6 + z.num) = true) ∧
      ((s.zone z).entHeld = false → ((t.zone z).entHeld = true ↔ d.state = .held ∧ d.yielding = false ∧ (filed = true ∨
        ((s.zone z).yieldTimer = none ∧ (t.zone z).yieldTimer = none ∧ c.state ≠ .held)))) ∧
      ((s.zone z).entHeld = false → (t.zone z).entHeld = true → t.port.flags.getLsbD (2 + z.num) = true)) ∧
    ((t.zone z).entHeld = (s.zone z).entHeld ∨ t.entClaim z = none → t.port = s.port) ∧
    ∀ v, let heard := ∃ x c, t.claim x (voiceSource v) = some c ∧ sounds c.state
      (heard → t.voice v = { s.voice v with
        state := if (s.voice v).state = .waitingZone then .playing else (s.voice v).state }) ∧
      (¬ heard → t.voice v = { s.voice v with
        state := if (s.voice v).state = .playing then .waitingZone else (s.voice v).state })

/-! ## The renderer -/

/-- R34, R38, R45: a render frame in RUN puts out 48-sample channels, eleven slots on each of the two amplifier ports, the 22 in channel
order, and two channels on each headphone pair, no sample of which lies outside -1.0 and the largest positive 24-bit value (in units of
2^-64, log 10); volumes, trims, policies, profiles, the station table and the settings stand. -/
def Obligations.RenderFrameSaturates : Prop :=
  ∀ s inp, s.port.op = .run → ∃ t, exec (.renderFrame inp) s = .next t ∧
    t.rend.out.tdm1.length = 11 ∧ t.rend.out.tdm2.length = 11 ∧
    t.rend.out.speakers = t.rend.out.tdm1 ++ t.rend.out.tdm2 ∧
    t.rend.out.phonesL.length = 2 ∧ t.rend.out.phonesR.length = 2 ∧
    (∀ l ∈ t.rend.out.speakers ++ t.rend.out.phonesL ++ t.rend.out.phonesR, l.length = 48 ∧
      ∀ x ∈ l, -(2 ^ 64 : Rat) ≤ x ∧ x ≤ 2 ^ 64 - 2 ^ 41) ∧
    t.pending = s.pending ∧ t.port.op = s.port.op ∧ t.port.mask = s.port.mask ∧ t.port.held = s.port.held ∧
    t.port.lastReply = s.port.lastReply ∧ t.arb.policy = s.arb.policy ∧ t.rend.volume = s.rend.volume ∧
    t.rend.trims = s.rend.trims ∧ t.bank = s.bank ∧ t.sta = s.sta ∧ t.tun.flags = s.tun.flags ∧
    t.tun.settings = s.tun.settings ∧ t.scan.interval = s.scan.interval ∧ t.scan.permit = s.scan.permit ∧
    t.call.state = s.call.state ∧ t.call.mode = s.call.mode ∧ t.call.downTrim = s.call.downTrim ∧
    t.call.upTrim = s.call.upTrim ∧ t.call.route = s.call.route ∧ t.veh.speed = s.veh.speed ∧
    t.veh.override = s.veh.override

/-- R34: a mix point moves toward its target by its rate at each frame and, from any gain the part can hold, stands on the target
after 529 frames at the latest and stays there. R23, R34 to R36, R47: in a render frame in RUN every mix point of every zone takes its
target and moves toward it: at once where a jump is ordered; at its hush rate while its source is hushed, at its yield rate while its
claim carries the mark, and at its zone's ramp rate otherwise. That a point that is to start again moves from mute in that same frame, and
that a lowered headphone cap is applied and the ramp made from there in that same frame, is the model's choice (log 24, DEDUCED, unsafe
for a claim about the first frame). That a jump goes before a hush rate and before a start from mute, that a mark outlasting a hush keeps
its yield rate (log 25), and that a fall of the reduction still due changes the target first (log 1), are the model's choices too. -/
def Obligations.RampsReachTheirTargets : Prop :=
  (∀ (r n : Nat) (a g : Gain), 1 ≤ r → 529 ≤ n → (∀ x, a = some x → -480 ≤ x ∧ x ≤ 48) →
    (∀ x, g = some x → -480 ≤ x ∧ x ≤ 48) → (fun x => rampGain r x g)^[n] a = g) ∧
  ∀ (s : State) inp (z : Zone) (src : Source) (i k : Nat) (m : MixPoint), s.port.op = .run →
    (s.bank.channels z)[i]? = some k → ((s.rend.mix.get z).get src)[i]? = some m →
    (z.rear = true ∨ ∀ x, s.rend.thermal[k]? = some x → x.cool < 16) →
    let g := s.target z src k
    let from_ : Gain := if m.restart then none else m.applied
    let start : Gain := if z.rear then from_.map (fun x => min x (s.profile z).cap) else from_
    let ramp := (s.profile z).rampRate
    let rate :=
      if s.rend.hush.get src then m.hushRate.getD ramp
      else if (s.claim z src).map Claim.yielding = some true then m.yieldRate.getD ramp
      else ramp
    ∃ t n, exec (.renderFrame inp) s = .next t ∧ ((t.rend.mix.get z).get src)[i]? = some n ∧ n.target = g ∧
      n.applied = (if m.jump then g else rampGain rate start g) ∧ n.restart = false

/-- R23 to R33, R36, R41: the target of a mix point. It is mute for a hushed source, for a source without a claim in the zone and for a
shadow claim; otherwise it is the sum Vol + T + D + S + B + F + P + Q - L, resolved: mute where Vol, D or Q is mute, or where the sum is
below -480, and otherwise the sum, but no more than +48, or than the headphone cap in a rear zone. -/
def Obligations.TargetsSumTheNineTerms : Prop :=
  ∀ (s : State) (z : Zone) (src : Source) (k : Nat) (e : ChannelEntry) (x : Thermal),
    (z.rear = false → s.bank.map[k]? = some e ∧ s.rend.thermal[k]? = some x) →
    let p := s.bank.current.get z
    let cab := s.bank.current.cabin
    let curve (index step : Nat) : Gain := if step = 0 then none else some ((s.bank.curves.getD index []).getD step 0)
    let steps := s.rend.volume.get z
    let vol : Gain := match src with
      | .mediaA | .mediaB | .radio1 | .radio2 | .traffic1 | .traffic2 => curve p.mediaCurve steps.media
      | .voicePrompt | .voiceTraffic | .voiceRing => curve p.voiceCurve steps.voice
      | .call | .telem => curve p.callCurve steps.call
      | .voiceChime => some 0
    let speed : Int :=
      if z = .cabin ∧ src ≠ .voiceChime ∧ src ≠ .telem then
        min (cab.smax : Int) (((cab.slope : Int) * max 0 ((s.veh.speed : Int) - cab.v0)) / 10)
      else 0
    let side : Side := if z.rear then (if k = 0 then .l else .r) else e.side
    let balance : Int :=
      if 0 < p.balance ∧ side = .l then -8 * p.balance else if p.balance < 0 ∧ side = .r then 8 * p.balance else 0
    let fade : Int :=
      if z ≠ .cabin then 0
      else if 0 < cab.fade ∧ (e.row = .r ∨ e.row = .x) then -8 * cab.fade
      else if cab.fade < 0 ∧ e.row = .f then 8 * cab.fade else 0
    let trim : Int := if z.rear then 0 else e.trim
    let privacy : Gain :=
      if z = .cabin ∧ (src = .mediaA ∨ src = .mediaB ∨ src = .radio1 ∨ src = .radio2) ∧ e.row = .r ∧
          ((s.entSource .rearL).isSome ∨ (s.entSource .rearR).isSome) then
        (if cab.privacy = 480 then none else some (-(cab.privacy : Int)))
      else some 0
    let reduction : Int := if z.rear then 0 else (x.reduction : Int)
    (s.rend.hush.get src = true ∨ s.claim z src = none → s.target z src k = none) ∧
    ∀ c, s.claim z src = some c → s.rend.hush.get src = false →
      let duck : Gain := match c.state with | .audible => some 0 | .ducked d => some (-(d : Int)) | .held => none | .waiting => none
      (c.shadow = true ∨ vol = none ∨ duck = none ∨ privacy = none → s.target z src k = none) ∧
      ∀ v d q, c.shadow = false → vol = some v → duck = some d → privacy = some q →
        let g := v + (s.rend.trims.get z).get src + d + speed + balance + fade + trim + q - reduction
        s.target z src k = if g < -480 then none else some (min g (if z.rear then p.cap else 48))

/-- R22, R37 to R40, R48: in a render frame in RUN the contribution of a zone to a channel is the sum over the twelve sources of the
component that the channel's side takes times the multiplier of the applied gain; it passes the sections of the zone's preset in the
channel's group, and in CABIN and DRIVER with loudness on the shelf, each section by its recurrence from the memories it keeps. A channel
puts out CABIN's contribution, on row H with DRIVER's, and a headphone channel its zone's, saturated; CLIPPED is raised for each zone
whose mix points are not all mute on a channel that saturates, and for no other. R101, R138: the media sources are the samples that
arrive, a radio and a traffic source are zero where their path is not LOCKED and otherwise, without diversity and in stereo, the
programme, a voice that is IDLE is zero, and any other voice is its output of the frame (VoicesPlayInAFrame) on both sides. A multiplier is 10^(A/80) to the nearest multiple of 2^-20. Samples are exact, in units of
2^-64 of full scale: that, the shelf's coefficients and the upsampling of a downlink are the model's, the last two free (log 10). -/
def Obligations.ZonesMixIntoTheChannels : Prop :=
  (∀ (c : Biquad) (m : SectionMem) (l : List Rat), let r := sectionRun c m l
    let xs := m.x2 :: m.x1 :: l
    let ys := m.y2 :: m.y1 :: r.2
    r.2.length = l.length ∧
    r.1 = ⟨xs.getD (l.length + 1) 0, xs.getD l.length 0, ys.getD (l.length + 1) 0, ys.getD l.length 0⟩ ∧
    ∀ j, j < l.length → ys.getD (j + 2) 0 * 2 ^ 30 =
      c.b0 * xs.getD (j + 2) 0 + c.b1 * xs.getD (j + 1) 0 + c.b2 * xs.getD j 0 - c.a1 * ys.getD (j + 1) 0 - c.a2 * ys.getD j 0) ∧
  (multiplier none = 0 ∧ ∀ a : Int, -480 ≤ a → a ≤ 48 → let m := multiplier (some a)
    (2 * m - 1) ^ 80 * 10 ^ (-a).toNat ≤ 2 ^ 1680 * 10 ^ a.toNat ∧ 2 ^ 1680 * 10 ^ a.toNat < (2 * m + 1) ^ 80 * 10 ^ (-a).toNat) ∧
  (∀ (s : State) z, (s.boost z : Int) = if (s.rend.volume.get z).media = 0 then 48 else
    max 0 (min 48 ((-(s.bank.curves.getD (s.profile z).mediaCurve []).getD (s.rend.volume.get z).media 0 - 160).fdiv 4))) ∧
  ∀ (s : State) inp, s.port.op = .run → ∃ (t : State) (snd : PerSource (List (Int × Int))),
    exec (.renderFrame inp) s = .next t ∧
    snd.mediaA = inp.mediaA.map (fun x => (x.1 * 2 ^ 20, x.2 * 2 ^ 20)) ∧
    snd.mediaB = inp.mediaB.map (fun x => (x.1 * 2 ^ 20, x.2 * 2 ^ 20)) ∧
    snd.traffic1 = snd.radio1 ∧ snd.traffic2 = snd.radio2 ∧
    ((s.path .p1).state ≠ .locked → snd.radio1 = List.replicate 48 (0, 0)) ∧
    ((s.path .p2).state ≠ .locked → snd.radio2 = List.replicate 48 (0, 0)) ∧
    ((s.path .p1).state = .locked → (s.path .p2).role ≠ .partner → (s.path .p1).station.band = .fm → inp.mono.p1 = false →
      snd.radio1 = inp.programme.p1.map (fun x => (x.1 * 2 ^ 20, x.2 * 2 ^ 20))) ∧
    ((s.path .p2).state = .locked → (s.path .p2).station.band = .am →
      snd.radio2 = inp.programme.p2.map (fun x => (x.1 * 2 ^ 20, x.1 * 2 ^ 20))) ∧
    (∀ v, (s.voice v).state = .idle → (s.voice v).fade = none → snd.get (voiceSource v) = List.replicate 48 (0, 0)) ∧
    (∀ v, snd.get (voiceSource v) = ((s.voiceFrame v).out).map (fun x => (x, x))) ∧
    snd.call = (Config.upsampleDownlink inp.callDown).map (fun x =>
      (x * (multiplier (some s.call.downTrim) : Int), x * (multiplier (some s.call.downTrim) : Int))) ∧
    snd.telem = (Config.upsampleDownlink inp.telemDown).map (fun x => (x * 2 ^ 20, x * 2 ^ 20)) ∧
    let gain : Zone → Source → Nat → Gain := fun z src i => ((t.rend.mix.get z).get src)[i]?.bind MixPoint.applied
    let part : Zone → Nat → Nat → List SectionMem × List Rat × SectionMem := fun z i k =>
      let side : Side := if z.rear then (if k = 0 then .l else .r) else (s.bank.entry k).side
      let taken : Int × Int → Int := fun x => match side with | .l => 2 * x.1 | .r => 2 * x.2 | .c => x.1 + x.2
      let x : List Rat := (List.range 48).map (fun j =>
        (((Source.all.map (fun src => taken ((snd.get src).getD j (0, 0)) * (multiplier (gain z src i) : Int))).sum : Int) : Rat))
      let r := sectionsRun (s.bank.sections (s.profile z).eqPreset (if z.rear then 8 else (s.bank.entry k).group))
        ((s.rend.eqMem.get z).getD i []) x
      let c := Config.shelfCoefficients (s.boost z)
      if (s.profile z).loudness = true ∧ z.rear = false then
        let y := sectionRun ⟨c.1, c.2.1, c.2.2.1, c.2.2.2.1, c.2.2.2.2⟩ ((s.rend.shelfMem.get z).getD i ⟨0, 0, 0, 0⟩) r.2
        (r.1, y.2, y.1)
      else (r.1, r.2, ⟨0, 0, 0, 0⟩)
    let sum : Nat → List Rat := fun k =>
      match (s.bank.channels .driver)[(s.bank.channels .driver).idxOf k]? with
      | some _ => List.zipWith (· + ·) (part .cabin k k).2.1 (part .driver ((s.bank.channels .driver).idxOf k) k).2.1
      | none => (part .cabin k k).2.1
    let sat : List Rat → List Rat := fun l => l.map (fun x => max (-(2 ^ 64)) (min (2 ^ 64 - 2 ^ 41) x))
    (∀ k, k < 22 → t.rend.out.speakers[k]? = some (sat (sum k))) ∧
    (∀ k, k < 2 → t.rend.out.phonesL[k]? = some (sat (part .rearL k k).2.1) ∧
      t.rend.out.phonesR[k]? = some (sat (part .rearR k k).2.1)) ∧
    (∀ z i k, (s.bank.channels z)[i]? = some k → (t.rend.eqMem.get z)[i]? = some (part z i k).1 ∧
      (z.rear = false → (t.rend.shelfMem.get z)[i]? = some (part z i k).2.2)) ∧
    ∀ z, t.port.flags.getLsbD (10 + z.num) = true ↔ s.port.flags.getLsbD (10 + z.num) = true ∨
      ∃ i k, (s.bank.channels z)[i]? = some k ∧ (∃ src, (gain z src i).isSome = true) ∧
        ∃ x ∈ (if z.rear then (part z i k).2.1 else sum k), x < -(2 ^ 64) ∨ 2 ^ 64 - 2 ^ 41 < x

/-- R41, R179: at a render frame a channel's energy takes p = floor(4096 m) and loses its 1/tau, up to 2^31 - 1, m being the mean square
of the 48 saturated output samples. Above the high bound the reduction rises by 1, up to 96, and the cool count is 0; below the low bound
the count rises by 1 where there is a reduction, and otherwise it is 0. THERMAL is raised where a reduction leaves 0, and the largest
reduction is delivered to the watches where it changes. A channel whose cool count has reached 16 falls by one and counts afresh; a fall
of the largest reduction is delivered. A count below 16 makes no fall. That the fall at a count of 16 waits for its row, or for the next
frame, is the model's choice (log 1). -/
def Obligations.CoolCountLowersTheReduction : Prop :=
  (∀ s k x, s.port.op = .run → s.rend.thermal[k]? = some x → 16 ≤ x.cool →
    let l := s.rend.thermal.set k ⟨x.energy, x.reduction - 1, 0⟩
    exec (.coolCountExpiry k) s = .next { s with
      rend := { s.rend with thermal := l }
      wat := if maxReduction s.rend.thermal = maxReduction l then s.wat
        else s.wat.deliver .maxThermalL (maxReduction l : Int) }) ∧
  (∀ s k, (∀ x, s.rend.thermal[k]? = some x → x.cool < 16) → exec (.coolCountExpiry k) s = .next s) ∧
  ∀ (s : State) inp, s.port.op = .run → s.rend.thermal.length = 22 → s.bank.map.length = 22 →
    (∀ x ∈ s.rend.thermal, x.cool < 16) →
    ∃ t, exec (.renderFrame inp) s = .next t ∧ t.rend.thermal.length = 22 ∧
      (∀ (k : Nat) (x : Thermal) (e : ChannelEntry), s.rend.thermal[k]? = some x → s.bank.map[k]? = some e →
        ∃ (out : List Rat) (p : Nat) (y : Thermal), t.rend.out.speakers[k]? = some out ∧
          (p : Int) = ⌊4096 * (out.map (fun v => v * v)).sum / (48 * 2 ^ 128)⌋ ∧ t.rend.thermal[k]? = some y ∧
          y.energy = min 2147483647 (x.energy + p - x.energy / e.tau) ∧
          (e.rated * e.tau < y.energy → y.reduction = min 96 (x.reduction + 1) ∧ y.cool = 0) ∧
          (y.energy < 7 * e.rated * e.tau / 8 → y.reduction = x.reduction ∧
            y.cool = if x.reduction = 0 then 0 else x.cool + 1) ∧
          (7 * e.rated * e.tau / 8 ≤ y.energy → y.energy ≤ e.rated * e.tau → y.reduction = x.reduction ∧ y.cool = 0) ∧
          (x.reduction = 0 → y.reduction ≠ 0 → t.port.flags.getLsbD 14 = true)) ∧
      ∀ (i : Nat) (w : Watch), s.wat.slots[i]? = some (some w) → w.quantity = .maxThermalL →
        t.wat.slots[i]? = some (some (if maxReduction s.rend.thermal = maxReduction t.rend.thermal then w
          else (evalWatch (maxReduction t.rend.thermal : Int) w).1))

/-! ## Profiles -/

/-- R51, R52: an accepted PROFILE.STAGE gives each named field its value, clamped to the field's range and reported with its mark,
and leaves the other fields, CURRENT and everything else; a list that names a field twice, an unknown field, or a loudness or
traffic mode outside its values is refused RANGE and stages nothing. The numbers of the loudness and traffic modes are the model's
(log 15). -/
def Obligations.ProfileStageWritesTheNamedFields : Prop :=
  (∀ s q m z (l : List (ProfileField × Int)), Serves s → zoneOf m = some z → l ≠ [] → (l.map Prod.fst).Nodup →
    (∀ v, (.loudness, v) ∈ l → v = 0 ∨ v = 1) → (∀ v, (.trafficMode, v) ∈ l → 0 ≤ v ∧ v ≤ 2) →
    ∃ p : Profile, Answers (.profileStage q m (l.map (fun x => (some x.1, x.2)))) s
        { s with bank := { s.bank with staged := s.bank.staged.set z p } } 0x20 q
        (.done (.stagedFields (l.map (fun x => (x.1, p.value x.1, decide (p.value x.1 ≠ x.2)))))) ∧
      (∀ f v, (f, v) ∈ l → p.value f = max (fieldBounds f).1 (min (fieldBounds f).2 v)) ∧
      ∀ f, f ∉ l.map Prod.fst → p.value f = (s.bank.staged.get z).value f) ∧
  ∀ s q m (l : List (Option ProfileField × Int)), Serves s → l ≠ [] →
    (3 < m ∨ (∃ v, (none, v) ∈ l) ∨ ¬ (l.map Prod.fst).Nodup ∨ (∃ v, (some .loudness, v) ∈ l ∧ v ≠ 0 ∧ v ≠ 1) ∨
      (∃ v, (some .trafficMode, v) ∈ l ∧ (v < 0 ∨ 2 < v))) →
    Answers (.profileStage q m l) s s 0x20 q (.refused .range [])

/-- R54, R55, R59, R60: TAKE NOW in every take state, and RELEASE of a hold, copy STAGED into CURRENT and make the take state IDLE;
RELEASE without a hold is refused STATE; TAKE HOLD makes the take state HOLDING and nothing else. A copy that changes nothing hands nothing
on. A changed EQ preset clears the zone's section memories (R50) and, in CABIN, hands the echo canceller a reconvergence notice; a changed
loudness, in CABIN and DRIVER, clears them and the shelf's; the VOLUME of a kind whose curve index changes is delivered, whether or not its
figure differs (R179, log 25); and without a change of
the traffic mode nothing else changes. That a new EQ preset leaves the shelf's memories, and that a loudness change clears the sections'
too, are the model's choices (log 24). R56: PROFILE.DISCARD copies CURRENT into STAGED and makes the take state IDLE, in every take state;
CURRENT and every other block stay. The reply carries STAGED as it then stands; a zone outside 0..3 is refused RANGE; in STARTUP it is
refused NOT_STARTED. -/
def Obligations.TakesCopyStagedIntoCurrent : Prop :=
  let took : State → State → Zone → Prop := fun s u z =>
    let old := s.bank.current.get z
    let new := s.bank.staged.get z
    let b : Bank := { s.bank with current := s.bank.current.set z new, take := s.bank.take.set z .idle }
    CallFrame s u ∧ u.bank = b ∧ (old = new → u = { s with bank := b }) ∧
    u.rend.eqMem = (if old.eqPreset ≠ new.eqPreset ∨ (old.loudness ≠ new.loudness ∧ z.rear = false) then s.rend.eqMem.set z []
      else s.rend.eqMem) ∧
    u.rend.shelfMem = (if old.loudness ≠ new.loudness ∧ z.rear = false then s.rend.shelfMem.set z [] else s.rend.shelfMem) ∧
    u.call = { s.call with reconverge := s.call.reconverge || decide (z = .cabin ∧ old.eqPreset ≠ new.eqPreset) } ∧
    (∀ (i : Nat) (w : Watch) y k, s.wat.slots[i]? = some (some w) → w.quantity = .volume y k →
      u.wat.slots[i]? = some (some (if y ≠ z ∨ old.curve k = new.curve k then w else (evalWatch (u.volFigure y k) w).1))) ∧
    (old.trafficMode = new.trafficMode → u = { s with bank := b, call := u.call, wat := u.wat, rend := { s.rend with
      eqMem := u.rend.eqMem
      shelfMem := u.rend.shelfMem } })
  (∀ s q m z, Serves s → zoneOf m = some z →
    ∃ u, Answers (.profileTakeNow q m true) s u 0x22 q
        (.done (.take .idle (some (decide (s.bank.current.get z ≠ s.bank.staged.get z))))) ∧ took s u z) ∧
  (∀ s q m z, Serves s → zoneOf m = some z → s.bank.take.get z = .holding →
    ∃ u, Answers (.profileRelease q m) s u 0x23 q
        (.done (.take .idle (some (decide (s.bank.current.get z ≠ s.bank.staged.get z))))) ∧ took s u z) ∧
  (∀ s q m z, Serves s → zoneOf m = some z → s.bank.take.get z ≠ .holding →
    Answers (.profileRelease q m) s s 0x23 q (.refused .state [])) ∧
  (∀ s q m z, Serves s → zoneOf m = some z →
    Answers (.profileTakeHold q m) s { s with bank := { s.bank with take := s.bank.take.set z .holding } } 0x22 q
      (.done (.take .holding none))) ∧
  (∀ s q m, Serves s → 3 < m →
    Answers (.profileTakeNow q m true) s s 0x22 q (.refused .range []) ∧
    Answers (.profileTakeHold q m) s s 0x22 q (.refused .range []) ∧
    Answers (.profileRelease q m) s s 0x23 q (.refused .range [])) ∧
  (∀ s q m z, Serves s → zoneOf m = some z →
    Answers (.profileDiscard q m) s
      { s with bank := { s.bank with staged := s.bank.staged.set z (s.bank.current.get z)
                                     take := s.bank.take.set z .idle } } 0x24 q
      (.done (.discarded (s.bank.current.get z)))) ∧
  (∀ s q m, Serves s → 3 < m → Answers (.profileDiscard q m) s s 0x24 q (.refused .range [])) ∧
  ∀ s q m, s.port.op = .startup → s.port.resetPending = false →
    Answers (.profileDiscard q m) s s 0x24 q (.refused .notStarted [])

/-! ## The clip pool -/

/-- R64 to R67: POOL.ALLOC grants the lowest FREE clip with pages taken from the free list, FREE_PAGES being delivered, or lets the
request wait in its owner's empty slot, or refuses it: NO_CLIP without a FREE clip, BUSY with a slot in use, RANGE for an owner, a
number of pages or a rate that no request may name. Which pages leave the free list is the model's choice (log 5). -/
def Obligations.AllocationGrantsWaitsOrRefuses : Prop :=
  (∀ s q n rate o auto, Serves s → 1 ≤ n → n ≤ 256 → (rate = 48000 ∨ rate = 24000 ∨ rate = 16000) →
    (s.pool.lowestFree = none → Answers (.poolAlloc q n rate (some o) auto) s s 0x30 q (.refused .noClip [])) ∧
    (∀ c, s.pool.lowestFree = some c → n ≤ s.pool.freePages.length →
      (o = .control → s.pool.otherHeld + n ≤ 928) →
      Answers (.poolAlloc q n rate (some o) auto) s
        { s with
          pool := { s.pool with
            clips := s.pool.clips.set (c - 1) ⟨.filling, some (match o with | .control => .control | .vehicle => .vehicle),
              some rate, s.pool.freePages.take n, 0, 0, auto, .unused⟩
            freePages := s.pool.freePages.drop n }
          wat := s.wat.deliver .freePages ((s.pool.freePages.length - n : Nat) : Int) }
        0x30 q (.done (.allocated c (n * 1024)))) ∧
    (∀ c, s.pool.lowestFree = some c →
      (s.pool.freePages.length < n ∨ (o = .control ∧ 928 < s.pool.otherHeld + n)) →
      (s.pool.slot o = .empty →
        Answers (.poolAlloc q n rate (some o) auto) s { s with pool := s.pool.setSlot o (.waiting n rate auto) } 0x30 q
          .pending) ∧
      (s.pool.slot o ≠ .empty →
        Answers (.poolAlloc q n rate (some o) auto) s s 0x30 q (.refused .busy [])))) ∧
  ∀ s q n rate (o : Option LinkOwner) auto, Serves s →
    (o = none ∨ n = 0 ∨ 256 < n ∨ (rate ≠ 48000 ∧ rate ≠ 24000 ∧ rate ≠ 16000)) →
    Answers (.poolAlloc q n rate o auto) s s 0x30 q (.refused .range [])

/-- R69: POOL.PENDING reports both slots, the vehicle's first, and empties those that were GRANTED; a WAITING slot stays WAITING.
POOL.CANCEL empties a WAITING slot and makes no clip; it is refused STATE for an EMPTY or a GRANTED one, a GRANTED one with its
clip number, and RANGE for another slot. Both are served in override, and refused NOT_STARTED in STARTUP. -/
def Obligations.PendingAndCancelFollowTheSlots : Prop :=
  (∀ s q, Serves s → ∃ v c,
    Answers (.poolPending q) s { s with pool := { s.pool with vehicleSlot := v, controlSlot := c } } 0x31 q
      (.done (.slots s.pool.vehicleSlot s.pool.controlSlot)) ∧
    (∀ n, s.pool.vehicleSlot = .granted n → v = .empty) ∧ ((∀ n, s.pool.vehicleSlot ≠ .granted n) → v = s.pool.vehicleSlot) ∧
    (∀ n, s.pool.controlSlot = .granted n → c = .empty) ∧
    ((∀ n, s.pool.controlSlot ≠ .granted n) → c = s.pool.controlSlot)) ∧
  (∀ s q o, Serves s →
    (∀ n rate auto, s.pool.slot o = .waiting n rate auto →
      Answers (.poolCancel q (some o)) s { s with pool := s.pool.setSlot o .empty } 0x32 q (.done .ok)) ∧
    (s.pool.slot o = .empty → Answers (.poolCancel q (some o)) s s 0x32 q (.refused .state [])) ∧
    (∀ c, s.pool.slot o = .granted c → Answers (.poolCancel q (some o)) s s 0x32 q (.refused .state [c])) ∧
    Answers (.poolCancel q none) s s 0x32 q (.refused .range [])) ∧
  ∀ s q o, s.port.op = .startup → s.port.resetPending = false →
    Answers (.poolPending q) s s 0x31 q (.refused .notStarted []) ∧
    Answers (.poolCancel q o) s s 0x32 q (.refused .notStarted [])

/-- R70: POOL.SEEK sets the whole cursor where the clip's state and length allow it, a position equal to the length included; a
position behind it, a clip outside 1..63 and another direction are refused RANGE, and a clip that is not in the direction's state
is refused STATE. A refused seek leaves the cursor as it was. R62, R71, R87: POOL.WRITE stores the first 120 samples, as far as the
clip's pages go, at the cursor: they read back there, every other address of the pool reads as before, the cursor moves past them and the
fill count rises to it. R87: a voice in WAITING_FILL whose clip's new fill count reaches a threshold that is not 0 enters PLAYING where a
claim of it sounds and WAITING_ZONE otherwise; nothing else changes. Where the cursor does not allow a write it is refused STATE. The sample
memory's canonical form is a premise: every
step keeps it (StepsKeepTheSampleMemoryCanonical). -/
def Obligations.WriteStoresAtTheCursor : Prop :=
  (∀ s q (l : List Sample), Serves s → Memory.wf s.pool.mem = true → PagesOnce s.pool → s.pool.clips.length = 63 →
    s.pool.cursor.clip ≠ 0 → s.pool.cursor.dir = .write → (s.pool.clip s.pool.cursor.clip).state = .filling →
    let n := s.pool.cursor.clip
    let c := s.pool.clip n
    let pos := s.pool.cursor.position
    let fit := (l.take 120).take (c.pages.length * 1024 - pos)
    ∃ u, Answers (.poolWrite q l) s u 0x34 q (.done (.written fit.length (pos + fit.length)
        (decide (fit.length < (l.take 120).length)) (decide (120 < l.length)))) ∧
      ClaimFrame { s with pool := { s.pool with mem := u.pool.mem } } u ∧
      Memory.load c.pages u.pool.mem pos fit.length = fit ∧
      (∀ a, (∀ i, pos ≤ i → i < pos + fit.length → a ≠ sampleAddress c.pages i) →
        Memory.read u.pool.mem a = Memory.read s.pool.mem a) ∧
      u.pool.clip n = { c with fill := max c.fill (pos + fit.length) } ∧
      (∀ m, m ≠ n → u.pool.clip m = s.pool.clip m) ∧
      u.pool.cursor = ⟨n, pos + fit.length, .write⟩ ∧ u.pool.freePages = s.pool.freePages ∧
      u.pool.vehicleSlot = s.pool.vehicleSlot ∧ u.pool.controlSlot = s.pool.controlSlot ∧
      u = { s with pool := u.pool, voc := { s.voc with voices := u.voc.voices } } ∧
      ∀ v, let leaves := c.use = .playing v ∧ (s.voice v).state = .waitingFill ∧ c.fill < pos + fit.length ∧
          ∃ e es, (s.voice v).queue = e :: es ∧ e.threshold ≠ 0 ∧ e.threshold ≤ pos + fit.length
        (leaves → u.voice v = { s.voice v with state := if s.voiceHeard v then .playing else .waitingZone }) ∧
        (¬ leaves → u.voice v = s.voice v)) ∧
  (∀ s q (l : List Sample), Serves s →
    (s.pool.cursor.clip = 0 ∨ s.pool.cursor.dir = .read ∨ (s.pool.clip s.pool.cursor.clip).state ≠ .filling) →
    Answers (.poolWrite q l) s s 0x34 q (.refused .state [])) ∧
  (∀ s q n pos d, Serves s → 1 ≤ n → n ≤ 63 →
    (((s.pool.clip n).state = .filling ∧ d = .write ∧ pos ≤ (s.pool.clip n).fill) ∨
      ((s.pool.clip n).state = .ready ∧ d = .read ∧ pos ≤ (s.pool.clip n).sealedLen) →
      Answers (.poolSeek q n pos (some d)) s { s with pool := { s.pool with cursor := ⟨n, pos, d⟩ } } 0x33 q
        (.done (.cursor ⟨n, pos, d⟩))) ∧
    (((s.pool.clip n).state = .filling ∧ d = .write ∧ (s.pool.clip n).fill < pos) ∨
      ((s.pool.clip n).state = .ready ∧ d = .read ∧ (s.pool.clip n).sealedLen < pos) →
      Answers (.poolSeek q n pos (some d)) s s 0x33 q (.refused .range [])) ∧
    (((s.pool.clip n).state = .free ∨ (s.pool.clip n).state = .capturing ∨
        ((s.pool.clip n).state = .ready ∧ d = .write) ∨ ((s.pool.clip n).state = .filling ∧ d = .read)) →
      Answers (.poolSeek q n pos (some d)) s s 0x33 q (.refused .state []))) ∧
  ∀ s q n pos d, Serves s → (n = 0 ∨ 63 < n ∨ d = none) → Answers (.poolSeek q n pos d) s s 0x33 q (.refused .range [])

/-- R72: POOL.READ returns the samples from the cursor onward, up to count of them and no further than the sealed length, moves the
cursor past them and marks a reply that reaches the sealed length; it changes nothing else. -/
def Obligations.ReadReturnsSamplesAtTheCursor : Prop :=
  (∀ s q count, Serves s → 1 ≤ count → count ≤ 120 → s.pool.cursor.clip ≠ 0 → s.pool.cursor.dir = .read →
    (s.pool.clip s.pool.cursor.clip).state = .ready →
    let c := s.pool.clip s.pool.cursor.clip
    let pos := s.pool.cursor.position
    ∃ l : List Sample, l.length = min count (c.sealedLen - pos) ∧
      (∀ i, i < l.length → l[i]? = some (Memory.read s.pool.mem (sampleAddress c.pages (pos + i)))) ∧
      Answers (.poolRead q count) s
        { s with pool := { s.pool with cursor := { s.pool.cursor with position := pos + l.length } } } 0x35 q
        (.done (.samples l (pos + l.length) (decide (c.sealedLen ≤ pos + l.length))))) ∧
  (∀ s q count, Serves s → (count = 0 ∨ 120 < count) → Answers (.poolRead q count) s s 0x35 q (.refused .range [])) ∧
  (∀ s q count, Serves s → 1 ≤ count → count ≤ 120 →
    (s.pool.cursor.clip = 0 ∨ s.pool.cursor.dir = .write ∨ (s.pool.clip s.pool.cursor.clip).state ≠ .ready) →
    Answers (.poolRead q count) s s 0x35 q (.refused .state []))

/-- R68, R73, R74: a seal makes a FILLING clip READY at its length with the pages the length needs, the others joining the free list; a
release frees a clip that is not in use, and with no request waiting its pages join the free list, its record empties and a cursor that
names it is cleared. A waiting request that then fits, the vehicle's first and the control link's within its limit of 928 pages, is granted
and ALLOC_DONE raised. R87: a voice in WAITING_FILL leaves at the seal of its clip, for PLAYING where a claim of it sounds and for
WAITING_ZONE otherwise. R91: a voice beyond the new length, in PLAYING or in WAITING_ZONE after its first sample, ends the pass at once and
fades out: the next pass waits for its gap or 6 frames, whichever is longer, and after the last pass the entry is PLAYED. The order in which
the pages join the free list is the model's choice (log 5). -/
def Obligations.SealAndRelease : Prop :=
  (∀ s q n len, Serves s → s.pool.clips.length = 63 → 1 ≤ n → n ≤ 63 → (s.pool.clip n).state = .filling → 1 ≤ len →
    len ≤ (s.pool.clip n).fill →
    let c := s.pool.clip n
    let kept := (len + 1023) / 1024
    ∃ u, Answers (.poolSeal q n len) s u 0x36 q (.done (.sealed len kept (c.pages.length - kept))) ∧ ClaimFrame s u ∧
      u.pool.clip n = { c with state := .ready, sealedLen := len, fill := len, pages := c.pages.take kept } ∧
      u.pool.cursor = s.pool.cursor ∧
      (let back := c.pages.length - kept
       let other := pagesHeldBy .control s.pool.clips + pagesHeldBy .capture s.pool.clips
       (back = 0 ∨ ((∀ a b d, s.pool.vehicleSlot ≠ .waiting a b d) ∧ (∀ a b d, s.pool.controlSlot ≠ .waiting a b d)) →
         u.pool = { s.pool with
           clips := s.pool.clips.set (n - 1) { c with state := .ready, sealedLen := len, fill := len, pages := c.pages.take kept }
           freePages := s.pool.freePages ++ c.pages.drop kept }) ∧
       (∀ k m rate auto, 0 < back → s.pool.lowestFree = some k → s.pool.vehicleSlot = .waiting m rate auto →
         m ≤ s.pool.freePages.length + back →
         u.pool.vehicleSlot = .granted k ∧ (u.pool.clip k).state = .filling ∧ (u.pool.clip k).owner = some .vehicle ∧
         (u.pool.clip k).pages.length = m ∧ u.port.flags.getLsbD 0 = true) ∧
       (∀ k m rate auto, 0 < back → s.pool.lowestFree = some k → s.pool.controlSlot = .waiting m rate auto →
         (∀ a b d, s.pool.vehicleSlot = .waiting a b d → s.pool.freePages.length + back < a) →
         m ≤ s.pool.freePages.length + back →
         other - (if c.owner = some .control ∨ c.owner = some .capture then back else 0) + m ≤ 928 →
         u.pool.controlSlot = .granted k ∧ (u.pool.clip k).state = .filling ∧ (u.pool.clip k).owner = some .control ∧
         (u.pool.clip k).pages.length = m ∧ u.port.flags.getLsbD 0 = true)) ∧
      ∀ v, let r := s.voice v
        let cut := c.use = .playing v ∧ (r.state = .playing ∨ (r.state = .waitingZone ∧ r.first = true)) ∧ len < r.position
        (c.use = .playing v → r.state = .waitingFill → u.voice v = { r with
          state := if s.voiceHeard v then .playing else .waitingZone }) ∧
        (∀ e es, cut → r.queue = e :: es → u.rend.hush.get (voiceSource v) = true ∧
          (e.repeats = 0 ∨ 1 < r.passes → u.voice v = { r with
            state := .gap, position := 0, gap := some (max e.gap 6), fade := some 6
            passes := if e.repeats = 0 then r.passes else r.passes - 1 }) ∧
          (e.repeats ≠ 0 → r.passes ≤ 1 → u.voice v = { r with
            state := .retiring, gap := none, maxWait := none, fade := some 6, passes := r.passes - 1
            queue := { e with outcome := some .played } :: es })) ∧
        (c.use ≠ .playing v ∨ (r.state ≠ .waitingFill ∧ ¬ cut) → u.voice v = r)) ∧
  (∀ s q n len, Serves s → 1 ≤ n → n ≤ 63 →
    ((s.pool.clip n).state ≠ .filling → Answers (.poolSeal q n len) s s 0x36 q (.refused .state [])) ∧
    ((s.pool.clip n).state = .filling → (len = 0 ∨ (s.pool.clip n).fill < len) →
      Answers (.poolSeal q n len) s s 0x36 q (.refused .range []))) ∧
  (∀ s q n, Serves s → 1 ≤ n → n ≤ 63 → s.pool.clips.length = 63 → (s.pool.clip n).state ≠ .free →
    (s.pool.clip n).state ≠ .capturing → (s.pool.clip n).use = .unused →
    let back := (s.pool.clip n).pages.length
    let other := pagesHeldBy .control s.pool.clips + pagesHeldBy .capture s.pool.clips
    ∃ u, Answers (.poolRelease q n) s u 0x37 q (.done (.released back)) ∧ ClaimFrame s u ∧
      ((∀ a b c, s.pool.vehicleSlot ≠ .waiting a b c) → (∀ a b c, s.pool.controlSlot ≠ .waiting a b c) →
        u = { s with pool := u.pool, wat := u.wat } ∧
        u.pool = { s.pool with
          clips := s.pool.clips.set (n - 1) ⟨.free, none, none, [], 0, 0, false, .unused⟩
          freePages := s.pool.freePages ++ (s.pool.clip n).pages
          cursor := if s.pool.cursor.clip = n then ⟨0, 0, s.pool.cursor.dir⟩ else s.pool.cursor }) ∧
      (∀ m rate auto, s.pool.vehicleSlot = .waiting m rate auto → m ≤ s.pool.freePages.length + back →
        (∃ c, u.pool.vehicleSlot = .granted c ∧ (c = n ∨ s.pool.lowestFree = some c)) ∧ u.port.flags.getLsbD 0 = true) ∧
      (∀ m rate auto, s.pool.controlSlot = .waiting m rate auto →
        (∀ a b c, s.pool.vehicleSlot = .waiting a b c → s.pool.freePages.length + back < a) →
        m ≤ s.pool.freePages.length + back →
        other - (if (s.pool.clip n).owner = some .control ∨ (s.pool.clip n).owner = some .capture then back else 0) + m ≤ 928 →
        (∃ c, u.pool.controlSlot = .granted c ∧ (c = n ∨ s.pool.lowestFree = some c)) ∧ u.port.flags.getLsbD 0 = true)) ∧
  (∀ s q n, Serves s → 1 ≤ n → n ≤ 63 →
    ((s.pool.clip n).state = .free → Answers (.poolRelease q n) s s 0x37 q (.refused .state [])) ∧
    ((s.pool.clip n).state = .capturing ∨ ((s.pool.clip n).state ≠ .free ∧ (s.pool.clip n).use ≠ .unused) →
      Answers (.poolRelease q n) s s 0x37 q (.refused .inUse []))) ∧
  ∀ s q n len, Serves s → (n = 0 ∨ 63 < n) →
    Answers (.poolSeal q n len) s s 0x36 q (.refused .range []) ∧ Answers (.poolRelease q n) s s 0x37 q (.refused .range [])

/-! ## Voices -/

/-- R84, R86: VOICE.ENQUEUE places the entry, its repeat count clamped to 15 and its trim to -48..0, at the tail of the voice's
queue. On an IDLE voice the entry becomes current: the voice is STARTING, the clip's marker PLAYING, and the voice has a claim in
exactly the zones of the mask; otherwise the marker becomes QUEUED. Checks 3 to 8 of R84 refuse in this order: a clip, mask, gap or
maximum wait outside its range RANGE; a FREE clip STATE; a VEHICLE clip RANGE; a clip capturing or in use IN_USE; a start threshold
above the allocated length of a FILLING clip RANGE; a queue of eight BUSY. CHIME is refused PRIVILEGED and another voice RANGE. -/
def Obligations.EnqueuePlacesAnEntry : Prop :=
  (∀ s q n v clip mask repeats gap threshold (trim : Int) maxWait, Unlocked s → voiceOf n = some v → v ≠ .chime →
    s.placeRefusal v ⟨clip, mask, repeats, gap, threshold, trim, maxWait⟩ = none →
    ∃ u e, Answers (.voiceEnqueue q n clip mask repeats gap threshold trim maxWait) s u 0x40 q
        (.done (.enqueued ((s.voice v).queue.length + 1) e (u.voice v).state (decide (15 < repeats))
          (decide (max (-48) (min 0 trim) ≠ trim)))) ∧
      ClaimFrame s u ∧
      e = ⟨clip, ⟨mask.testBit 0, mask.testBit 1, mask.testBit 2, mask.testBit 3⟩, min repeats 15, gap, threshold,
        max (-48) (min 0 trim), maxWait, none⟩ ∧
      (u.voice v).queue = (s.voice v).queue ++ [e] ∧
      ((s.voice v).state = .idle → (u.voice v).state = .starting ∧ (u.pool.clip clip).use = .playing v ∧
        ∀ z, (u.claim z (voiceSource v)).isSome = mask.testBit z.num) ∧
      ((s.voice v).state ≠ .idle → u = { s with pool := u.pool, voc := u.voc } ∧ (u.voice v).state = (s.voice v).state ∧
        (u.pool.clip clip).use = .queued v)) ∧
  (∀ s q n v clip mask repeats gap threshold trim maxWait c, Unlocked s → voiceOf n = some v → v ≠ .chime →
    s.placeRefusal v ⟨clip, mask, repeats, gap, threshold, trim, maxWait⟩ = some c →
    Answers (.voiceEnqueue q n clip mask repeats gap threshold trim maxWait) s s 0x40 q (.refused c [])) ∧
  (∀ (s : State) v clip mask repeats gap threshold trim maxWait, v ≠ .chime →
    let c := s.pool.clip clip
    s.placeRefusal v ⟨clip, mask, repeats, gap, threshold, trim, maxWait⟩ =
      if clip = 0 ∨ 63 < clip ∨ mask = 0 ∨ 15 < mask ∨ 5000 < gap ∨ 60 < maxWait then some .range
      else if c.state = .free then some .state
      else if c.owner = some .vehicle then some .range
      else if c.state = .capturing ∨ c.use ≠ .unused then some .inUse
      else if c.state = .filling ∧ c.pages.length * 1024 < threshold then some .range
      else if 8 ≤ (s.voice v).queue.length then some .busy
      else none) ∧
  ∀ s q n clip mask repeats gap threshold trim maxWait, Unlocked s →
    (n = 0 → Answers (.voiceEnqueue q n clip mask repeats gap threshold trim maxWait) s s 0x40 q (.refused .privileged [])) ∧
    (3 < n → Answers (.voiceEnqueue q n clip mask repeats gap threshold trim maxWait) s s 0x40 q (.refused .range []))

/-- R93, R94, R96, R97: VOICE.COMPLETIONS removes up to eight completions from the head of the control queue. A completion queue has room
for what it lacks of 16 entries, or 8 for the vehicle queue, and none while a waiter stands; a flush owes a completion for each entry with an
outcome, but one that PLAYED with auto-release, and for each other entry whose clip has auto-release clear. VOICE.FLUSH empties the voice's
queue, or is refused BUSY and does nothing where the room is less than it owes: the owed completions are appended in queue order with the
outcome that the entry had, or FLUSHED, and each other clip becomes FREE and its pages join the free list. A request that waits may then be
granted the freed clip at once (R68). The queue's entries name different clips, none of them FREE, wherever R84 placed them. VOICE.SKIP gives the current
entry the outcome FLUSHED and fades it out, and is refused STATE in IDLE and in RETIRING, with or without entries behind. That a flush
frees the clip of an entry that PLAYED with auto-release and was fading out, and so counts it among the freed, is the model's choice
(log 21). -/
def Obligations.CompletionsFlushAndSkip : Prop :=
  let freed : State → Entry → Bool := fun s e => (s.pool.clip e.clip).auto && (e.outcome == none || e.outcome == some .played)
  let told : Voice → Entry → Completion := fun v e => ⟨e.clip, some v, e.outcome.getD .flushed⟩
  (∀ (s : State) v, s.room true = (if s.voc.controlWaiters = [] then 16 - s.voc.control.length else 0) ∧
    s.room false = (if s.voc.vehicleWaiters = [] then 8 - s.voc.vehicle.length else 0) ∧
    s.flushOwes v = ((s.voice v).queue.filter (fun e => match e.outcome with
      | some o => !(decide (o = .played) && (s.pool.clip e.clip).auto)
      | none => !(s.pool.clip e.clip).auto)).length) ∧
  (∀ s q, Serves s → ∃ u,
    Answers (.voiceCompletions q) s u 0x41 q (.done (.completions (s.voc.control.take 8) (s.voc.control.length - 8))) ∧
    ClaimFrame s u ∧
    (s.voc.controlWaiters = [] → u = { s with voc := { s.voc with control := s.voc.control.drop 8 } })) ∧
  (∀ s q n v, Unlocked s → voiceOf n = some v → v ≠ .chime →
    (s.flushOwes v ≤ s.room true →
      ∃ u a f, Answers (.voiceFlush q n) s u 0x42 q (.done (.flushed (s.voice v).queue.length a f)) ∧ ClaimFrame s u ∧
        a + f = (s.voice v).queue.length ∧ (u.voice v).queue = [] ∧
        u.voc.control.length = s.voc.control.length + a ∧
        .voice v ∉ u.voc.controlWaiters ∧ (∀ w, w ≠ v → u.voice w = s.voice w) ∧ u.arb = s.arb ∧
        (let es := (s.voice v).queue
         (es.map Entry.clip).Nodup → (∀ e ∈ es, (s.pool.clip e.clip).state ≠ .free) →
          u.voc.control = s.voc.control ++ (es.filter (fun e => !freed s e)).map (told v) ∧
          (a ≠ 0 → u.port.flags.getLsbD 1 = true) ∧ f = (es.filter (freed s)).length ∧
          (∀ e ∈ es, freed s e = false → u.pool.clip e.clip = { s.pool.clip e.clip with use := .unused }) ∧
          (∀ e ∈ es, freed s e = true → u.pool.clip e.clip = ⟨.free, none, none, [], 0, 0, false, .unused⟩ ∨
            u.pool.vehicleSlot = .granted e.clip ∨ u.pool.controlSlot = .granted e.clip) ∧
          ((∀ x y z, s.pool.vehicleSlot ≠ .waiting x y z) → (∀ x y z, s.pool.controlSlot ≠ .waiting x y z) →
            (∀ e ∈ es, freed s e = true → u.pool.clip e.clip = ⟨.free, none, none, [], 0, 0, false, .unused⟩) ∧
            u.pool.freePages = s.pool.freePages ++ (es.filter (freed s)).flatMap (fun e => (s.pool.clip e.clip).pages) ∧
            ∀ n, n ∉ es.map Entry.clip → u.pool.clip n = s.pool.clip n)) ∧
        ((s.voice v).state ≠ .idle → (u.voice v).state = .retiring ∧ (u.voice v).flushing = true ∧
          (u.voice v).fade = some ((s.voice v).fade.getD 6))) ∧
    (s.room true < s.flushOwes v → Answers (.voiceFlush q n) s s 0x42 q (.refused .busy []))) ∧
  (∀ s q n v, Unlocked s → voiceOf n = some v → v ≠ .chime →
    (∀ e es, (s.voice v).queue = e :: es → (s.voice v).state ≠ .idle → (s.voice v).state ≠ .retiring →
      ∃ u, Answers (.voiceSkip q n) s u 0x43 q (.done (.skipped e.clip (es.length + 1))) ∧ ClaimFrame s u ∧
        u.voice v = { s.voice v with
          queue := { e with outcome := some .flushed } :: es
          state := .retiring
          gap := none
          maxWait := none
          fade := some 6 } ∧
        u.rend.hush.get (voiceSource v) = true ∧ u.pool = s.pool ∧ u.arb = s.arb) ∧
    ((s.voice v).state = .idle ∨ (s.voice v).state = .retiring →
      Answers (.voiceSkip q n) s s 0x43 q (.refused .state []))) ∧
  ∀ s q, Unlocked s → Answers (.voiceFlush q 0) s s 0x42 q (.refused .privileged []) ∧
    Answers (.voiceSkip q 0) s s 0x43 q (.refused .privileged []) ∧
    ∀ n, 3 < n → Answers (.voiceFlush q n) s s 0x42 q (.refused .range []) ∧
      Answers (.voiceSkip q n) s s 0x43 q (.refused .range [])

/-- R89, R92, R93: a maximum-wait timer at 0 before the first sample ends the current entry EXPIRED. With room its completion is
appended and the next entry becomes current or the voice goes IDLE; without room the voice waits in RETIRING with its completion
owed. R83, R90, R91, R92, R96: a gap timer at 0 lets the next pass begin, its hush lifted; a fade count at 0 is cleared, and after
it a flushed voice takes the entry placed meanwhile, or goes IDLE with no claim, and a RETIRING one retires its entry: its completion is
appended where there is room and owed where there is none, but that a PLAYED entry of an auto-release clip owes none and frees its clip,
which a capture that the next entry's claims bring about may take at once (R76, R143); without an eligible announcement it stays FREE.
Timers not at 0 do nothing. That an expiry acts when its timer stands at 0, and does nothing before, is the model's choice (log 1). -/
def Obligations.VoiceTimersExpire : Prop :=
  (∀ s v e es, s.port.op = .run → (s.voice v).maxWait = some 0 → (s.voice v).queue = e :: es →
     ((s.voice v).state = .starting ∨ (s.voice v).state = .waitingFill ∨ (s.voice v).state = .waitingZone) →
     ∃ t, exec (.maxWaitExpiry v) s = .next t ∧ ClaimFrame s t ∧
       (s.waiters (onControl v) = [] → 0 < s.queueRoom (onControl v) →
         (v = .chime → t.voc.vehicle = s.voc.vehicle ++ [⟨e.clip, some v, .expired⟩]) ∧
         (v ≠ .chime → t.voc.control = s.voc.control ++ [⟨e.clip, some v, .expired⟩] ∧ t.port.flags.getLsbD 1 = true) ∧
         (t.voice v).queue = es ∧ (t.voice v).state = (if es = [] then .idle else .starting)) ∧
       (s.waiters (onControl v) ≠ [] ∨ s.queueRoom (onControl v) = 0 →
         t.waiters (onControl v) = s.waiters (onControl v) ++ [.voice v] ∧
         (t.voice v).queue = { e with outcome := some .expired } :: es ∧ (t.voice v).state = .retiring ∧
         ∀ z, t.claim z (voiceSource v) = none)) ∧
  (∀ s v, (s.voice v).maxWait ≠ some 0 ∨ ((s.voice v).state ≠ .starting ∧ (s.voice v).state ≠ .waitingFill ∧
      (s.voice v).state ≠ .waitingZone) → exec (.maxWaitExpiry v) s = .next s) ∧
  ((∀ s v, s.port.op = .run → (s.voice v).state = .gap → (s.voice v).gap = some 0 →
     ∃ t, exec (.gapExpiry v) s = .next t ∧ ClaimFrame s t ∧
       t.voc = { s.voc with voices := s.voc.voices.set v { s.voice v with
         state := if s.voiceHeard v then .playing else .waitingZone
         gap := none
         fade := none
         position := 0 } } ∧
       t.rend.hush.get (voiceSource v) = false ∧ t.pool = s.pool ∧ t.arb = s.arb ∧ t.port = s.port) ∧
   (∀ s v, (s.voice v).gap ≠ some 0 ∨ (s.voice v).state ≠ .gap → exec (.gapExpiry v) s = .next s) ∧
   (∀ s v, s.port.op = .run → (s.voice v).fade = some 0 → (s.voice v).state ≠ .retiring →
     exec (.fadeComplete v) s =
       .next { s with voc := { s.voc with voices := s.voc.voices.set v { s.voice v with fade := none } } }) ∧
   (∀ s v, s.port.op = .run → (s.voice v).fade = some 0 → (s.voice v).state = .retiring → (s.voice v).flushing = true →
     ∃ t, exec (.fadeComplete v) s = .next t ∧ ClaimFrame s t ∧ (t.voice v).queue = (s.voice v).queue ∧
       (t.voice v).fade = none ∧ (t.voice v).flushing = false ∧ t.rend.hush.get (voiceSource v) = false ∧
       t.voc.control = s.voc.control ∧ t.voc.vehicle = s.voc.vehicle ∧
       ((s.voice v).queue = [] → (t.voice v).state = .idle ∧ ∀ z, t.claim z (voiceSource v) = none) ∧
       ∀ e es, (s.voice v).queue = e :: es → (t.voice v).state = .starting ∧ (t.voice v).position = 0 ∧
         (t.voice v).passes = e.repeats ∧ (t.voice v).first = false ∧
         (t.voice v).maxWait = (if e.maxWait = 0 then none else some (e.maxWait * 1000)) ∧
         ∀ z, (t.claim z (voiceSource v)).isSome = e.mask.get z) ∧
   (∀ s v e es o, s.port.op = .run → (s.voice v).fade = some 0 → (s.voice v).state = .retiring →
     (s.voice v).flushing = false → (s.voice v).queue = e :: es → e.outcome = some o →
     ∃ t, exec (.fadeComplete v) s = .next t ∧ ClaimFrame s t ∧
       ((o ≠ .played ∨ (s.pool.clip e.clip).auto = false) →
         (s.waiters (onControl v) = [] → 0 < s.queueRoom (onControl v) →
           (v = .chime → t.voc.vehicle = s.voc.vehicle ++ [⟨e.clip, some v, o⟩]) ∧
           (v ≠ .chime → t.voc.control = s.voc.control ++ [⟨e.clip, some v, o⟩] ∧ t.port.flags.getLsbD 1 = true) ∧
           (t.voice v).queue = es ∧ (t.voice v).state = (if es = [] then .idle else .starting)) ∧
         (s.waiters (onControl v) ≠ [] ∨ s.queueRoom (onControl v) = 0 →
           t.waiters (onControl v) = s.waiters (onControl v) ++ [.voice v] ∧ (t.voice v).queue = e :: es ∧
           (t.voice v).state = .retiring ∧ (t.voice v).fade = none ∧ t.rend.hush.get (voiceSource v) = false ∧
           ∀ z, t.claim z (voiceSource v) = none)) ∧
       (o = .played → (s.pool.clip e.clip).auto = true →
         t.voc.control = s.voc.control ∧ t.voc.vehicle = s.voc.vehicle ∧
         (t.voice v).queue = es ∧ (t.voice v).state = (if es = [] then .idle else .starting) ∧
         (s.pool.clips.length = 63 → 1 ≤ e.clip → e.clip ≤ 63 → (∀ a b d, s.pool.vehicleSlot ≠ .waiting a b d) →
           (∀ a b d, s.pool.controlSlot ≠ .waiting a b d) →
           ((t.pool.clip e.clip).state = .free ∨ ((t.pool.clip e.clip).state = .capturing ∧
             (t.pool.clip e.clip).owner = some .capture ∧ ∃ p, t.traf.capture = .recording p e.clip)) ∧
           ((s.ann .p1).eligible = false → (s.ann .p2).eligible = false → (t.pool.clip e.clip).state = .free)))) ∧
   ∀ s v, (s.voice v).fade ≠ some 0 → exec (.fadeComplete v) s = .next s)

/-- R83, R86, R88, R90, R91: a voice in a render frame in RUN, the other voices being IDLE and no capture standing. Out of STARTING it
enters WAITING_FILL where its FILLING clip is below the threshold or has none, else PLAYING where a claim of it sounds, and then plays in
that frame, else WAITING_ZONE. In PLAYING it takes 48, 24 or 16 samples: the position advances by them, the first-sample mark is set and
the maximum wait stops. A READY clip that ends in the frame ends the pass: the next pass waits for the entry's gap at position 0, with one
pass less but at a repeat count of 0; after the last pass the entry is PLAYED and retires at once, its clip freed where auto-release is set
and its completion otherwise appended, or owed by a voice that stalls without claims; the next entry becomes current or the voice is IDLE.
A capture that its claims bring about may take the freed clip at once (R76, R143); without an eligible announcement it stays FREE.
A FILLING clip that ends in the frame is an underrun: the position stands at the fill count, the entry is UNDERRUN and fades out. In the
other states the position stands. The output is the clip's samples times the entry trim's multiplier, zero past the sealed length and the last sample past the fill count, the last
sample held in a fade and in WAITING_ZONE after the first sample, and zero else; the conversion of the lower rates is free (log 10). That
the timers count before the frame is the model's choice (log 1). -/
def Obligations.VoicesPlayInAFrame : Prop :=
  let down : Option Nat → Option Nat := fun n => n.map (· - 1)
  let only : State → Voice → Prop := fun s v => s.port.op = .run ∧ s.traf.capture = .idle ∧ s.pool.clips.length = 63 ∧
    ∀ w, w ≠ v → (s.voice w).state = .idle
  let perFrame : Clip → Nat := fun c => if c.rate = some 24000 then 24 else if c.rate = some 16000 then 16 else 48
  let fresh : VoiceRec → Prop := fun r => r.gap = none ∧ r.fade = none ∧ r.first = false
  let fillWait : Clip → Entry → Prop := fun c e => c.state = .filling ∧ (e.threshold = 0 ∨ c.fill < e.threshold)
  let starts : State → Voice → Entry → Prop := fun s v e => (s.voice v).state = .playing ∨
    ((s.voice v).state = .starting ∧ fresh (s.voice v) ∧ ¬ fillWait (s.pool.clip e.clip) e ∧ s.voiceHeard v = true)
  (∀ s inp v e es, only s v → (s.voice v).queue = e :: es → (s.voice v).state = .starting → fresh (s.voice v) →
    let r := s.voice v
    ∃ t, exec (.renderFrame inp) s = .next t ∧ t.pool = s.pool ∧
      (fillWait (s.pool.clip e.clip) e → t.voice v = { r with state := .waitingFill, maxWait := down r.maxWait, last := 0 }) ∧
      (¬ fillWait (s.pool.clip e.clip) e → s.voiceHeard v = false →
        t.voice v = { r with state := .waitingZone, maxWait := down r.maxWait, last := 0 })) ∧
  (∀ s inp v e es, only s v → (s.voice v).queue = e :: es → starts s v e → (s.voice v).gap = none →
    let r := s.voice v
    let c := s.pool.clip e.clip
    let n := r.position + perFrame c
    ∃ t, exec (.renderFrame inp) s = .next t ∧
      (c.state = .filling ∧ n ≤ c.fill ∨ c.state = .ready ∧ n < c.sealedLen → t.pool = s.pool ∧ t.rend.hush = s.rend.hush ∧
        (∀ z, (t.zone z).claims = (s.zone z).claims) ∧
        t.voice v = { r with state := .playing, position := n, first := true, maxWait := none, fade := down r.fade,
                             last := (t.voice v).last }) ∧
      (c.state = .ready → r.position < c.sealedLen → c.sealedLen ≤ n →
        (e.repeats = 0 ∨ 1 < r.passes → t.pool = s.pool ∧ (∀ z, (t.zone z).claims = (s.zone z).claims) ∧
          t.voice v = { r with state := .gap, position := 0, first := true, maxWait := none, fade := down r.fade,
                               passes := if e.repeats = 0 then r.passes else r.passes - 1, gap := some e.gap,
                               last := (t.voice v).last }) ∧
        (e.repeats ≠ 0 → r.passes ≤ 1 →
          (c.auto = false → s.waiters (onControl v) = [] → 0 < s.queueRoom (onControl v) →
            (v = .chime → t.voc.vehicle = s.voc.vehicle ++ [⟨e.clip, some v, .played⟩]) ∧
            (v ≠ .chime → t.voc.control = s.voc.control ++ [⟨e.clip, some v, .played⟩] ∧
              t.port.flags.getLsbD 1 = true)) ∧
          (c.auto = true → t.voc.control = s.voc.control ∧ t.voc.vehicle = s.voc.vehicle) ∧
          (c.auto = true → 1 ≤ e.clip → e.clip ≤ 63 → (∀ a b d, s.pool.vehicleSlot ≠ .waiting a b d) →
            (∀ a b d, s.pool.controlSlot ≠ .waiting a b d) →
            ((t.pool.clip e.clip).state = .free ∨ ((t.pool.clip e.clip).state = .capturing ∧
              (t.pool.clip e.clip).owner = some .capture ∧ ∃ p, t.traf.capture = .recording p e.clip)) ∧
            ((s.ann .p1).eligible = false → (s.ann .p2).eligible = false → (t.pool.clip e.clip).state = .free)) ∧
          (c.auto = true ∨ (s.waiters (onControl v) = [] ∧ 0 < s.queueRoom (onControl v)) →
            (t.voice v).queue = es ∧ (t.voice v).state = (if es = [] then .idle else .starting) ∧
            (es = [] → ∀ z, t.claim z (voiceSource v) = none)) ∧
          (c.auto = false → s.waiters (onControl v) ≠ [] ∨ s.queueRoom (onControl v) = 0 →
            t.waiters (onControl v) = s.waiters (onControl v) ++ [.voice v] ∧ (t.voice v).state = .retiring ∧
            (t.voice v).queue = { e with outcome := some .played } :: es ∧ ∀ z, t.claim z (voiceSource v) = none))) ∧
      (c.state = .filling → r.position ≤ c.fill → c.fill < n → t.pool = s.pool ∧
        (t.voice v).queue = { e with outcome := some .underrun } :: es ∧ (t.voice v).state = .retiring ∧
        (t.voice v).position = c.fill ∧ (t.voice v).fade = some 6 ∧ (t.voice v).maxWait = none ∧
        t.rend.hush.get (voiceSource v) = true ∧ ∀ z, (t.zone z).claims = (s.zone z).claims)) ∧
  (∀ s inp v, only s v → (s.voice v).state ≠ .starting → (s.voice v).state ≠ .playing →
    let r := s.voice v
    ∃ t, exec (.renderFrame inp) s = .next t ∧ t.pool = s.pool ∧ t.voc.control = s.voc.control ∧
      t.voc.vehicle = s.voc.vehicle ∧
      t.voice v = { r with
        gap := down r.gap
        fade := down r.fade
        maxWait := if r.state = .waitingFill ∨ r.state = .waitingZone then down r.maxWait else r.maxWait
        last := if r.fade.isSome ∨ (r.state = .waitingZone ∧ r.first) then r.last else 0 }) ∧
  ∀ (s : State) v,
    (∀ e es, (s.voice v).queue = e :: es → (s.voice v).state = .playing → (s.pool.clip e.clip).rate = some 48000 →
      (s.pool.clip e.clip).state = .ready →
      let c := s.pool.clip e.clip
      (s.voiceFrame v).out = (List.range 48).map (fun i =>
        if (s.voice v).position + i < c.sealedLen then
          (Memory.read s.pool.mem (sampleAddress c.pages ((s.voice v).position + i))).toInt * 2 ^ 8 *
            (multiplier (some e.trim) : Int)
        else 0) ∧
      ((s.voiceFrame v).state.voice v).last = (s.voiceFrame v).out.getLastD 0) ∧
    (∀ e es, (s.voice v).queue = e :: es → (s.voice v).state = .playing → (s.pool.clip e.clip).rate = some 48000 →
      (s.pool.clip e.clip).state = .filling →
      let c := s.pool.clip e.clip
      let sounded : List Int := (List.range (min 48 (c.fill - (s.voice v).position))).map (fun i =>
        (Memory.read s.pool.mem (sampleAddress c.pages ((s.voice v).position + i))).toInt * 2 ^ 8 * (multiplier (some e.trim) : Int))
      (s.voiceFrame v).out = sounded ++ List.replicate (48 - sounded.length) (sounded.getLastD (s.voice v).last)) ∧
    ((s.voice v).state = .starting → (s.voice v).fade = none →
      (∀ e es, (s.voice v).queue = e :: es →
        ¬ fillWait (s.pool.clip e.clip) e → s.voiceHeard v = true →
        (s.voiceFrame v).out = ((s.setVoice v { s.voice v with state := .playing }).voiceFrame v).out) ∧
      (∀ e es, (s.voice v).queue = e :: es → (s.voice v).first = false → fillWait (s.pool.clip e.clip) e ∨ s.voiceHeard v = false →
        (s.voiceFrame v).out = List.replicate 48 0)) ∧
    ((s.voice v).state ≠ .playing → (s.voice v).state ≠ .starting →
      (s.voiceFrame v).out = List.replicate 48
        (if (s.voice v).fade.isSome ∨ ((s.voice v).state = .waitingZone ∧ (s.voice v).first) then (s.voice v).last else 0))

/-! ## Announcements -/

/-- R139 to R147: announcements from their beginning to their end. TA rising on a locked FM listener path with TP, under TA watch, begins
one: LIVE at age 0, its traffic source filed on each zone that takes it, TA_STARTED raised; a claim that is HELD there in a zone of
LIVE_OR_CAPTURE begins the capture of an eligible announcement. At a return of the capture record to IDLE with both announcements held, the
older one is captured, P1's when the ages are equal; where the pool refuses, neither is, and both lose their marks: that the younger one's
open follows at once is the model's choice (log 25). A yield's expiry that makes no claim held anew begins no capture. A fall of TA starts the tail of 2000 ms, a rise in it makes the
announcement LIVE again, and clearing TA watch ends both. The end of a tail ends the announcement: QUIET, no claim, TA_ENDED. A render
frame in which no voice plays stores 24 samples of the capture, zero while the path is not locked. At the end the capture closes
CAPTURED, and at an age of 90,000 ms TRUNCATED, with no eligibility left (the sample memory's canonical form being a premise,
StepsKeepTheSampleMemoryCanonical): the clip is READY, its replay stands on the TRAFFIC voice and its completion is appended, or owed
until VOICE.COMPLETIONS makes room. That an expiry acts when its timer stands at 0, and does nothing before, is the model's choice
(log 1). -/
def Obligations.AnnouncementsEnd : Prop :=
  let other : Path → Path := fun p => match p with | .p1 => .p2 | .p2 => .p1
  let takes : State → Path → Zone → Bool := fun s p z => decide ((s.profile z).trafficMode ≠ .off) && match p with
    | .p1 => decide (z = .cabin ∨ (z.rear = true ∧ s.entSource z = some .radio1))
    | .p2 => decide (z.rear = true ∧ s.entSource z = some .radio2)
  let onFm : State → Path → Prop := fun s p => s.port.op = .run ∧ (s.path p).state = .locked ∧
    (s.path p).station.band = .fm ∧ s.tun.flags.ta = true ∧ (p = .p2 → (s.path .p2).role = .rear)
  let closes : State → State → Path → Nat → CompStatus → Prop := fun s t p n st =>
    t.voc.control = s.voc.control ++ [⟨n, none, st⟩] ∧ t.port.flags.getLsbD 1 = true ∧
    (t.pool.clip n).state = .ready ∧ (t.pool.clip n).sealedLen = (s.pool.clip n).fill ∧
    (t.voice .traffic).queue = (s.voice .traffic).queue ++ [⟨n, (s.ann p).held, 1, 0, 0, 0, 0, none⟩] ∧
    ((s.ann (other p)).state = .quiet → t.traf.capture = .idle)
  let ready : State → Path → Nat → Prop := fun s p n => s.traf.capture = .recording p n ∧ 1 ≤ n ∧ n ≤ 63 ∧
    s.pool.clips.length = 63 ∧ (s.pool.clip n).state = .capturing ∧ (s.pool.clip n).owner = some .capture ∧
    (s.pool.clip n).use = .unused ∧
    0 < (s.pool.clip n).fill ∧ s.voc.controlWaiters = [] ∧ s.voc.control.length < 16 ∧ (s.voice .traffic).queue.length < 8 ∧
    (s.ann p).held.driver = false ∧ ((s.ann p).held.cabin || (s.ann p).held.rearL || (s.ann p).held.rearR) = true
  let heldIn : State → Path → Zone → Prop := fun s p z => (s.ann p).zones.get z = true ∧
    (s.profile z).trafficMode = .liveOrCapture ∧ (s.claim z (trafficSource p)).map Claim.state = some .held
  let wants : State → Path → Prop := fun s p => (s.ann p).state ≠ .quiet ∧ (s.ann p).eligible = true ∧ (s.ann p).age < 90000 ∧
    ∃ z, z ≠ .driver ∧ heldIn s p z
  let refused : State → Prop := fun s => s.pool.capturing ≠ 0 ∨ s.pool.lowestFree = none ∨ s.pool.freePages = [] ∨
    928 ≤ pagesHeldBy .control s.pool.clips + pagesHeldBy .capture s.pool.clips
  (∀ s p, s.port.op = .run → (s.ann p).tail = some 0 → (s.ann p).state ≠ .quiet →
    ∃ t, exec (.tailExpiry p) s = .next t ∧ ClaimFrame s t ∧ t.ann p = Announcement.quiet ∧
      (∀ z, t.claim z (trafficSource p) = none) ∧ (∀ n, t.traf.capture ≠ .recording p n) ∧ t.port.flags.getLsbD 23 = true ∧
      ∀ n, ready s p n → closes s t p n .captured) ∧
  (∀ s p, (s.ann p).tail ≠ some 0 → exec (.tailExpiry p) s = .next s) ∧
  (∀ s p, s.port.op = .run → (s.ann p).state ≠ .quiet → 90000 ≤ (s.ann p).age →
    ∃ t, exec (.announcementAgeLimit p) s = .next t ∧ ClaimFrame s t ∧ (t.ann p).eligible = false ∧
      (t.ann p).state = (s.ann p).state ∧ (∀ n, t.traf.capture ≠ .recording p n) ∧
      ((∀ n, s.traf.capture ≠ .recording p n) →
        t = { s with traf := { s.traf with ann := s.traf.ann.set p { s.ann p with eligible := false } } }) ∧
      ∀ n, ready s p n → closes s t p n .truncated) ∧
  (∀ s p, (s.ann p).age < 90000 → exec (.announcementAgeLimit p) s = .next s) ∧
  (∀ s p, onFm s p → (s.ann p).state = .quiet → (s.path p).decoded.tp = true → (s.path p).decoded.ta = false →
    ∃ t, exec (.decodedField p (.ta true)) s = .next t ∧ TunerFrame s t ∧ (t.ann p).state = .live ∧ (t.ann p).age = 0 ∧
      (t.ann p).tail = none ∧ (∀ z, (t.ann p).zones.get z = takes s p z) ∧
      (∀ z, takes s p z = true → (t.claim z (trafficSource p)).isSome = true) ∧ t.port.flags.getLsbD 22 = true ∧
      (s.traf.capture ≠ .idle → (t.ann p).eligible = false ∧ t.traf.capture = s.traf.capture) ∧
      ∀ z c, takes s p z = true → (s.profile z).trafficMode = .liveOrCapture →
        (t.claim z (trafficSource p)).map Claim.state = some .held → (t.ann p).held.get z = true ∧
        (s.traf.capture = .idle → (s.ann (other p)).state = .quiet → s.pool.capturing = 0 → s.pool.lowestFree = some c →
          1 ≤ s.pool.freePages.length →
          pagesHeldBy .control s.pool.clips + pagesHeldBy .capture s.pool.clips < 928 →
          t.traf.capture = .recording p c ∧ (t.ann p).eligible = true ∧ (t.pool.clip c).state = .capturing ∧
          (t.pool.clip c).owner = some .capture ∧ (t.pool.clip c).rate = some 24000 ∧ (t.pool.clip c).pages.length = 1 ∧
          (t.pool.clip c).fill = 0)) ∧
  (∀ s p, onFm s p → (s.ann p).state = .live → (s.path p).decoded.ta = true →
    exec (.decodedField p (.ta false)) s = .next { s with
      tun := { s.tun with path := s.tun.path.set p { s.path p with decoded := { (s.path p).decoded with ta := false } } }
      traf := { s.traf with ann := s.traf.ann.set p { s.ann p with state := .tail, tail := some 2000 } } }) ∧
  (∀ s p, onFm s p → (s.ann p).state = .tail → (s.path p).decoded.tp = true → (s.path p).decoded.ta = false →
    exec (.decodedField p (.ta true)) s = .next { s with
      tun := { s.tun with path := s.tun.path.set p { s.path p with decoded := { (s.path p).decoded with ta := true } } }
      traf := { s.traf with ann := s.traf.ann.set p { s.ann p with state := .live, tail := none } } }) ∧
  (∀ s q, Serves s → s.tun.flags.ta = true →
    ∃ u, Answers (.tunerFlags q (some .clear) ⟨false, false, false, true⟩) s u 0x52 q
        (.done (.tunerFlags { s.tun.flags with ta := false })) ∧ TunerFrame { s with tun := u.tun } u ∧
      (u.ann .p1).state = .quiet ∧ (u.ann .p2).state = .quiet) ∧
  (∀ s inp p n, s.port.op = .run → (∀ v, (s.voice v).state = .idle) → s.traf.capture = .recording p n → 1 ≤ n → n ≤ 63 →
    Memory.wf s.pool.mem = true → s.pool.clips.length = 63 → (s.pool.clip n).fill + 24 ≤ (s.pool.clip n).pages.length * 1024 →
    let c := s.pool.clip n
    ∃ t, exec (.renderFrame inp) s = .next t ∧ t.traf.capture = .recording p n ∧
      t.pool.clip n = { c with fill := c.fill + 24 } ∧
      (∀ a, (∀ i, c.fill ≤ i → i < c.fill + 24 → a ≠ sampleAddress c.pages i) →
        Memory.read t.pool.mem a = Memory.read s.pool.mem a) ∧
      ((s.path p).state ≠ .locked → ∀ i, c.fill ≤ i → i < c.fill + 24 →
        Memory.read t.pool.mem (sampleAddress c.pages i) = 0) ∧
      (c.fill < 48000 → 48000 ≤ c.fill + 24 → t.port.flags.getLsbD 24 = true)) ∧
  (∀ s q n st, Serves s → s.voc.control ≠ [] → s.voc.control.length ≤ 16 → s.voc.controlWaiters = [.monitor] →
    s.traf.capture = .owing n st →
    ∃ u, Answers (.voiceCompletions q) s u 0x41 q
        (.done (.completions (s.voc.control.take 8) (s.voc.control.length - 8))) ∧
      u.voc.control = s.voc.control.drop 8 ++ [⟨n, none, st⟩] ∧ u.voc.controlWaiters = [] ∧ u.port.flags.getLsbD 1 = true ∧
      ((s.ann .p1).state = .quiet → (s.ann .p2).state = .quiet → u.traf.capture = .idle) ∧
      (wants s .p1 → wants s .p2 →
        (refused s → u.traf.capture = .idle ∧ ∀ p, u.ann p = { s.ann p with eligible := false }) ∧
        ∀ c, ¬ refused s → s.pool.lowestFree = some c → (∀ p, u.ann p = s.ann p) ∧
          u.traf.capture = .recording (if (s.ann .p2).age ≤ (s.ann .p1).age then .p1 else .p2) c)) ∧
  ∀ s z t, exec (.yieldExpiry z) s = .next t → s.traf.capture = .idle → (∀ p y, heldIn t p y → heldIn s p y) →
    t.traf.capture = .idle ∧ t.traf.ann.p1.eligible = s.traf.ann.p1.eligible ∧ t.traf.ann.p2.eligible = s.traf.ann.p2.eligible

/-! ## Tuner paths -/

/-- R103, R106: TUNER.FRONT gives P1 the station, rounded to its band's grid, and tunes it: from LOCKED with RADIO_1 not hushed the
fade of 6 ms comes first. A P1 that is LOCKED at the station already stays as it is. Another band, or a frequency outside its
range, is refused RANGE. R107, R109: with the new station, and no AF check running, each rear zone on a radio source whose wish is
CABIN stays with the cabin; one on RADIO_2 whose wish is the new station goes to RADIO_1; one that wishes another station goes to
RADIO_2, with P2 REAR at that station, and so do both where both wish it; of two that wish different stations the one on RADIO_2 keeps
P2 and the other follows the cabin, REAR_FOLLOW raised; and with P2 FAILED each zone that needs it follows the cabin. -/
def Obligations.FrontTunesTheCabin : Prop :=
  (∀ s q b f, Unlocked s → Band.lo b ≤ f → f ≤ Band.hi b →
    let st : Station := ⟨b, Band.round b f⟩
    ∃ u, Answers (.tunerFront q (some b) f) s u 0x50 q (.done (.front st (u.path .p2).role)) ∧ TunerFrame s u ∧
      (u.path .p1).station = st ∧
      ((s.path .p1).station = st → (s.path .p1).state = .locked → u.path .p1 = s.path .p1 ∧ (s.tun.check = none → u = s)) ∧
      (((s.path .p1).station ≠ st ∨ (s.path .p1).state ≠ .locked) →
        (u.path .p1).state = .tuning ∧ u.tun.seek = none ∧ u.tun.peek = none ∧ u.tun.check = none ∧
        ((s.path .p1).state = .locked → s.rend.hush.radio1 = false →
          (u.path .p1).phase = some .fading ∧ (u.path .p1).wait = some 6 ∧ u.rend.hush.radio1 = true))) ∧
  (∀ b f, Band.lo b ≤ f → f ≤ Band.hi b →
    ∃ k, Band.round b f = Band.lo b + k * Band.step b ∧ Band.round b f ≤ Band.hi b ∧
      2 * (max f (Band.round b f) - min f (Band.round b f)) < Band.step b) ∧
  (∀ s q f, Unlocked s → Answers (.tunerFront q none f) s s 0x50 q (.refused .range []) ∧
    ∀ b, f < Band.lo b ∨ Band.hi b < f → Answers (.tunerFront q (some b) f) s s 0x50 q (.refused .range [])) ∧
  ∀ s q b f z, Unlocked s → (∀ y, ClaimsOk (s.zone y)) → s.tun.check = none → Band.lo b ≤ f → f ≤ Band.hi b → z.rear = true →
    let st : Station := ⟨b, Band.round b f⟩
    let o := if z = .rearL then Zone.rearR else .rearL
    let needs : Zone → Station → Prop := fun y w => s.wish y = .station w ∧ w ≠ st ∧
      (s.entSource y = some .radio1 ∨ s.entSource y = some .radio2)
    ((s.path .p1).station ≠ st ∨ (s.path .p1).state ≠ .locked) →
    ∃ u, Answers (.tunerFront q (some b) f) s u 0x50 q (.done (.front st (u.path .p2).role)) ∧
      (s.wish z = .none → u.entSource z = s.entSource z ∧ u.wish z = .none) ∧
      (s.wish z = .cabin → s.entSource z = some .radio1 → u.entSource z = some .radio1 ∧ u.wish z = .cabin) ∧
      (s.wish z = .station st → s.entSource z = some .radio2 → u.entSource z = some .radio1 ∧ u.wish z = .station st) ∧
      (∀ w, needs z w → (s.path .p2).state ≠ .failed → (∀ x, ¬ needs o x) →
        (s.entSource o ≠ some .radio2 ∨ s.wish o = .station st) →
        u.entSource z = some .radio2 ∧ u.wish z = .station w ∧ (u.path .p2).role = .rear ∧ (u.path .p2).station = w ∧
          ((u.path .p2).state = .tuning ∨ (u.path .p2).state = .locked)) ∧
      (∀ w, needs z w → needs o w → (s.path .p2).state ≠ .failed →
        u.entSource z = some .radio2 ∧ u.entSource o = some .radio2 ∧ (u.path .p2).role = .rear ∧
          (u.path .p2).station = w) ∧
      (∀ w x, needs z w → needs o x → w ≠ x → s.entSource z = some .radio2 → s.entSource o = some .radio1 →
        (s.path .p2).state ≠ .failed →
        u.entSource z = some .radio2 ∧ u.wish z = .station w ∧ (u.path .p2).role = .rear ∧ (u.path .p2).station = w ∧
          u.entSource o = some .radio1 ∧ u.wish o = .cabin ∧
          u.port.flags.getLsbD (if o = .rearL then 17 else 18) = true) ∧
      (∀ w, needs z w → (s.path .p2).state = .failed →
        u.entSource z = some .radio1 ∧ u.wish z = .cabin ∧ u.port.flags.getLsbD (if z = .rearL then 17 else 18) = true)

/-- R108: TUNER.REAR puts the zone on RADIO_1 where the station is P1's; otherwise it is refused PATH_BUSY while the other rear
zone is on RADIO_2 at another station and STATE while P2 is FAILED, and else puts the zone on RADIO_2, with P2 REAR and at the
station, which P2 keeps as it is where the other zone already holds it there. A running AF check that has no candidate at the station
or at P2's goes on, its trial by P2 cut where P2 enters REAR (R111). Another zone or band, or a frequency outside the band, is refused
RANGE. -/
def Obligations.RearTakesAStation : Prop :=
  (∀ s q m z b f, Unlocked s → (∀ y, ClaimsOk (s.zone y)) →
    (m = 2 ∧ z = .rearL) ∨ (m = 3 ∧ z = .rearR) → Band.lo b ≤ f → f ≤ Band.hi b →
    let st : Station := ⟨b, Band.round b f⟩
    let other := if z = .rearL then Zone.rearR else .rearL
    let apart := ∀ c, s.tun.check = some c → c.untried ≠ [] ∧
      ∀ g ∈ c.untried, (s.path .p2).station ≠ ⟨.fm, g⟩ ∧ st ≠ ⟨.fm, g⟩
    (apart → st = (s.path .p1).station →
      ∃ u, Answers (.tunerRear q m (some b) f) s u 0x51 q
          (.done (.rear st (s.path .p2).role (some .radio1) (u.entState z))) ∧
        TunerFrame s u ∧ u.entSource z = some .radio1 ∧ u.wish z = .station st) ∧
    (st ≠ (s.path .p1).station → s.entSource other = some .radio2 → (s.path .p2).station ≠ st →
      Answers (.tunerRear q m (some b) f) s s 0x51 q (.refused .pathBusy [])) ∧
    (st ≠ (s.path .p1).station → (s.entSource other = some .radio2 → (s.path .p2).station = st) →
      (s.path .p2).state = .failed → Answers (.tunerRear q m (some b) f) s s 0x51 q (.refused .state [])) ∧
    (apart → st ≠ (s.path .p1).station → (s.entSource other = some .radio2 → (s.path .p2).station = st) →
      (s.path .p2).state ≠ .failed →
      ∃ u, Answers (.tunerRear q m (some b) f) s u 0x51 q
          (.done (.rear st (s.path .p2).role (some .radio2) (u.entState z))) ∧
        TunerFrame s u ∧ u.entSource z = some .radio2 ∧ u.wish z = .station st ∧ (u.path .p2).role = .rear ∧
        u.tun.peek = s.tun.peek ∧
        ((s.path .p2).role ≠ .rear → u.tun.check = s.tun.check.map (fun c => { c with trial := none })) ∧
        (s.entSource other ≠ some .radio2 → (u.path .p2).station = st ∧
          ((u.path .p2).state = .tuning ∨ (u.path .p2).state = .locked)) ∧
        (s.entSource other = some .radio2 → (∀ w, s.wish other = .station w → w = st) →
          u.entSource other = some .radio2 ∧ (u.path .p2).station = st ∧
          ((s.path .p2).role = .rear → ((s.path .p2).state = .tuning ∨ (s.path .p2).state = .locked) →
            u.path .p2 = s.path .p2)))) ∧
  ∀ s q m b f, Unlocked s →
    ((m < 2 ∨ 3 < m ∨ f < Band.lo b ∨ Band.hi b < f) → Answers (.tunerRear q m (some b) f) s s 0x51 q (.refused .range [])) ∧
    Answers (.tunerRear q m none f) s s 0x51 q (.refused .range [])

/-- R112, R114, R128, R131: TUNER.FLAGS edits the four flags; clearing AF enable ends a check and empties the hold count, clearing
scan enable ends the window and its timer, and setting it starts the timer. TUNER.CONFIG clamps the four settings into their
ranges, and a new hold time makes no check due before the next measurement. -/
def Obligations.TunerFlagsAndSettings : Prop :=
  (∀ s q op (named : TunerFlags), Serves s →
    let e : Bool → Bool → Bool := fun old new => match op with | .set => old || new | .clear => old && !new | .replace => new
    let o := s.tun.flags
    let f : TunerFlags := ⟨e o.diversity named.diversity, e o.scan named.scan, e o.af named.af, e o.ta named.ta⟩
    ∃ u, Answers (.tunerFlags q (some op) named) s u 0x52 q (.done (.tunerFlags f)) ∧
      TunerFrame { s with tun := { s.tun with flags := f } } u ∧
      (f = o → u = s) ∧
      (o.af = true → f.af = false → u.tun.check = none ∧ u.tun.holdCount = 0 ∧ u.tun.holdDue = false) ∧
      (o.scan = true → f.scan = false → u.scan.window = none ∧ u.scan.timer = none ∧ u.scan.waiting = false) ∧
      (o.scan = false → f.scan = true → s.scan.timer = none → s.scan.window = none → s.scan.waiting = false →
        u.scan.timer = some (s.scan.interval * 1000))) ∧
  (∀ s q named, Serves s → Answers (.tunerFlags q none named) s s 0x52 q (.refused .range [])) ∧
  ∀ s q a b c d, Serves s →
    let t : TunerSettings := ⟨min a 100, max 500 (min 10000 b), min c 50, min d 100⟩
    Answers (.tunerConfig q a b c d) s { s with tun := { s.tun with settings := t } } 0x53 q
      (.done (.tunerSettings t [decide (t.afThreshold ≠ a), decide (t.afHold ≠ b), decide (t.afMargin ≠ c),
        decide (t.seekThreshold ≠ d)]))

/-- R103, R105: the phases of a tune: the fade's end sends the command, the confirmation of the path's station begins the settling
time of its band, a first missing confirmation sends the command again, and a FAILED path tries again at its retry timer. Nothing
else changes in these. The end of settling locks P1, raises TUNED and lifts the hush of RADIO_1; a second missing confirmation
fails the path, with its retry timer at 1000 ms and PATH_FAILED raised; where the path is P2, each rear zone on RADIO_2 is put on RADIO_1
with the wish for the cabin's station and REAR_FOLLOW raised, and the other keeps its source and wish. R105: a retry of a FAILED path that is
confirmed makes it settle, with nothing measured and nothing decoded, and P2 is then planned; one that is not confirmed is sent once more,
and then leaves the path FAILED until its next retry (that the retry count is then 0: log 22). R109:
at P1's lock, with no AF check running, P2 is planned by the first line that applies: REAR where a rear zone stands on RADIO_2; IDLE
where P2 is FAILED; SCAN at the cursor where a window needs it; PARTNER at P1's station where diversity is enabled on FM; IDLE
otherwise. That an expiry acts when its timer stands at 0, and does nothing before, is the model's choice (log 1). -/
def Obligations.TunesRunLockOrFail : Prop :=
  ((∀ s p, s.port.op = .run → (s.path p).state = .tuning → (s.path p).phase = some .fading → (s.path p).wait = some 0 →
     exec (.tuneFadeDone p) s = .next { s with tun := { s.tun with path := s.tun.path.set p { s.path p with
       phase := some .confirming, wait := some 20, retry := 0, retryTimer := none, retrying := false } } }) ∧
   (∀ s p, s.port.op = .run → (s.path p).state = .tuning → (s.path p).phase = some .confirming →
     exec (.tuneConfirmation p (s.path p).station) s = .next { s with tun := { s.tun with path := s.tun.path.set p { s.path p with
       phase := some .settling
       wait := some (match (s.path p).station.band with | .fm => 12 | .am => 40)
       retryTimer := none
       retrying := false } } } ∧
     ∀ st, st ≠ (s.path p).station → exec (.tuneConfirmation p st) s = .next s) ∧
   (∀ s p, s.port.op = .run → (s.path p).state = .tuning → (s.path p).phase = some .confirming → (s.path p).wait = some 0 →
     (s.path p).retry = 0 →
     exec (.confirmTimeout p) s = .next { s with tun := { s.tun with path := s.tun.path.set p { s.path p with
       retry := 1, wait := some 20 } } }) ∧
   (∀ s p, s.port.op = .run → (s.path p).state = .failed → (s.path p).retryTimer = some 0 →
     exec (.failureRetry p) s = .next { s with tun := { s.tun with path := s.tun.path.set p { s.path p with
       retrying := true, retry := 0, wait := some 20, retryTimer := some 1000 } } }) ∧
   (∀ s p, s.port.op = .run → (s.path p).state = .failed → (s.path p).wait = some 0 →
     ((s.path p).retry = 0 → exec (.confirmTimeout p) s = .next { s with tun := { s.tun with path := s.tun.path.set p { s.path p with
       retry := 1, wait := some 20 } } }) ∧
     ((s.path p).retry ≠ 0 → exec (.confirmTimeout p) s = .next { s with tun := { s.tun with path := s.tun.path.set p { s.path p with
       retrying := false, wait := none, retry := 0 } } })) ∧
   (∀ s p st, s.port.op = .run → (s.path p).state = .failed → ((s.path p).retrying = false ∨ st ≠ (s.path p).station) →
     exec (.tuneConfirmation p st) s = .next s) ∧
   (∀ s p, s.port.op = .run → (s.path p).state = .failed → (s.path p).retrying = true →
     let y : PathRec := { s.path p with
       state := .tuning
       phase := some .settling
       wait := some (match (s.path p).station.band with | .fm => 12 | .am => 40)
       retryTimer := none
       retrying := false
       fs := 0
       mp := 0
       adj := 0
       q := 0
       decoded := ⟨none, none, none, none, false, false, false⟩
       measured := false }
     (p = .p1 → exec (.tuneConfirmation p (s.path p).station) s = .next { s with tun := { s.tun with path := s.tun.path.set p y } }) ∧
     (p = .p2 → s.tun.check = none → s.scan.window = none →
       ∃ t, exec (.tuneConfirmation p (s.path p).station) s = .next t ∧ TunerFrame s t ∧ t.path .p1 = s.path .p1 ∧
         let radio := s.entSource .rearL = some .radio2 ∨ s.entSource .rearR = some .radio2
         (radio → (t.path .p2).role = .rear) ∧
         (¬ radio → s.tun.flags.diversity = true → (s.path .p1).station.band = .fm → (s.path .p1).state = .locked →
           t.path .p2 = (if (s.path .p1).station = y.station then { y with role := .partner } else { y with
             role := .partner, station := (s.path .p1).station, phase := some .confirming, wait := some 20, retry := 0 })) ∧
         (¬ radio → ¬ (s.tun.flags.diversity = true ∧ (s.path .p1).station.band = .fm ∧ (s.path .p1).state = .locked) →
           t.path .p2 = { y with role := .idle, state := .idle, phase := none, wait := none }))) ∧
   ∀ s p, (s.path p).wait ≠ some 0 → exec (.tuneFadeDone p) s = .next s ∧ exec (.confirmTimeout p) s = .next s ∧
     exec (.settleDone p) s = .next s) ∧
  ((∀ s, s.port.op = .run → s.tun.check = none → (s.path .p1).state = .tuning → (s.path .p1).phase = some .settling →
     (s.path .p1).wait = some 0 →
     ∃ t, exec (.settleDone .p1) s = .next t ∧ TunerFrame s t ∧ (t.path .p1).state = .locked ∧
       (t.path .p1).station = (s.path .p1).station ∧ t.rend.hush.radio1 = false ∧ t.port.flags.getLsbD 15 = true ∧
       t.entSource .rearL = s.entSource .rearL ∧ t.entSource .rearR = s.entSource .rearR ∧
       if s.entSource .rearL = some .radio2 ∨ s.entSource .rearR = some .radio2 then (t.path .p2).role = .rear
       else if (s.path .p2).state = .failed then (t.path .p2).role = .idle ∧ (t.path .p2).state = .failed
       else if s.scan.window.isSome = true then (t.path .p2).role = .scan ∧ (t.path .p2).station = ⟨.fm, s.scan.cursor⟩
       else if s.tun.flags.diversity = true ∧ (s.path .p1).station.band = .fm then
         (t.path .p2).role = .partner ∧ (t.path .p2).station = (s.path .p1).station ∧
           ((t.path .p2).state = .tuning ∨ (t.path .p2).state = .locked)
       else (t.path .p2).role = .idle ∧ (t.path .p2).state = .idle) ∧
   (∀ s, s.port.op = .run → s.tun.check = none → (s.path .p2).state = .tuning → (s.path .p2).phase = some .settling →
     (s.path .p2).wait = some 0 → s.plan = ((s.path .p2).role, some (s.path .p2).station) →
     ∃ t, exec (.settleDone .p2) s = .next t ∧ TunerFrame s t ∧ (t.path .p2).state = .locked ∧
       ((s.path .p2).role = .rear → t.rend.hush.radio2 = false)) ∧
   ∀ s p, s.port.op = .run → (∀ z, ClaimsOk (s.zone z)) → (s.path p).state = .tuning → (s.path p).phase = some .confirming →
     (s.path p).wait = some 0 → (s.path p).retry ≠ 0 →
     ∃ t, exec (.confirmTimeout p) s = .next t ∧ TunerFrame s t ∧ (t.path p).state = .failed ∧ (t.path p).q = 0 ∧
       (t.path p).retryTimer = some 1000 ∧ t.port.flags.getLsbD (match p with | .p1 => 19 | .p2 => 20) = true ∧
       (p = .p2 → t.entSource .rearL ≠ some .radio2 ∧ t.entSource .rearR ≠ some .radio2) ∧
       (p = .p2 → ∀ z, z.rear = true →
         (s.entSource z = some .radio2 → t.entSource z = some .radio1 ∧ t.wish z = .cabin ∧
           t.port.flags.getLsbD (match z with | .rearL => 17 | _ => 18) = true) ∧
         (s.entSource z ≠ some .radio2 → t.entSource z = s.entSource z ∧ t.wish z = s.wish z)))

/-- R102, R104: a measurement of a LOCKED path sets FS, MP, ADJ and q by the formula of R102; a decoded item of a LOCKED FM path
sets its field, an AF joining the list once and up to 25. The other path stands; a path that is not LOCKED is not measured. R112,
R114: a measurement of P1 at or above the AF threshold empties the hold count; one below it, with AF enabled, no check running and P1
on FM, raises it by 10, and a check is due where it has reached the hold time that then stands. R110, R179: Q1 is delivered to the watches
with RADIO_1's quality, the combined one while P2 is PARTNER and LOCKED, and Q2 with P2's own; that P2's q enters as it stands is the
model's choice (log 22). R123: the first measurement since the lock that is good enough associates a listener path with the record of its
code, else of its frequency, else with one created in the lowest empty slot or, of a full table, in that of the record that R126 evicts,
else with none; a later one makes the record's age 0. R125: a decoded name, type or TP,
and a first AF, reach the associated record alone. R124: a code that a record holds makes it the association, the path's frequency in its
list, of a full one in place of the oldest entry behind the primary, and merges a code-0 association into it, one change in each of the two slots; a code that none holds is taken by a code-0
association, or has a record created. The changes raise STATION_CHANGED. -/
def Obligations.MeasurementsAndDecodedData : Prop :=
  let listens : State → Path → Prop := fun s p => p = .p1 ∨ (s.path .p2).role = .rear
  let changed : State → Prop := fun t => t.port.flags.getLsbD 21 = true
  (∀ s p fs mp adj, s.port.op = .run → (s.path p).state = .locked →
    ∃ t, exec (.pathMeasurement p fs mp adj) s = .next t ∧ TunerFrame s t ∧
      (t.path p).fs = fs ∧ (t.path p).mp = mp ∧ (t.path p).adj = adj ∧ (t.path p).state = .locked ∧
      ((t.path p).q : Int) = max 0 (min 100 (2 * ((fs : Int) - 15) - ((mp / 2 : Nat) : Int) - ((adj / 2 : Nat) : Int))) ∧
      (t.path p).decoded = (s.path p).decoded ∧ (t.path p).station = (s.path p).station ∧
      (∀ r, r ≠ p → t.path r = s.path r) ∧
      (p = .p1 → s.tun.settings.afThreshold ≤ t.radioQuality → t.tun.holdCount = 0 ∧ t.tun.holdDue = false) ∧
      (p = .p1 → t.radioQuality < s.tun.settings.afThreshold →
        (s.tun.flags.af = true → s.tun.check = none → (s.path .p1).station.band = .fm →
          t.tun.holdCount = s.tun.holdCount + 10 ∧
          (t.tun.holdDue = true ↔ s.tun.settings.afHold ≤ s.tun.holdCount + 10)) ∧
        (s.tun.check.isSome = true → t.tun.holdCount = s.tun.holdCount)) ∧
      (p = .p2 → t.tun.holdCount = s.tun.holdCount) ∧
      t.wat = (match p with
        | .p1 => s.wat.deliver .q1 (t.radioQuality : Int)
        | .p2 => s.wat.deliver .q2 ((t.path .p2).q : Int)) ∧
      t.radioQuality = (if (t.path .p2).role = .partner ∧ (t.path .p2).state = .locked then
        min 100 (max (t.path .p1).q (t.path .p2).q + min (t.path .p1).q (t.path .p2).q / 4) else (t.path .p1).q)) ∧
  (∀ s p fs mp adj, s.port.op = .run → (s.path p).state = .locked → listens s p → s.sta.admitQ ≤ quality fs mp adj →
    let x := s.path p
    let f := x.station.freq
    let d := x.decoded
    let found := (d.code.bind s.sta.byCode).or (s.sta.byFreq x.station.band f)
    ∃ t, exec (.pathMeasurement p fs mp adj) s = .next t ∧
      ((s.sta.assoc.get p).awaiting = true → ∀ n r, found = some n → s.sta.recAt n = some r →
        t.sta.assoc.get p = ⟨some n, false⟩ ∧ ∃ r', t.sta.recAt n = some r' ∧ r'.age = 0 ∧ r'.code = r.code ∧
          f ∈ r'.freqs.map FreqEntry.freq ∧ (d.afs = none → Joined r.freqs ⟨f, quality fs mp adj, 0⟩ r'.freqs) ∧ r'.origin = (if r.origin = .scan then .tuned else r.origin) ∧
          (∀ v, d.name = some v → r'.name = some v) ∧ (∀ v, d.pty = some v → r'.pty = some v) ∧ (d.tp = true → r'.tp = true)) ∧
      ((s.sta.assoc.get p).awaiting = true → found = none → (∀ i, ¬ TakesSlot s.sta i) →
        t.sta.slots = s.sta.slots ∧ t.sta.assoc.get p = ⟨none, false⟩) ∧
      ((s.sta.assoc.get p).awaiting = true → found = none → ∀ i, TakesSlot s.sta i →
        (∀ m, m ≠ i → t.sta.recAt m = s.sta.recAt m) ∧
        t.sta.assoc.get p = ⟨some i, false⟩ ∧ t.revisionOf i = s.revisionOf i + 1 ∧ changed t ∧
        ∃ r', t.sta.recAt i = some r' ∧ r'.code = d.code.getD 0 ∧ r'.band = x.station.band ∧ r'.origin = .tuned ∧ r'.age = 0 ∧
          r'.freqs.head? = some ⟨f, quality fs mp adj, 0⟩ ∧ (∀ v, d.name = some v → r'.name = some v)) ∧
      ((s.sta.assoc.get p).awaiting = false → ∀ n, (s.sta.assoc.get p).slot = some n →
        t.sta.assoc = s.sta.assoc ∧ t.sta.recAt n = (s.sta.recAt n).map (fun r => { r with age := 0 }))) ∧
  (∀ s p item, s.port.op = .run → (s.path p).state = .locked → (s.path p).station.band = .fm → listens s p →
    let d := (s.path p).decoded
    ∃ t, exec (.decodedField p item) s = .next t ∧
      ((∀ c, item ≠ .code c) → (s.sta.assoc.get p).slot = none → t.sta.slots = s.sta.slots) ∧
      ∀ n r, (s.sta.assoc.get p).slot = some n → s.sta.recAt n = some r →
        ((∀ c, item ≠ .code c) → ∀ m, m ≠ n → t.sta.slots[m]? = s.sta.slots[m]?) ∧
        (∀ v, item = .name v → d.name ≠ some v → t.sta.recAt n = some { r with name := some v } ∧
          (r.name ≠ some v → t.revisionOf n = s.revisionOf n + 1 ∧ changed t)) ∧
        (∀ v, item = .pty v → d.pty ≠ some v → t.sta.recAt n = some { r with pty := some v }) ∧
        (∀ v, item = .tp v → d.tp ≠ v → t.sta.recAt n = some { r with tp := v }) ∧
        ∀ f, item = .af f → d.afs = none → t.sta.recAt n = some { r with
          freqs := if Band.owns r.band f = true ∧ f ∉ r.freqs.map FreqEntry.freq ∧ r.freqs.length < 8 then r.freqs ++ [⟨f, 0, 65535⟩]
            else r.freqs }) ∧
  (∀ s p c, s.port.op = .run → (s.path p).state = .locked → (s.path p).station.band = .fm → listens s p → c ≠ 0 →
    (s.path p).decoded.code ≠ some c →
    let f := (s.path p).station.freq
    let zero : Nat → StationRec → Prop := fun a o => (s.sta.assoc.get p).slot = some a ∧ s.sta.recAt a = some o ∧ o.band = .fm ∧
      o.code = 0
    ∃ t, exec (.decodedField p (.code c)) s = .next t ∧
      (∀ n r, s.sta.byCode c = some n → s.sta.recAt n = some r → (t.sta.assoc.get p).slot = some n ∧
        ∃ r', t.sta.recAt n = some r' ∧ r'.code = c ∧ r'.age = 0 ∧ f ∈ r'.freqs.map FreqEntry.freq ∧
          ((∀ a o, ¬ zero a o) → r' = { r with age := 0, freqs := r'.freqs } ∧
            Joined r.freqs (if (s.path p).measured then ⟨f, (s.path p).q, 0⟩ else ⟨f, 0, 65535⟩) r'.freqs) ∧
          ∀ a o, zero a o → t.sta.recAt a = none ∧ r'.name = r.name.or o.name ∧ r'.pty = r.pty.or o.pty ∧
            r'.tp = (r.tp || o.tp) ∧ t.revisionOf a = s.revisionOf a + 1 ∧ t.revisionOf n = s.revisionOf n + 1 ∧ changed t) ∧
      (s.sta.byCode c = none → ∀ a o, zero a o → t.sta.recAt a = some { o with code := c } ∧
        (t.sta.assoc.get p).slot = some a ∧ t.revisionOf a = s.revisionOf a + 1 ∧ changed t) ∧
      (s.sta.byCode c = none → (s.sta.assoc.get p).slot = none → (∀ i, ¬ TakesSlot s.sta i) →
        t.sta.slots = s.sta.slots ∧ (t.sta.assoc.get p).slot = none) ∧
      (s.sta.byCode c = none → (s.sta.assoc.get p).slot = none → ∀ i, TakesSlot s.sta i →
        (t.sta.assoc.get p).slot = some i ∧ changed t ∧ (∀ m, m ≠ i → t.sta.recAt m = s.sta.recAt m) ∧
        ∃ r', t.sta.recAt i = some r' ∧ r'.code = c ∧ r'.band = .fm ∧ r'.primary = some f ∧ r'.origin = .tuned)) ∧
  (∀ s p fs mp adj, (s.path p).state ≠ .locked → exec (.pathMeasurement p fs mp adj) s = .next s) ∧
  (∀ s p item, s.port.op = .run → (s.path p).state = .locked → (s.path p).station.band = .fm →
    let d := (s.path p).decoded
    ∃ t, exec (.decodedField p item) s = .next t ∧ TunerFrame s t ∧
      t.path p = { s.path p with decoded := match item with
        | .sync on => { d with sync := on }
        | .code c => { d with code := some c }
        | .name n => { d with name := some n }
        | .pty n => { d with pty := some n }
        | .tp on => { d with tp := on }
        | .ta on => { d with ta := on }
        | .af f => { d with afs := some (if f ∈ d.afs.getD [] ∨ 25 ≤ (d.afs.getD []).length then d.afs.getD []
            else d.afs.getD [] ++ [f]) } } ∧
      ∀ r, r ≠ p → t.path r = s.path r) ∧
  ∀ s p item, (s.path p).state ≠ .locked → exec (.decodedField p item) s = .next s

/-- R113: TUNER.SEEK puts P1 in SEEKING at the next grid frequency, passing over P2's while P2 is REAR, with RADIO_1 hushed. A
step's measurement below the threshold, and not back at the start, goes one step on; otherwise P1 is LOCKED there and TUNED is
raised. Each such step on leaves fewer grid steps to the start, so a seek stops within one full band of 411 or 133 grid values; that it
stops at the last frequency before a start that P2 has in REAR is the model's choice (log 22). When a step's measurement is due is the model's choice (log 1). -/
def Obligations.SeekStepsThroughTheBand : Prop :=
  let passed : State → SeekDir → Nat → Prop := fun s d start =>
    Band.next (s.path .p1).station.band d (s.path .p1).station.freq = start ∧ (s.path .p2).role = .rear ∧
      (s.path .p2).station = ⟨(s.path .p1).station.band, start⟩
  (∀ s q d, Unlocked s →
    ∃ u, Answers (.tunerSeek q (some d)) s u 0x54 q (.done .ok) ∧ TunerFrame s u ∧ (u.path .p1).state = .seeking ∧
      (u.path .p1).wait = some 20 ∧ u.rend.hush.radio1 = true ∧ u.tun.check = none ∧ u.tun.peek = none ∧
      (s.tun.check = none →
        u.tun.seek = some ⟨d, (s.path .p1).station.freq, false⟩ ∧ (u.path .p1).station.freq = s.seekNext d)) ∧
  (∀ s q, Unlocked s → Answers (.tunerSeek q none) s s 0x54 q (.refused .range [])) ∧
  (∀ (s : State) d, let b := (s.path .p1).station.band
    let f := Band.next b d (s.path .p1).station.freq
    (((s.path .p2).role ≠ .rear ∨ (s.path .p2).station ≠ ⟨b, f⟩) → s.seekNext d = f) ∧
    ((s.path .p2).role = .rear → (s.path .p2).station = ⟨b, f⟩ → s.seekNext d = Band.next b d f)) ∧
  (∀ (s : State) d start, let b := (s.path .p1).station.band
    let f := (s.path .p1).station.freq
    let onGrid : Nat → Prop := fun g => Band.lo b ≤ g ∧ g ≤ Band.hi b ∧ Band.step b ∣ g - Band.lo b
    let values := (Band.hi b - Band.lo b) / Band.step b + 1
    let place : Nat → Nat := fun g => (g - Band.lo b) / Band.step b
    let left : Nat → Nat := fun g => match d with
      | .up => (place start + values - place g) % values
      | .down => (place g + values - place start) % values
    onGrid f → onGrid start → f ≠ start → ¬ passed s d start →
      onGrid (s.seekNext d) ∧ left (s.seekNext d) < left f ∧ left f < values ∧ values = match b with | .fm => 411 | .am => 133) ∧
  ∀ s k fs mp adj, s.port.op = .run → (s.path .p1).state = .seeking → s.tun.seek = some k → k.settling = true →
    (s.path .p1).wait = some 0 →
    (quality fs mp adj < s.tun.settings.seekThreshold → (s.path .p1).station.freq ≠ k.start → ¬ passed s k.dir k.start →
      exec (.seekStepMeasurement fs mp adj) s = .next { s with tun := { s.tun with
        path := s.tun.path.set .p1 { s.path .p1 with
          station := ⟨(s.path .p1).station.band, s.seekNext k.dir⟩, wait := some 20, retry := 0 }
        seek := some { k with settling := false } } }) ∧
    (s.tun.check = none → (s.tun.settings.seekThreshold ≤ quality fs mp adj ∨ (s.path .p1).station.freq = k.start ∨
        passed s k.dir k.start) →
      ∃ t, exec (.seekStepMeasurement fs mp adj) s = .next t ∧ TunerFrame s t ∧ (t.path .p1).state = .locked ∧
        (t.path .p1).station = (s.path .p1).station ∧ t.tun.seek = none ∧ t.port.flags.getLsbD 15 = true ∧
        t.rend.hush.radio1 = false)

/-- R112, R114, R115: a check begins once a measurement has found the hold count at the hold time: without candidates the count starts
again, and with a P2 that is free and not LOCKED the first candidate is tried on P2. A trial's end switches P1 to an acceptable
candidate, raising AF_SWITCHED, and ends the check after the last candidate without a switch. The candidates are the other frequencies of the record of P1's code, or without
a known code of its frequency, by their last q, highest first, equal figures in list order. R127: the trial's mean becomes the last q of the
candidate in that record, and a switch makes it the record's primary. When a check and a trial's end are due
is the model's choice (log 1). -/
def Obligations.AfChecksTryTheCandidates : Prop :=
  (∀ s : State, let x := s.path .p1
    let known := (match x.decoded.code with
      | some c => if c = 0 then s.sta.byFreq x.station.band x.station.freq else s.sta.byCode c
      | none => s.sta.byFreq x.station.band x.station.freq).bind s.sta.recAt
    (known = none → s.candidates = []) ∧
    ∀ r, known = some r → ∃ es : List FreqEntry, s.candidates = es.map FreqEntry.freq ∧ es.Pairwise (fun a b => b.q ≤ a.q) ∧
      ∀ v, es.filter (fun e => e.q == v) = r.freqs.filter (fun e => e.freq != x.station.freq && e.q == v)) ∧
  (∀ s, s.port.op = .run → s.tun.flags.af = true → (s.path .p1).state = .locked → (s.path .p1).station.band = .fm →
    s.tun.check = none → s.tun.holdDue = true →
    (s.candidates = [] →
      exec .afCheckBegin s = .next { s with tun := { s.tun with holdCount := 0, holdDue := false } }) ∧
    (∀ f fs, s.candidates = f :: fs → s.tun.peek = none → (s.path .p2).role ≠ .rear → (s.path .p2).state ≠ .failed →
      (s.path .p2).state ≠ .locked → s.entSource .rearL ≠ some .radio2 → s.entSource .rearR ≠ some .radio2 →
      ∃ t, exec .afCheckBegin s = .next t ∧ TunerFrame s t ∧
        t.tun.check = some ⟨[], f :: fs, s.radioQuality, some ⟨f, none, []⟩⟩ ∧ (t.path .p2).role = .scan ∧
        (t.path .p2).station = ⟨.fm, f⟩ ∧ (t.path .p2).state = .tuning ∧ t.path .p1 = s.path .p1)) ∧
  (∀ s, (s.tun.holdDue = false ∨ s.tun.check.isSome = true) → exec .afCheckBegin s = .next s) ∧
  ∀ s c k n, s.port.op = .run → s.tun.check = some c → c.trial = some k → k.sinceLock = some n →
    (s.path .p2).state = .locked → (200 ≤ n ∨ (30 ≤ n ∧ (s.path .p2).decoded.code.isSome = true)) →
    let mean := k.qs.sum / max 1 k.qs.length
    let good := c.reference + s.tun.settings.afMargin ≤ mean ∧
      ((s.path .p2).decoded.code = none ∨ (s.path .p2).decoded.code = (s.path .p1).decoded.code)
    (good → ∃ t, exec .afTrialEnd s = .next t ∧ TunerFrame s t ∧
      (t.path .p1).station = ⟨(s.path .p1).station.band, k.cand⟩ ∧ (t.path .p1).state = .tuning ∧ t.tun.check = none ∧
      t.port.flags.getLsbD 16 = true ∧ AfInput s t k.cand mean True) ∧
    (¬ good → c.untried = [k.cand] → s.tun.peek = none →
      ∃ t, exec .afTrialEnd s = .next t ∧ TunerFrame s t ∧ t.path .p1 = s.path .p1 ∧ t.tun.check = none ∧
        t.tun.holdCount = 0 ∧ t.tun.holdDue = false ∧ AfInput s t k.cand mean False)

/-- R116: a peek puts P1 in PEEK with RADIO_1 hushed; at 2 ms the candidate is commanded, at 6 ms it is measured, which switches P1
where the candidate is acceptable and counts it as tried otherwise, its quality becoming the last q of the frequency
in P1's record (R127), and at 10 ms P1 is LOCKED again where its return was confirmed,
or tunes. With no candidate left the check then ends; with candidates left it goes on, waiting for the next peek while P2 is FAILED or
REAR elsewhere, and trying the next one on P2 where P2 is free. That each part of the peek acts at its time or later is the model's
choice (log 1). -/
def Obligations.PeeksVisitACandidate : Prop :=
  (∀ s f, s.port.op = .run → s.peekDue = some f →
    ∃ t, exec .peekStart s = .next t ∧ TunerFrame s t ∧ (t.path .p1).state = .peek ∧
      (t.path .p1).station = (s.path .p1).station ∧ t.rend.hush.radio1 = true ∧
      t.tun.peek = some ⟨f, 0, false, false, false, false⟩ ∧ t.tun.peekAge = some 0) ∧
  (∀ s k, s.port.op = .run → s.tun.peek = some k → 2 ≤ k.time →
    exec .peekCandidateCommand s = .next { s with tun := { s.tun with peek := some { k with commanded := true } } }) ∧
  (∀ s k c fs mp adj, s.port.op = .run → s.tun.peek = some k → 6 ≤ k.time → k.commanded = true → k.measured = false →
    k.candConfirmed = true → s.tun.check = some c → c.untried.head? = some k.cand →
    (c.reference + s.tun.settings.afMargin ≤ quality fs mp adj →
      ∃ t, exec (.peekMeasurement fs mp adj) s = .next t ∧ TunerFrame s t ∧
        (t.path .p1).station = ⟨(s.path .p1).station.band, k.cand⟩ ∧ (t.path .p1).state = .tuning ∧ t.tun.peek = none ∧
        t.tun.check = none ∧ t.port.flags.getLsbD 16 = true ∧ AfInput s t k.cand (quality fs mp adj) True) ∧
    (quality fs mp adj < c.reference + s.tun.settings.afMargin →
      ∃ t, exec (.peekMeasurement fs mp adj) s = .next t ∧ TunerFrame s t ∧ t.path .p1 = s.path .p1 ∧
        t.tun.peek = some { k with measured := true } ∧
        t.tun.check = some { c with tried := c.tried ++ [k.cand], untried := c.untried.tail, trial := none } ∧
        t.sta.assoc = s.sta.assoc ∧ AfInput s t k.cand (quality fs mp adj) False)) ∧
  (∀ s k, s.port.op = .run → s.tun.peek = some k → 10 ≤ k.time → k.measured = true →
    let home : State → Prop := fun t => TunerFrame s t ∧ t.tun.peek = none ∧ (t.path .p1).station = (s.path .p1).station ∧
      (k.returnConfirmed = true → (t.path .p1).state = .locked ∧ t.rend.hush.radio1 = false) ∧
      (k.returnConfirmed = false → (s.path .p1).state = .peek → (t.path .p1).state = .tuning)
    (s.tun.check = none → ∃ t, exec .peekReturn s = .next t ∧ home t ∧ t.tun.check = none) ∧
    ∀ c, s.tun.check = some c → c.trial = none →
      (c.untried = [] → ∃ t, exec .peekReturn s = .next t ∧ home t ∧ t.tun.check = none ∧ t.tun.holdCount = 0 ∧
        t.tun.holdDue = false) ∧
      ∀ f fs, c.untried = f :: fs →
        (((s.path .p2).state = .failed ∧ s.entSource .rearL ≠ some .radio2 ∧ s.entSource .rearR ≠ some .radio2) ∨
          ((s.path .p2).role = .rear ∧ s.plan = (.rear, some (s.path .p2).station) ∧
            ((s.path .p2).state = .tuning ∨ ((s.path .p2).state = .locked ∧ (s.path .p2).station ≠ ⟨.fm, f⟩))) →
          ∃ t, exec .peekReturn s = .next t ∧ home t ∧ t.tun.check = some c ∧ (t.path .p2).station = (s.path .p2).station) ∧
        ((s.path .p2).state ≠ .failed → s.entSource .rearL ≠ some .radio2 → s.entSource .rearR ≠ some .radio2 →
          ∃ t l, exec .peekReturn s = .next t ∧ home t ∧ t.tun.check = some { c with trial := some ⟨f, l, []⟩ } ∧
            (t.path .p2).role = .scan ∧ (t.path .p2).station = ⟨.fm, f⟩)) ∧
  ∀ s, (∀ k, s.tun.peek = some k → k.time < 10 ∨ k.measured = false) → exec .peekReturn s = .next s

/-! ## The station table and the scan -/

/-- R119, R120, R133, R134: the checks of a write refuse in this order: a band, program type, name, frequency or list that R133 does not
allow RANGE, among them a list of none or more than 8, one that rounding makes name a frequency twice, and a code for AM, by the model's
choice (log 20) where R133 does not name it; an empty slot without band or list, and a change of band without a list, RANGE; and a result
that breaks a key of R120 IN_USE. An accepted STATION.WRITE puts the written record, with origin HOST, the named fields and the other
fields of the record held, into its slot alone, each listed frequency with the figures of the record held or, where that lacks it, a last q
of 0 and the age 65535; a record that enters an empty slot takes the lowest orphaned preset whose key matches it; the slot's revision rises
and a reservation of it ends where the record's content changed; the reply names the frequencies that were rounded, each with what it
became. STATION.WRITE_COND does the same where the reservation names the slot, is
refused STALE otherwise, and leaves no reservation. STATION.DELETE empties the slot, orphans its preset and ends associations and a
reservation with it. -/
def Obligations.StationWritesAndDeletes : Prop :=
  (∀ (t : Table) n (f : StationFields),
    let old := t.recAt n
    let band : Option Band := match f.band with | some b => bandOf b | none => old.map StationRec.band
    let code := f.code.getD ((old.map StationRec.code).getD 0)
    let badList : List Nat → Prop := fun l => l = [] ∨ 8 < l.length ∨ ¬ l.Nodup ∨ ∃ b, band = some b ∧
      ((∃ x ∈ l, x < Band.lo b ∨ Band.hi b < x) ∨ (b = .am ∧ 1 < l.length) ∨ ¬ (l.map (Band.round b)).Nodup)
    let bad := (∃ b, f.band = some b ∧ bandOf b = none) ∨ (∃ p, f.pty = some p ∧ 31 < p) ∨
      (∃ x, f.name = some x ∧ 8 < x.length) ∨ (∃ l, f.freqs = some l ∧ badList l) ∨ (band = some .am ∧ code ≠ 0)
    let short := (old = none ∧ (f.band = none ∨ f.freqs = none)) ∨
      ∃ o b, old = some o ∧ band = some b ∧ o.band ≠ b ∧ f.freqs = none
    let first : Band → Option Nat := fun b => match f.freqs with
      | some l => l.head?.map (Band.round b)
      | none => old.bind StationRec.primary
    let clash := ∃ b m o, band = some b ∧ m ≠ n ∧ t.recAt m = some o ∧
      if code = 0 ∧ o.code = 0 then o.band = b ∧ o.primary = first b else o.code = code
    (t.prepare n f = .error .range ↔ bad ∨ short) ∧ (t.prepare n f = .error .inUse ↔ ¬ (bad ∨ short) ∧ clash) ∧
    (¬ (bad ∨ short) → ¬ clash → ∃ r, t.prepare n f = .ok (r, old.isNone))) ∧
  (∀ s q n (f : StationFields) r enters, Serves s → n < s.sta.slots.length → s.sta.prepare n f = .ok (r, enters) →
    let u := s.writeRecord n r enters
    let rounded := ((f.freqs.getD []).filter (fun x => Band.round r.band x ≠ x)).map (fun x => (x, Band.round r.band x))
    Answers (.stationWrite q n f) s u 0x62 q (.done (.revision (u.revisionOf n) rounded)) ∧
    (∀ v, s.sta.reservation = some (n, v) →
      Answers (.stationWriteCond q n f) s { u with sta := { u.sta with reservation := none } } 0x63 q
        (.done (.revision (u.revisionOf n) rounded))) ∧
    ((∀ v, s.sta.reservation ≠ some (n, v)) →
      Answers (.stationWriteCond q n f) s { s with sta := { s.sta with reservation := none } } 0x63 q
        (.refused .stale [])) ∧
    u = { s with sta := u.sta } ∧
    (∃ p, u.sta.recAt n = some { r with preset := p } ∧ (enters = false → p = r.preset ∧ u.sta.presets = s.sta.presets) ∧
      (enters = true →
        let matching : Nat → Prop := fun j => ∃ x, s.sta.presets[j]? = some (some x) ∧ x.link = none ∧
          if x.key.code = 0 then x.key.band = r.band ∧ r.code = 0 ∧ r.primary = some x.key.freq else x.key.code = r.code
        ((∀ j, ¬ matching j) → p = none ∧ u.sta.presets = s.sta.presets) ∧
        ∀ j x, matching j → (∀ i, i < j → ¬ matching i) → s.sta.presets[j]? = some (some x) →
          p = some j ∧ u.sta.presets = s.sta.presets.set j (some { x with link := some n }))) ∧
    Counted s u ∧
    (∀ l, f.freqs = some l → ∀ e ∈ r.freqs, (∃ o, s.sta.recAt n = some o ∧ e ∈ o.freqs) ∨
      ((∀ o, s.sta.recAt n = some o → e.freq ∉ o.freqs.map FreqEntry.freq) ∧ e.q = 0 ∧ e.age = 65535)) ∧
    (∀ m, m ≠ n → u.sta.slots[m]? = s.sta.slots[m]?) ∧
    u.revisionOf n = (if (u.sta.recAt n).map StationRec.content = (s.sta.recAt n).map StationRec.content then s.revisionOf n
      else s.revisionOf n + 1) ∧
    u.sta.mask = s.sta.mask ∧ u.sta.admitQ = s.sta.admitQ ∧ u.sta.assoc = s.sta.assoc ∧
    u.sta.presets.map (Option.map Preset.key) = s.sta.presets.map (Option.map Preset.key) ∧
    r.origin = .host ∧ (∀ c, f.code = some c → r.code = c) ∧ (∀ x, f.name = some x → r.name = some x) ∧
    (∀ x, f.pty = some x → r.pty = some x) ∧ (∀ x, f.tp = some x → r.tp = x) ∧
    (∀ l, f.freqs = some l → r.freqs.map FreqEntry.freq = l.map (Band.round r.band)) ∧
    (∀ b, f.band = some b → bandOf b = some r.band) ∧
    (s.sta.recAt n = none → enters = true ∧ (f.code = none → r.code = 0) ∧ (f.name = none → r.name = none) ∧
      (f.pty = none → r.pty = none) ∧ (f.tp = none → r.tp = false) ∧ r.preset = none) ∧
    (∀ o, s.sta.recAt n = some o → enters = false ∧ (f.code = none → r.code = o.code) ∧ (f.name = none → r.name = o.name) ∧
      (f.pty = none → r.pty = o.pty) ∧ (f.tp = none → r.tp = o.tp) ∧ (f.freqs = none → r.freqs = o.freqs) ∧
      (f.band = none → r.band = o.band) ∧ r.preset = o.preset)) ∧
  (∀ s q n f c, Serves s → n < s.sta.slots.length → s.sta.prepare n f = .error c →
    Answers (.stationWrite q n f) s s 0x62 q (.refused c []) ∧ Answers (.stationWriteCond q n f) s s 0x63 q (.refused c [])) ∧
  (∀ s q n r v, Serves s → s.sta.slots[n]? = some ⟨some r, v⟩ →
    ∃ u, Answers (.stationDelete q n) s u 0x64 q (.done (.revision (v + 1) [])) ∧ u = { s with sta := u.sta } ∧
      u.sta.slots = s.sta.slots.set n ⟨none, v + 1⟩ ∧
      u.sta.presets = s.sta.presets.map (Option.map (fun p => { p with link := if p.link = some n then none else p.link })) ∧
      (∀ p, (u.sta.assoc.get p).slot = if (s.sta.assoc.get p).slot = some n then none else (s.sta.assoc.get p).slot) ∧
      ((∃ w, s.sta.reservation = some (n, w)) → u.sta.reservation = none) ∧
      ((∀ w, s.sta.reservation ≠ some (n, w)) → u.sta.reservation = s.sta.reservation) ∧
      u.sta.mask = s.sta.mask ∧ u.sta.admitQ = s.sta.admitQ) ∧
  ∀ s q n, Serves s →
    (s.sta.slots.length ≤ n → (∀ f, Answers (.stationWrite q n f) s s 0x62 q (.refused .range []) ∧
        Answers (.stationWriteCond q n f) s s 0x63 q (.refused .range [])) ∧
      Answers (.stationDelete q n) s s 0x64 q (.refused .range [])) ∧
    ∀ v, s.sta.slots[n]? = some ⟨none, v⟩ → Answers (.stationDelete q n) s s 0x64 q (.refused .state [])

/-- R119, R126, R127, R135: ASSIGN links the preset to the record in the slot, empties the preset that the record had and takes the
preset from any other record; CLEAR empties the preset and takes it from every record; the revision of each slot whose record gains or loses
a preset field rises by 1 and a reservation of that slot ends, and nothing else of a record changes. A preset above 11, for a QUERY or an
operation that is none too, and for ASSIGN a slot above 39, are refused RANGE, and an empty slot STATE. STATION.ADMIT edits the mask;
SCAN.CONFIG clamps its three settings; and an age tick raises every age by one, up to 65,535. -/
def Obligations.PresetsAgesAndScanSettings : Prop :=
  let counted : State → State → Prop := fun s u =>
    let same : Nat → Prop := fun m => (u.sta.recAt m).map StationRec.preset = (s.sta.recAt m).map StationRec.preset
    (∀ m, m < s.sta.slots.length → (same m → u.revisionOf m = s.revisionOf m) ∧ (¬ same m → u.revisionOf m = s.revisionOf m + 1)) ∧
    (∀ m, (u.sta.recAt m).map (fun x => { x with preset := none }) = (s.sta.recAt m).map (fun x => { x with preset := none })) ∧
    (s.sta.reservation = none → u.sta.reservation = none) ∧
    ∀ m v, s.sta.reservation = some (m, v) → (same m → u.sta.reservation = some (m, v)) ∧ (¬ same m → u.sta.reservation = none)
  (∀ s q p n r v, Serves s → p < s.sta.presets.length → s.sta.slots[n]? = some ⟨some r, v⟩ →
    ∃ u, Answers (.stationPresetAssign q p n) s u 0x65 q (.done (.presets u.sta.presets)) ∧ u = { s with sta := u.sta } ∧
      u.sta.presets[p]? = some (some ⟨⟨r.band, r.primary.getD 0, r.code⟩, some n⟩) ∧
      (u.sta.recAt n).map StationRec.preset = some (some p) ∧
      (∀ m x, m ≠ n → u.sta.recAt m = some x → x.preset ≠ some p) ∧
      (∀ o, r.preset = some o → o ≠ p → o < s.sta.presets.length → u.sta.presets[o]? = some none) ∧
      (∀ k, k ≠ p → r.preset ≠ some k → u.sta.presets[k]? = s.sta.presets[k]?) ∧ counted s u ∧
      u.sta.mask = s.sta.mask ∧ u.sta.admitQ = s.sta.admitQ ∧ u.sta.assoc = s.sta.assoc) ∧
  (∀ s q p, Serves s → p < s.sta.presets.length →
    ∃ u, Answers (.stationPresetClear q p) s u 0x65 q (.done (.presets u.sta.presets)) ∧ u = { s with sta := u.sta } ∧
      u.sta.presets = s.sta.presets.set p none ∧ (∀ m x, u.sta.recAt m = some x → x.preset ≠ some p) ∧ counted s u ∧
      u.sta.mask = s.sta.mask ∧ u.sta.admitQ = s.sta.admitQ ∧ u.sta.assoc = s.sta.assoc) ∧
  (∀ s q p n, Serves s → s.sta.presets.length = 12 → s.sta.slots.length = 40 →
    (11 < p → Answers (.stationPresetAssign q p n) s s 0x65 q (.refused .range []) ∧
      Answers (.stationPresetClear q p) s s 0x65 q (.refused .range [])) ∧
    (∀ known, 11 < p ∨ known = false → Answers (.stationPresetQuery q p known) s s 0x65 q (.refused .range [])) ∧
    (p ≤ 11 → (39 < n → Answers (.stationPresetAssign q p n) s s 0x65 q (.refused .range [])) ∧
      ∀ v, s.sta.slots[n]? = some ⟨none, v⟩ → Answers (.stationPresetAssign q p n) s s 0x65 q (.refused .state []))) ∧
  (∀ s q op m, Serves s →
    let w : BitVec 32 := match op with | .set => s.sta.mask ||| m | .clear => s.sta.mask &&& ~~~ m | .replace => m
    Answers (.stationAdmit q (some op) m) s { s with sta := { s.sta with mask := w } } 0x66 q (.done (.admission w)) ∧
    Answers (.stationAdmit q none m) s s 0x66 q (.refused .range [])) ∧
  (∀ s q a b c, Serves s →
    let i := max 2 (min 60 a)
    Answers (.scanConfig q a b c) s
      { s with scan := { s.scan with interval := i, permit := min b 100 }, sta := { s.sta with admitQ := min c 100 } } 0x70 q
      (.done (.scanSettings i (min b 100) (min c 100) [decide (i ≠ a), decide (min b 100 ≠ b), decide (min c 100 ≠ c)]))) ∧
  ∀ s, s.port.op = .run → exec .stationAgeTick s = .next { s with sta := { s.sta with
    slots := s.sta.slots.map (fun x => { x with record := x.record.map (fun r => { r with
      age := min 65535 (r.age + 1), freqs := r.freqs.map (fun e => { e with age := min 65535 (e.age + 1) }) }) }) } }

/-- R127 to R131: an interval timer at 0 begins a window of 500 ms with P2 tuned to the cursor afresh, whatever it stood on, waits for a
running AF check, or starts again where one of R128's five conditions fails. A visit's measurement refreshes the
last q and age of the frequency in each FM record that lists it (R129 step 3). One below the admission threshold that stood when
the visit was named ends the visit, the cursor going one step on, and one at or above it begins a dwell of 200 ms; the dwell's end
decides by the five rows of R130's table, a record being created in the lowest empty slot or, of a full table, in that of the record that
R126 evicts, and a frequency joining a full list in place of its oldest entry behind the primary; and the window's end starts the interval
timer, P2 being planned by R109 without a window. A window that has waited for an AF check begins when the check ends, where the five
conditions hold then, and is skipped otherwise, the interval timer starting. That an expiry acts when its
timer stands at 0, and does nothing before, is the model's choice (log 1). -/
def Obligations.ScanWindowsVisitTheBand : Prop :=
  let allowed : State → Prop := fun s => s.tun.flags.scan = true ∧ (s.path .p1).state = .locked ∧ s.scan.permit ≤ (s.path .p1).q ∧
    (s.path .p2).role ≠ .rear ∧ (s.path .p2).state ≠ .failed
  let refreshed : State → State → Nat → Prop := fun s t q => CountedByDevice s t ∧ ∀ m, t.sta.recAt m = (s.sta.recAt m).map (fun r =>
    if r.band = .fm then { r with freqs := r.freqs.map (fun e => if e.freq = s.scan.cursor then (⟨e.freq, q, 0⟩ : FreqEntry) else e) }
    else r)
  (∀ s, s.port.op = .run → s.scan.timer = some 0 → s.scan.window = none →
    (¬ allowed s →
      exec .scanIntervalExpiry s = .next { s with scan := { s.scan with timer := some (s.scan.interval * 1000) } }) ∧
    (allowed s → s.tun.check.isSome = true →
      exec .scanIntervalExpiry s = .next { s with scan := { s.scan with timer := none, waiting := true } }) ∧
    (allowed s → s.tun.check = none → s.entSource .rearL ≠ some .radio2 → s.entSource .rearR ≠ some .radio2 →
      ∃ t, exec .scanIntervalExpiry s = .next t ∧ TunerFrame s t ∧ t.scan.window = some ⟨500, .named 25 s.sta.admitQ⟩ ∧
        t.scan.cursor = s.scan.cursor ∧ (t.path .p2).role = .scan ∧ (t.path .p2).station = ⟨.fm, s.scan.cursor⟩ ∧
        (t.path .p2).state = .tuning ∧ t.path .p1 = s.path .p1)) ∧
  (∀ s w a fs mp adj, s.port.op = .run → s.scan.window = some w → w.visit = .named 0 a → (s.path .p2).state = .locked →
    (s.path .p2).station = ⟨.fm, s.scan.cursor⟩ →
    (a ≤ quality fs mp adj →
      ∃ t, exec (.scanVisitMeasurement fs mp adj) s = .next t ∧ TunerFrame s t ∧ t.tun = s.tun ∧
        t.scan = { s.scan with window := some { w with visit := .dwell 200 (quality fs mp adj) } } ∧
        t.sta.assoc = s.sta.assoc ∧ t.sta.presets = s.sta.presets ∧ refreshed s t (quality fs mp adj)) ∧
    (quality fs mp adj < a → s.tun.check = none →
      ∃ t, exec (.scanVisitMeasurement fs mp adj) s = .next t ∧ TunerFrame s t ∧
        t.scan.cursor = (if 10800 ≤ s.scan.cursor then 8750 else s.scan.cursor + 10) ∧
        t.sta.presets = s.sta.presets ∧ refreshed s t (quality fs mp adj) ∧
        (s.entSource .rearL ≠ some .radio2 → s.entSource .rearR ≠ some .radio2 →
          t.scan.window = some { w with visit := .named 25 s.sta.admitQ } ∧
          (w.left ≠ 0 → (t.path .p2).station = ⟨.fm, t.scan.cursor⟩ ∧ (t.path .p2).state = .tuning)))) ∧
  (∀ s w n x, s.port.op = .run → s.tun.check = none → s.scan.window = some w → w.visit = .dwell n x →
    (n = 0 ∨ (∃ c, (s.path .p2).decoded.code = some c ∧ c ≠ 0)) →
    ∃ t, exec .codeDwellEnd s = .next t ∧ TunerFrame s t ∧
      t.scan.cursor = (if 10800 ≤ s.scan.cursor then 8750 else s.scan.cursor + 10) ∧
      let f := s.scan.cursor
      let d := (s.path .p2).decoded
      let admitted : Nat → Prop := fun c => (∀ p, d.pty = some p → s.sta.mask.getLsbD p = true) ∨
        ∃ p, some p ∈ s.sta.presets ∧ p.key.code = c
      let made : Nat → Nat → Prop := fun c i => t.port.flags.getLsbD 21 = true ∧ (∀ m, m ≠ i → t.sta.recAt m = s.sta.recAt m) ∧
        ∃ r, t.sta.recAt i = some r ∧ r.code = c ∧ r.band = .fm ∧ r.origin = .scan ∧ r.age = 0 ∧ r.freqs.head? = some ⟨f, x, 0⟩ ∧
          r.pty = (if c = 0 then none else d.pty) ∧ r.name = d.name ∧ r.tp = d.tp
      (∀ c, d.code = some c → c ≠ 0 →
        (∀ i r, s.sta.byCode c = some i → s.sta.recAt i = some r → (∀ m, m ≠ i → t.sta.recAt m = s.sta.recAt m) ∧
          ∃ r', t.sta.recAt i = some r' ∧ r'.age = 0 ∧ f ∈ r'.freqs.map FreqEntry.freq ∧
            r' = { r with age := 0, freqs := r'.freqs } ∧ Joined r.freqs ⟨f, x, 0⟩ r'.freqs) ∧
        (s.sta.byCode c = none → (admitted c → ∀ i, TakesSlot s.sta i → made c i) ∧
          (¬ admitted c ∨ (∀ i, ¬ TakesSlot s.sta i) → t.sta.slots = s.sta.slots))) ∧
      (d.code = none ∨ d.code = some 0 →
        (∀ i, s.sta.byFreq .fm f = some i → (∀ m, m ≠ i → t.sta.recAt m = s.sta.recAt m) ∧
          t.sta.recAt i = (s.sta.recAt i).map (fun r => { r with age := 0 })) ∧
        (s.sta.byFreq .fm f = none → (∀ i, TakesSlot s.sta i → made 0 i) ∧
          ((∀ i, ¬ TakesSlot s.sta i) → t.sta.slots = s.sta.slots)))) ∧
  (∀ s w, s.port.op = .run → s.tun.check = none → s.scan.window = some w → w.left = 0 →
    ∃ t, exec .scanWindowTimeout s = .next t ∧ TunerFrame s t ∧ t.scan.window = none ∧
      t.scan.timer = some (s.scan.interval * 1000) ∧ t.path .p1 = s.path .p1 ∧
      if s.entSource .rearL = some .radio2 ∨ s.entSource .rearR = some .radio2 then (t.path .p2).role = .rear
      else if (s.path .p2).state = .failed then (t.path .p2).role = .idle ∧ (t.path .p2).state = .failed
      else if s.tun.flags.diversity = true ∧ (s.path .p1).station.band = .fm ∧ (s.path .p1).state = .locked then
        (t.path .p2).role = .partner ∧ (t.path .p2).station = (s.path .p1).station ∧
          ((t.path .p2).state = .tuning ∨ (t.path .p2).state = .locked)
      else (t.path .p2).role = .idle ∧ (t.path .p2).state = .idle) ∧
  (∀ s c k n, s.port.op = .run → s.scan.waiting = true → s.scan.window = none → s.tun.check = some c → c.trial = some k →
    c.untried = [k.cand] → s.tun.peek = none → k.sinceLock = some n → 200 ≤ n → (s.path .p2).state = .locked →
    k.qs.sum / max 1 k.qs.length < c.reference + s.tun.settings.afMargin →
    s.entSource .rearL ≠ some .radio2 → s.entSource .rearR ≠ some .radio2 →
    let ready := s.tun.flags.scan = true ∧ (s.path .p1).state = .locked ∧ s.scan.permit ≤ (s.path .p1).q
    ∃ t, exec .afTrialEnd s = .next t ∧ TunerFrame s t ∧ t.tun.check = none ∧ t.scan.waiting = false ∧
      t.scan.cursor = s.scan.cursor ∧
      (ready → t.scan.window = some ⟨500, .named 25 s.sta.admitQ⟩ ∧ t.scan.timer = none ∧ (t.path .p2).role = .scan ∧
        (t.path .p2).station = ⟨.fm, s.scan.cursor⟩ ∧ (t.path .p2).state = .tuning) ∧
      (¬ ready → t.scan.window = none ∧ t.scan.timer = some (s.scan.interval * 1000))) ∧
  ∀ s, (s.scan.timer ≠ some 0 → exec .scanIntervalExpiry s = .next s) ∧
    (s.scan.window = none → (∀ fs mp adj, exec (.scanVisitMeasurement fs mp adj) s = .next s) ∧
      exec .codeDwellEnd s = .next s ∧ exec .scanWindowTimeout s = .next s)

/-! ## Calls and the echo canceller -/

/-- R151 to R157, R161, R164: the six call commands. RING places the ring entry, the clip on the mode's zone with the repeat count 0, the
gap, and threshold, trim and maximum wait of 0, and rings; ANSWER and RESUME enter ACTIVE with CALL
claims in the mode's zone (and a shadow claim in CABIN for a driver call), the route CALL on the mode's mic set and the canceller
CONVERGING; HOLD leaves ACTIVE for HELD with no claim and no route; END goes to IDLE; MODE moves an ACTIVE call's claims and mic
set, the canceller's coefficients being retained for the old set and those of the new set, or zero, taken, with ERLE 0. R58: where an ACTIVE call leaves ACTIVE by HOLD or END, each DEFERRED take is carried out. Where the call's state does not allow a command, which R152 tells before the gap of a RING, or the ring voice's flush has no
room, it is refused and does nothing. -/
def Obligations.CallCommandsMoveTheCall : Prop :=
  let claimed : Zone → Zone → Bool := fun mode z => decide (z = mode ∨ (mode = .driver ∧ z = .cabin))
  let set : Zone → MicSet := fun mode => match mode with | .driver => .front | .cabin => .all | .rearL => .rearL | .rearR => .rearR
  let carriedOut : State → State → Prop := fun s u => u.bank.staged = s.bank.staged ∧ ∀ z,
    (s.bank.take.get z = .deferred → u.bank.current.get z = s.bank.staged.get z ∧ u.bank.take.get z = .idle) ∧
    (s.bank.take.get z ≠ .deferred → u.bank.current.get z = s.bank.current.get z ∧ u.bank.take.get z = s.bank.take.get z)
  (∀ s q m z clip gap, Unlocked s → zoneOf m = some z → 1 ≤ clip → clip ≤ 63 → s.call.state = .idle →
    (s.placeRefusal .ring ⟨clip, 2 ^ z.num, 0, gap, 0, 0, 0⟩ = none →
      ∃ u, Answers (.callRing q m clip gap) s u 0x90 q (.done (.call .ringing z (set z) none)) ∧
        ClaimFrame { s with call := { s.call with state := .ringing, mode := z, ringClip := some clip } } u ∧
        (u.voice .ring).queue.length = (s.voice .ring).queue.length + 1 ∧
        (u.voice .ring).queue = (s.voice .ring).queue ++
          [⟨clip, ⟨decide (z = .cabin), decide (z = .driver), decide (z = .rearL), decide (z = .rearR)⟩, 0, gap, 0, 0, 0, none⟩] ∧
        ((s.voice .ring).state = .idle → (u.voice .ring).state = .starting ∧ (u.pool.clip clip).use = .playing .ring ∧
          ∀ y, (u.claim y .voiceRing).isSome = decide (y = z)) ∧
        ((s.voice .ring).state ≠ .idle → (u.voice .ring).state = (s.voice .ring).state ∧ (u.pool.clip clip).use = .queued .ring ∧
          u.arb = s.arb)) ∧
    (∀ c, s.placeRefusal .ring ⟨clip, 2 ^ z.num, 0, gap, 0, 0, 0⟩ = some c →
      Answers (.callRing q m clip gap) s s 0x90 q (.refused c []))) ∧
  (∀ s q m clip gap, Unlocked s →
    (3 < m ∨ clip = 0 ∨ 63 < clip → Answers (.callRing q m clip gap) s s 0x90 q (.refused .range [])) ∧
    (m ≤ 3 → 1 ≤ clip → clip ≤ 63 → s.call.state ≠ .idle → Answers (.callRing q m clip gap) s s 0x90 q (.refused .state [])) ∧
    (m ≤ 3 → 1 ≤ clip → clip ≤ 63 → s.call.state = .idle → 5000 < gap →
      Answers (.callRing q m clip gap) s s 0x90 q (.refused .range []))) ∧
  (∀ s q, Unlocked s → (s.call.state = .idle ∨ s.call.state = .ringing) →
    (s.flushOwes .ring ≤ s.room true →
      ∃ u a f, Answers (.callAnswer q) s u 0x91 q
          (.done (.call .active s.call.mode (set s.call.mode) (some ((s.voice .ring).queue.length, a, f)))) ∧
        CallFrame s u ∧ u.call.state = .active ∧ u.call.mode = s.call.mode ∧ u.call.route = .call ∧
        u.call.routeSet = set s.call.mode ∧ u.call.echo.state = .converging ∧ u.call.ringClip = none ∧
        (u.voice .ring).queue = [] ∧ (∀ z, (u.claim z .call).isSome = claimed s.call.mode z) ∧
        (s.call.mode = .driver → (u.claim .cabin .call).map Claim.shadow = some true)) ∧
    (s.room true < s.flushOwes .ring → Answers (.callAnswer q) s s 0x91 q (.refused .busy []))) ∧
  (∀ s q, Unlocked s → s.call.state = .active →
    (∃ u, Answers (.callHold q) s u 0x92 q (.done (.call .held s.call.mode (set s.call.mode) none)) ∧ CallFrame s u ∧
      u.call.state = .held ∧ u.call.mode = s.call.mode ∧ u.call.route = .none ∧ u.call.echo.state = .off ∧
      (∀ z, u.claim z .call = none) ∧ carriedOut s u ∧
      (s.call.echo.state ≠ .off → u.call.echo.retained.get s.call.routeSet = some s.call.echo.coeff)) ∧
    Answers (.callAnswer q) s s 0x91 q (.refused .state []) ∧ Answers (.callResume q) s s 0x93 q (.refused .state [])) ∧
  (∀ s q, Unlocked s → s.call.state = .held →
    (∃ u, Answers (.callResume q) s u 0x93 q (.done (.call .active s.call.mode (set s.call.mode) none)) ∧ CallFrame s u ∧
      u.call.state = .active ∧ u.call.mode = s.call.mode ∧ u.call.route = .call ∧ u.call.routeSet = set s.call.mode ∧
      u.call.echo.state = .converging ∧ (∀ z, (u.claim z .call).isSome = claimed s.call.mode z) ∧
      (s.call.echo.state = .off → u.call.echo.coeff = (s.call.echo.retained.get (set s.call.mode)).getD 0)) ∧
    Answers (.callAnswer q) s s 0x91 q (.refused .state [])) ∧
  (∀ s q, Unlocked s → s.call.state ≠ .active → Answers (.callHold q) s s 0x92 q (.refused .state [])) ∧
  (∀ s q, Unlocked s → s.call.state ≠ .held → Answers (.callResume q) s s 0x93 q (.refused .state [])) ∧
  (∀ s q, Unlocked s →
    (s.flushOwes .ring ≤ s.room true →
      ∃ u a f, Answers (.callEnd q) s u 0x94 q
          (.done (.call .idle s.call.mode (set s.call.mode) (some ((s.voice .ring).queue.length, a, f)))) ∧
        CallFrame s u ∧ u.call.state = .idle ∧ u.call.mode = s.call.mode ∧ u.call.ringClip = none ∧
        (u.voice .ring).queue = [] ∧
        (s.call.state = .active → u.call.route = .none ∧ u.call.echo.state = .off ∧ carriedOut s u ∧ ∀ z, u.claim z .call = none) ∧
        (s.call.state ≠ .active → u.call = { s.call with state := .idle, ringClip := none } ∧ u.bank = s.bank)) ∧
    (s.room true < s.flushOwes .ring → Answers (.callEnd q) s s 0x94 q (.refused .busy []))) ∧
  (∀ s q m z, Unlocked s → zoneOf m = some z →
    (s.call.mode = z → Answers (.callMode q m) s s 0x95 q (.done (.call s.call.state z (set z) none))) ∧
    (s.call.mode ≠ z → s.call.state ≠ .active →
      Answers (.callMode q m) s { s with call := { s.call with mode := z } } 0x95 q
        (.done (.call s.call.state z (set z) none))) ∧
    (s.call.mode ≠ z → s.call.state = .active →
      ∃ u, Answers (.callMode q m) s u 0x95 q (.done (.call .active z (set z) none)) ∧ CallFrame s u ∧
        u.call.state = .active ∧ u.call.mode = z ∧ u.call.route = s.call.route ∧ u.call.routeSet = set z ∧
        (s.call.echo.state ≠ .off → u.call.echo.state = .converging ∧ u.call.echo.erle = 0 ∧ u.call.echo.timer = none ∧
          u.call.echo.hang = 0 ∧ u.call.echo.retained.get s.call.routeSet = some s.call.echo.coeff ∧
          (∀ x, x ≠ s.call.routeSet → u.call.echo.retained.get x = s.call.echo.retained.get x) ∧
          u.call.echo.coeff = (u.call.echo.retained.get (set z)).getD 0) ∧
        (s.call.echo.state = .off → u.call.echo = s.call.echo) ∧
        (∀ y c, u.claim y .call = some c → c.shadow = decide (y ≠ z)) ∧
        ∀ y, (u.claim y .call).isSome = claimed z y)) ∧
  ∀ s q m, Unlocked s → 3 < m → Answers (.callMode q m) s s 0x95 q (.refused .range [])

/-- R158, R160, R162: the call trims and the canceller's thresholds are clamped into their ranges; a delivery of levels sets both
figures of every microphone, and moves the choice only in the ALL set, only where another microphone is 12 qdB above it, and then
to the loudest; NOISE is the mean of the idle microphones' figures, mute ones taken as 480 below full scale: all four without a route,
and those outside the set with one, in ALL the three unselected; it is delivered to the watches. Where the mean is not whole, which of
the two whole figures beside it is taken is free (log 11). -/
def Obligations.CallSettingsAndMicrophones : Prop :=
  (∀ s q (down up : Int), Serves s →
    let d := max (-48) (min 24 down)
    let v := max (-48) (min 24 up)
    Answers (.callTrim q down up) s { s with call := { s.call with downTrim := d, upTrim := v } } 0x96 q
      (.done (.callTrims d v (decide (d ≠ down)) (decide (v ≠ up))))) ∧
  (∀ s q tc tt, Serves s →
    let c := max 24 (min 160 tc)
    let t := max 100 (min 200 tt)
    Answers (.callEchoConfig q tc tt) s { s with call := { s.call with echo := { s.call.echo with tc := c, tt := t } } } 0x97 q
      (.done (.echoConfig c t (decide (c ≠ tc)) (decide (t ≠ tt))))) ∧
  (∀ s (l f : PerMic Gain), s.port.op = .run →
    ∃ m, exec (.micLevelDelivery l f) s = .next { s with call := { s.call with speech := l, noiseFloor := f, selected := m } } ∧
      (s.call.route = .none ∨ s.call.routeSet ≠ .all → m = s.call.selected) ∧
      (∀ a, l.get s.call.selected = some a → (∀ k b, l.get k = some b → b < a + 12) → m = s.call.selected) ∧
      (s.call.route ≠ .none → s.call.routeSet = .all → ∀ a k b, l.get s.call.selected = some a → l.get k = some b →
        a + 12 ≤ b → ∃ x, l.get m = some x ∧ b ≤ x)) ∧
  ∀ s, s.port.op = .run →
    let idle : List Mic := match s.call.route, s.call.routeSet with
      | .none, _ => [.m1, .m2, .m3, .m4]
      | _, .front => [.m3, .m4]
      | _, .rearL => [.m1, .m2, .m4]
      | _, .rearR => [.m1, .m2, .m3]
      | _, .all => [.m1, .m2, .m3, .m4].filter (fun m => m ≠ s.call.selected)
    let figure : Mic → Int := fun m => match s.call.noiseFloor.get m with | none => 480 | some g => -g
    let sum := (idle.map figure).sum
    ∃ n : Nat, exec .noiseForming s =
        .next { s with call := { s.call with noise := n }, wat := s.wat.deliver .noise (n : Int) } ∧
      ((∀ m g, s.call.noiseFloor.get m = some g → g ≤ 0) →
        (sum % idle.length = 0 → (n : Int) = sum / idle.length) ∧ sum / idle.length ≤ n ∧ n ≤ sum / idle.length + 1)

/-- R162, R163, R166: an estimate of an OFF canceller does nothing; in CONVERGING it sets ERLE while the far end is active and runs
the timer while ERLE is at or above Tc, an estimate that finds it at 500 ms earning the move to CONVERGED; in CONVERGED it goes back
to CONVERGING, with ECHO_STATE raised, once ERLE is more than 24 below Tc; with double talk it freezes the canceller. The earned move
makes it CONVERGED, whatever Tc has become since, and a hang of 150 ms ends FROZEN, in the state before it. That the two ends act when
their time has been reached is the model's choice (log 1). -/
def Obligations.EchoEstimatesMoveTheCanceller : Prop :=
  (∀ s e dt, s.call.echo.state = .off → exec (.echoEstimate e dt) s = .next s) ∧
  (∀ s e, s.port.op = .run → s.call.echo.state = .converging → s.call.echo.earned = false →
    let erle := if s.call.farActive then min e 160 else s.call.echo.erle
    exec (.echoEstimate e false) s = .next { s with
      call := { s.call with echo := { s.call.echo with
        erle := erle
        doubleTalk := false
        timer := if s.call.echo.tc ≤ erle then some ((s.call.echo.timer.map (· + 10)).getD 0) else none
        earned := decide (s.call.echo.tc ≤ erle ∧ 500 ≤ (s.call.echo.timer.map (· + 10)).getD 0) } }
      wat := s.wat.deliver .erle (erle : Int) }) ∧
  (∀ s e, s.port.op = .run → s.call.echo.state = .converged →
    let erle := if s.call.farActive then min e 160 else s.call.echo.erle
    ∃ t, exec (.echoEstimate e false) s = .next t ∧ CallFrame s t ∧ t.call.echo.erle = erle ∧
      t.call.echo.coeff = s.call.echo.coeff ∧ t.wat = s.wat.deliver .erle (erle : Int) ∧
      (erle + 24 < s.call.echo.tc → t.call.echo.state = .converging ∧ t.port.flags.getLsbD 25 = true) ∧
      (s.call.echo.tc ≤ erle + 24 → t.call.echo.state = .converged ∧ t.port = s.port)) ∧
  (∀ s e, s.port.op = .run → (s.call.echo.state = .converging ∨ s.call.echo.state = .converged) →
    ∃ t, exec (.echoEstimate e true) s = .next t ∧ CallFrame s t ∧ t.call.echo.state = .frozen ∧ t.call.echo.hang = 0 ∧
      t.call.echo.coeff = s.call.echo.coeff ∧ t.port.flags.getLsbD 25 = true) ∧
  (∀ s e dt, s.port.op = .run → s.call.echo.state = .frozen → s.call.echo.hang < 150 →
    exec (.echoEstimate e dt) s = .next { s with
      call := { s.call with echo := { s.call.echo with hang := if dt then 0 else s.call.echo.hang + 10, doubleTalk := dt } }
      wat := s.wat.deliver .erle (s.call.echo.erle : Int) }) ∧
  (∀ s, s.port.op = .run → s.call.echo.state = .converging → s.call.echo.earned = true →
    ∃ t, exec .echoConverged s = .next t ∧ t = { s with port := t.port, call := { s.call with
      echo := { s.call.echo with state := .converged, timer := none, earned := false } } } ∧ t.port.flags.getLsbD 25 = true) ∧
  (∀ s, s.port.op = .run → s.call.echo.state = .frozen → 150 ≤ s.call.echo.hang →
    ∃ t, exec .frozenHangEnd s = .next t ∧ t = { s with port := t.port, call := { s.call with
      echo := { s.call.echo with state := s.call.echo.prior, timer := none, earned := false, hang := 0 } } } ∧
      ((s.call.echo.prior = .converging ∨ s.call.echo.prior = .converged) → t.port.flags.getLsbD 25 = true)) ∧
  ∀ s, (s.call.echo.state ≠ .converging ∨ s.call.echo.earned = false → exec .echoConverged s = .next s) ∧
    (s.call.echo.state ≠ .frozen ∨ s.call.echo.hang < 150 → exec .frozenHangEnd s = .next s)

/-- R158, R160, R161, R164, R165, R60: in a render frame in RUN the far-end indication follows the power of the last 10 ms of the CALL
downlink, or in override of the TELEM downlink: active above -200 qdB; at what level between -200 and -199 it becomes active is free
(log 11). With a route the applied suppression, in eighths, moves toward 8 U, by at most 16 down and 4 up, U being 0 while the far end is
inactive, else the threshold Tt less ERLE, from 0 to 120, taken as a fall, and half of that, toward zero, while FROZEN; the 16 uplink
samples of the route's set, the mean of two microphones or one microphone's, are scaled by the multiplier of the uplink trim plus the
suppression, 10^(e/640) for e eighths to the nearest multiple of 2^-20, and leave for the route, zeros leaving for the other; without a route both are zeros and no U is formed. A reconvergence notice that
waits takes effect first, and makes a canceller that is not OFF CONVERGING. That the indication of a frame is formed after its uplink is
the model's choice (log 1); samples are exact, in units of 2^-44 (log 10). -/
def Obligations.UplinkAndFarEnd : Prop :=
  (∀ e : Int, -3840 ≤ e → e ≤ 384 → let m := multiplierEighths e
    (2 * m - 1) ^ 640 * 10 ^ (-e).toNat ≤ 2 ^ 13440 * 10 ^ e.toNat ∧
      2 ^ 13440 * 10 ^ e.toNat < (2 * m + 1) ^ 640 * 10 ^ (-e).toNat) ∧
  ∀ (s : State) inp, s.port.op = .run → ∃ t, exec (.renderFrame inp) s = .next t ∧
    let echo : EchoState := if s.call.reconverge = true ∧ s.call.echo.state ≠ .off then .converging else s.call.echo.state
    let fall : Nat := min 120 (s.call.echo.tt - s.call.echo.erle)
    let u : Int := if s.call.farActive = false then 0 else if echo = .frozen then -((fall / 2 : Nat) : Int) else -(fall : Int)
    let a := s.call.echo.applied
    let moved : Int := if 8 * u ≤ a then max (8 * u) (a - 16) else min (8 * u) (a + 4)
    let g : Int := multiplierEighths (8 * s.call.upTrim + moved)
    let mic : Mic → Nat → Int := fun m j => if j < 16 then (inp.cancelled.get m).getD j 0 else 0
    let sample : Nat → Int := fun j => match s.call.routeSet with
      | .front => (mic .m1 j + mic .m2 j) * g
      | .rearL => 2 * mic .m3 j * g
      | .rearR => 2 * mic .m4 j * g
      | .all => 2 * mic s.call.selected j * g
    let out := (List.range 16).map sample
    let zeros : List Int := List.replicate 16 0
    t.call.reconverge = false ∧ t.call.echo.state = echo ∧ t.call.echo.erle = s.call.echo.erle ∧
    (s.call.reconverge = true → s.call.echo.state ≠ .off → s.call.echo.state ≠ .converging →
      t.port.flags.getLsbD 25 = true) ∧
    (s.call.route = .none → t.call.echo.applied = a ∧ t.call.echo.target = s.call.echo.target ∧ t.rend.uplink = zeros ∧
      t.rend.telemUplink = zeros) ∧
    (s.call.route = .call → t.call.echo.applied = moved ∧ t.call.echo.target = u ∧ t.rend.uplink = out ∧ t.rend.telemUplink = zeros) ∧
    (s.call.route = .telem → t.call.echo.applied = moved ∧ t.call.echo.target = u ∧ t.rend.uplink = zeros ∧ t.rend.telemUplink = out) ∧
    (inp.callDown.length = 16 → t.call.callWin = s.call.callWin.drop 16 ++ inp.callDown) ∧
    (inp.telemDown.length = 16 → t.call.telemWin = s.call.telemWin.drop 16 ++ inp.telemDown) ∧
    let e : Nat := ((if s.veh.override then t.call.telemWin else t.call.callWin).map (fun x => x.natAbs ^ 2)).sum
    ((160 * 2 ^ 46) ^ 40 ≤ e ^ 40 * 10 ^ 199 → t.call.farActive = true) ∧
    (e * 10 ^ 5 ≤ 160 * 2 ^ 46 → t.call.farActive = false)

/-! ## The vehicle link and override -/

/-- R173: the control-link forms of the four records are refused PRIVILEGED in RUN, whatever their parameters and in override too,
and NOT_STARTED in STARTUP; the voice requests that name the CHIME voice are refused PRIVILEGED; and VEHICLE.STATUS reports the
vehicle port and changes nothing, in RUN and in override, and is refused NOT_STARTED in STARTUP. -/
def Obligations.VehicleFormsArePrivileged : Prop :=
  (∀ s q l, Serves s →
    Answers (.vehicleSpeed q l) s s 0xA0 q (.refused .privileged []) ∧
    Answers (.vehicleChime q l) s s 0xA1 q (.refused .privileged []) ∧
    Answers (.vehicleChimeStop q l) s s 0xA2 q (.refused .privileged []) ∧
    Answers (.vehicleOverride q l) s s 0xA3 q (.refused .privileged [])) ∧
  (∀ s q l, s.port.op = .startup → s.port.resetPending = false →
    Answers (.vehicleSpeed q l) s s 0xA0 q (.refused .notStarted []) ∧
    Answers (.vehicleChime q l) s s 0xA1 q (.refused .notStarted []) ∧
    Answers (.vehicleChimeStop q l) s s 0xA2 q (.refused .notStarted []) ∧
    Answers (.vehicleOverride q l) s s 0xA3 q (.refused .notStarted [])) ∧
  (∀ s q, Serves s →
    Answers (.vehicleStatus q) s s 0xA4 q (.done (.vehicle s.veh.speed s.veh.age s.veh.stale s.veh.override
      (if s.veh.override then s.call.savedTag else none) (if s.veh.override then s.veh.savedStep else none) s.veh.refusal
      s.veh.chimeDone.isSome s.voc.vehicle.length s.veh.base s.veh.step))) ∧
  (∀ s q, s.port.op = .startup → s.port.resetPending = false →
    Answers (.vehicleStatus q) s s 0xA4 q (.refused .notStarted [])) ∧
  ∀ s q c m r g t k w, Unlocked s →
    Answers (.voiceEnqueue q 0 c m r g t k w) s s 0x40 q (.refused .privileged []) ∧
    Answers (.voiceFlush q 0) s s 0x42 q (.refused .privileged []) ∧
    Answers (.voiceSkip q 0) s s 0x43 q (.refused .privileged [])

/-- R168 to R172, R191: SPEED sets the speed, clamped to 300, with age 0, and is delivered to the watches; at an age of 1000 ms the
speed is stale; CHIME places an entry on the CHIME voice and CHIME_STOP flushes it, or the refusal is recorded; another frame of
the bus is ignored. STATUS is built at each period and goes out at base + 8; a CHIME_DONE goes out at base + 9 and leaves the
vehicle queue, whose entries have the four outcomes of R191 (the byte of another is the model's choice, log 25, and not stated). That
the two vehicle timers act when due is the model's choice (log 1); a reason for ignoring a frame is R191's or R168's. -/
def Obligations.VehicleRecordsAndReports : Prop :=
  (∀ s v, Serves s → exec (.speed v) s = .next { s with
    veh := { s.veh with speed := min v 300, age := 0, stale := false }
    wat := s.wat.deliver .speed ((min v 300 : Nat) : Int) }) ∧
  (∀ s, (s.port.op = .run → 1000 ≤ s.veh.age → exec .speedStale s = .next { s with veh := { s.veh with stale := true } }) ∧
    (s.veh.age < 1000 → exec .speedStale s = .next s)) ∧
  (∀ s clip mask repeats gap, Serves s →
    (s.placeRefusal .chime ⟨clip, mask, min repeats 15, gap, 0, 0, 0⟩ = none →
      ∃ t, exec (.chime clip mask repeats gap) s = .next t ∧ ClaimFrame { s with veh := { s.veh with refusal := none } } t ∧
        (t.voice .chime).queue = (s.voice .chime).queue ++
          [⟨clip, ⟨mask.testBit 0, mask.testBit 1, mask.testBit 2, mask.testBit 3⟩, min repeats 15, gap, 0, 0, 0, none⟩]) ∧
    (∀ c, s.placeRefusal .chime ⟨clip, mask, min repeats 15, gap, 0, 0, 0⟩ = some c →
      exec (.chime clip mask repeats gap) s = .next { s with veh := { s.veh with refusal := some ⟨false, clip, c⟩ } })) ∧
  (∀ s, Serves s →
    (s.flushOwes .chime ≤ s.room false →
      ∃ t, exec .chimeStop s = .next t ∧ ClaimFrame { s with veh := { s.veh with refusal := none } } t ∧
        (t.voice .chime).queue = []) ∧
    (s.room false < s.flushOwes .chime →
      exec .chimeStop s = .next { s with veh := { s.veh with refusal := some ⟨true, 0, .busy⟩ } })) ∧
  (∀ s f, (f.extended = true ∨ f.remote = true ∨ f.id < s.veh.base ∨ s.veh.base + 3 < f.id ∨
      (f.id = s.veh.base ∧ f.data.length < 2) ∨ (f.id = s.veh.base + 1 ∧ f.data.length < 5) ∨
      (f.id = s.veh.base + 3 ∧ ∀ b ∈ f.data.head?, b ≠ 1 ∧ b ≠ 2 ∧ b ≠ 3)) →
    exec (.vehicleFrameIgnored f) s = .next s) ∧
  (∀ s, s.port.op = .run → s.veh.statusTimer = some 0 →
    ∃ r, exec .statusPeriod s = .next { s with veh := { s.veh with status := some r, statusTimer := some 100 } } ∧
      r.override = s.veh.override ∧ r.call = s.call.state ∧ r.chimeState = (s.voice .chime).state ∧
      r.chimeEntries = (s.voice .chime).queue.length ∧ r.vehicleWaiting = s.voc.vehicle.length ∧
      r.freeReserve = 96 - pagesHeldBy .vehicle s.pool.clips ∧ r.stale = s.veh.stale ∧ r.refusal = s.veh.refusal ∧
      ∀ z, r.leading.get z = (s.zone z).leading.map (fun x => (x, classOf x))) ∧
  (∀ s r, s.port.op = .run → s.veh.status = some r →
    let bit : Bool → Nat := fun b => if b then 1 else 0
    let call := match r.call with | .idle => 0 | .ringing => 1 | .active => 2 | .held => 3
    let voice := match r.chimeState with
      | .idle => 0 | .starting => 1 | .waitingFill => 2 | .waitingZone => 3 | .playing => 4 | .gap => 5 | .retiring => 6
    let lead : Option (Source × ClaimClass) → Nat := fun x => match x with | none => 15 | some (a, c) => a.num + 16 * c.priority
    exec .statusSent s = .next { s with veh := { s.veh with
      status := none
      busOut := some ⟨s.veh.base + 8, false, false,
        [bit r.override + 2 * call + 8 * bit r.stale + 16 * voice + 128 * bit r.refusal.isSome,
          r.chimeEntries + 16 * r.vehicleWaiting, r.freeReserve, lead r.leading.cabin, lead r.leading.driver,
          lead r.leading.rearL, lead r.leading.rearR,
          match r.refusal with
          | none => 0
          | some x => (if 1 ≤ x.clip ∧ x.clip ≤ 63 then x.clip else 0) +
              64 * (match x.code with | .state => 1 | .inUse => 2 | .busy => 3 | _ => 0)].map (BitVec.ofNat 8)⟩ } }) ∧
  (∀ s c, s.port.op = .run → s.veh.chimeDone = some c →
    ∃ t k, exec .chimeDoneSent s = .next t ∧
      t.veh.busOut = some ⟨s.veh.base + 9, false, false, [BitVec.ofNat 8 c.clip, BitVec.ofNat 8 k]⟩ ∧
      (c.status = .played → k = 0) ∧ (c.status = .underrun → k = 1) ∧ (c.status = .expired → k = 2) ∧
      (c.status = .flushed → k = 3) ∧
      ClaimFrame { s with veh := { s.veh with busOut := t.veh.busOut } } t ∧
      (s.voc.vehicleWaiters = [] → t = { s with
        veh := { s.veh with busOut := t.veh.busOut, chimeDone := s.voc.vehicle.tail.head? }
        voc := { s.voc with vehicle := s.voc.vehicle.tail } })) ∧
  ∀ s, (s.veh.statusTimer ≠ some 0 → exec .statusPeriod s = .next s) ∧ (s.veh.status = none → exec .statusSent s = .next s) ∧
    (s.veh.chimeDone = none → exec .chimeDoneSent s = .next s)

/-- R159, R161, R174, R176, R179: ENTER files TELEM in every zone, a shadow claim in all but CABIN, forces the call to HELD where it is ACTIVE and saves its state, takes
the uplink for TELEM with the ALL set, and sets the CABIN CALL step to the emergency step, saving the old one; EXIT gives the step
and the uplink back, withdraws TELEM, and resumes a call that was ACTIVE, its CALL claims standing on the mode's zone and, for a driver call, as
a shadow claim in CABIN, or with DROP ends the call. Each raises OVERRIDE and delivers
VOLUME(CABIN, CALL) once where the step or, by a deferred take at the exit, its curve index has changed, whether or not the figure differs
(log 25); each does nothing where override is already as it asks. R58: at an exit each DEFERRED take is carried out, but CABIN's where the
call is ACTIVE again and the take changes the EQ preset. -/
def Obligations.OverrideEntersAndLeaves : Prop :=
  let once : State → State → Prop := fun s t => ∀ (i : Nat) k, s.wat.slots[i]? = some (some k) → k.quantity = .volume .cabin .call →
    t.wat.slots[i]? = some (some (if s.rend.volume.cabin.call = t.rend.volume.cabin.call ∧
        s.bank.current.cabin.callCurve = t.bank.current.cabin.callCurve then k
      else (evalWatch (t.volFigure .cabin .call) k).1))
  let carriedOut : State → State → Prop := fun s t => ∀ z,
    let due := s.bank.take.get z = .deferred ∧
      ¬ (z = .cabin ∧ t.call.state = .active ∧ s.bank.staged.cabin.eqPreset ≠ s.bank.current.cabin.eqPreset)
    (due → t.bank.current.get z = s.bank.staged.get z ∧ t.bank.take.get z = .idle) ∧
    (¬ due → t.bank.current.get z = s.bank.current.get z ∧ t.bank.take.get z = s.bank.take.get z)
  (∀ s, Serves s → s.veh.override = false →
    ∃ t, exec .overrideEnter s = .next t ∧
      CallFrame { s with veh := t.veh, rend := { s.rend with volume := t.rend.volume } } t ∧
      t.veh = { s.veh with override := true, savedStep := some s.rend.volume.cabin.call } ∧
      t.rend.volume = { s.rend.volume with cabin := { s.rend.volume.cabin with call := s.veh.step } } ∧
      t.bank = s.bank ∧ (∀ z, (t.claim z .telem).isSome = true) ∧
      (∀ z, (t.claim z .telem).map Claim.shadow = some (decide (z ≠ .cabin))) ∧
      (∀ z, (t.claim z .call).isSome = ((s.claim z .call).isSome && decide (s.call.state ≠ .active))) ∧ t.call.savedTag = some s.call.state ∧
      t.call.state = (if s.call.state = .active then .held else s.call.state) ∧ t.call.route = .telem ∧
      t.call.routeSet = .all ∧ t.call.echo.state = .converging ∧ t.port.flags.getLsbD 26 = true ∧ once s t) ∧
  (∀ s, s.veh.override = true → exec .overrideEnter s = .next s) ∧
  (∀ s, Serves s → s.veh.override = true →
    ∃ t, exec .overrideExitResume s = .next t ∧
      CallFrame { s with veh := t.veh, rend := { s.rend with volume := t.rend.volume } } t ∧
      t.veh = { s.veh with override := false, savedStep := none } ∧
      t.rend.volume = { s.rend.volume with cabin := { s.rend.volume.cabin with
        call := s.veh.savedStep.getD s.rend.volume.cabin.call } } ∧
      (∀ z, t.claim z .telem = none) ∧ t.call.savedTag = none ∧ t.port.flags.getLsbD 26 = true ∧ once s t ∧ carriedOut s t ∧
      (s.call.savedTag = some .active → s.call.state = .held →
        t.call.state = .active ∧ t.call.route = .call ∧ t.call.echo.state = .converging ∧
        (∀ z, (t.claim z .call).isSome = decide (z = s.call.mode ∨ (s.call.mode = .driver ∧ z = .cabin))) ∧
        ∀ z c, t.claim z .call = some c → c.shadow = decide (z ≠ s.call.mode)) ∧
      (s.call.savedTag ≠ some .active ∨ s.call.state ≠ .held →
        t.call.state = s.call.state ∧ t.call.route = .none ∧ t.call.echo.state = .off ∧
        ∀ z, (t.claim z .call).isSome = (s.claim z .call).isSome)) ∧
  (∀ s, Serves s → s.veh.override = true →
    ∃ t, exec .overrideExitDrop s = .next t ∧
      CallFrame { s with veh := t.veh, rend := { s.rend with volume := t.rend.volume } } t ∧
      t.veh = { s.veh with override := false, savedStep := none } ∧
      t.rend.volume = { s.rend.volume with cabin := { s.rend.volume.cabin with
        call := s.veh.savedStep.getD s.rend.volume.cabin.call } } ∧
      (∀ z, t.claim z .telem = none) ∧ t.call.savedTag = none ∧ t.call.ringClip = none ∧ t.call.state = .idle ∧
      t.call.route = .none ∧ t.call.echo.state = .off ∧ t.port.flags.getLsbD 26 = true ∧ once s t ∧ carriedOut s t) ∧
  ∀ s, s.veh.override = false → exec .overrideExitResume s = .next s ∧ exec .overrideExitDrop s = .next s

/-! ## Watches -/

/-- R178, R181, R182: WATCH.SET fills a slot with the record asked for, armed and with a count of 0, and refuses RANGE what R178
does not name; WATCH.CLEAR empties a slot. A fire raises WATCH(n); a TAKE on an IDLE zone, and a RELEASE on a HOLDING one, copies STAGED
into CURRENT and leaves IDLE, or waits DEFERRED in override or, in CABIN, during an ACTIVE call whose EQ preset it would change, and
in the other take states they do nothing (R57); nothing owed, nothing fires. That WATCH_FIRE carries out the fires that evaluations owe
is the model's choice (log 2). -/
def Obligations.WatchRequestsAndFires : Prop :=
  let waits : State → Zone → Prop := fun s z => s.veh.override = true ∨
    (z = .cabin ∧ s.call.state = .active ∧ s.bank.staged.cabin.eqPreset ≠ s.bank.current.cabin.eqPreset)
  (∀ s q n x y (t : Int) c hold mode a b, Serves s → n ≤ 15 → quantityOf x = some y → -32768 ≤ t → t ≤ 32767 → 1 ≤ hold →
    hold ≤ 255 → actionOf a = some b →
    let w : Watch := ⟨y, t, c, hold, mode, b, 0, true, none, none⟩
    Answers (.watchSet q n (some x) t (some c) hold (some mode) (some a)) s
      { s with wat := { s.wat with slots := s.wat.slots.set n (some w) } } 0xB0 q (.done (.watch (some w)))) ∧
  (∀ s q n x t c hold mode a, Serves s →
    (15 < n ∨ hold = 0 ∨ 255 < hold ∨ x = none ∨ c = none ∨ mode = none ∨ a = none ∨
      (∃ z k, x = some (.volume z k) ∧ (3 < z ∨ 2 < k)) ∨ (∃ z, (a = some (.take z) ∨ a = some (.release z)) ∧ 3 < z)) →
    Answers (.watchSet q n x t c hold mode a) s s 0xB0 q (.refused .range [])) ∧
  (∀ s q n, Serves s → n ≤ 15 →
    Answers (.watchClear q n) s { s with wat := { s.wat with slots := s.wat.slots.set n none } } 0xB1 q
      (.done (.watch none))) ∧
  (∀ s q n, Serves s → 15 < n → Answers (.watchClear q n) s s 0xB1 q (.refused .range [])) ∧
  (∀ s n l, s.port.op = .run → n ≤ 15 → s.wat.owed = (n, .notify) :: l →
    ∃ t, exec (.watchFire n) s = .next t ∧ t = { s with port := t.port, wat := { s.wat with owed := l } } ∧
      t.port.flags.getLsbD (27 + n) = true ∧ t.port.mask = s.port.mask ∧ t.port.lastReply = s.port.lastReply) ∧
  (∀ s n z l, s.port.op = .run → n ≤ 15 → s.wat.owed = (n, .take z) :: l → s.bank.take.get z = .idle →
    ∃ t, exec (.watchFire n) s = .next t ∧ CallFrame s t ∧ t.port.flags.getLsbD (27 + n) = true ∧
      (waits s z → t.bank = { s.bank with take := s.bank.take.set z .deferred }) ∧
      (¬ waits s z → t.bank = { s.bank with current := s.bank.current.set z (s.bank.staged.get z) })) ∧
  (∀ s n z l, s.port.op = .run → n ≤ 15 → s.wat.owed = (n, .release z) :: l → s.bank.take.get z = .holding →
    ∃ t, exec (.watchFire n) s = .next t ∧ CallFrame s t ∧ t.port.flags.getLsbD (27 + n) = true ∧
      (waits s z → t.bank = { s.bank with take := s.bank.take.set z .deferred }) ∧
      (¬ waits s z → t.bank = { s.bank with current := s.bank.current.set z (s.bank.staged.get z)
                                            take := s.bank.take.set z .idle })) ∧
  (∀ s n z l, s.port.op = .run → n ≤ 15 →
    (s.wat.owed = (n, .take z) :: l ∧ s.bank.take.get z ≠ .idle ∨
      s.wat.owed = (n, .release z) :: l ∧ s.bank.take.get z ≠ .holding) →
    ∃ t, exec (.watchFire n) s = .next t ∧ t = { s with port := t.port, wat := { s.wat with owed := l } } ∧
      t.port.flags.getLsbD (27 + n) = true) ∧
  ∀ s n, (∀ a, (n, a) ∉ s.wat.owed) → exec (.watchFire n) s = .next s

/-- R180, R181: a delivery evaluates every watch that names the quantity, and no other. The flags are those of the 16-bit
difference, and the conditions read as the comparisons of the last column of R180; a false result empties the count and arms, a
true one counts while armed and fires at the hold, and a fire of an EDGE watch disarms it. That a fire is owed until WATCH_FIRE
carries it out is the model's choice (log 2). -/
def Obligations.DeliveriesEvaluateWatches : Prop :=
  (∀ (w : Watches) q v (i : Nat) (x : Option Watch), w.slots[i]? = some x →
    (w.deliver q v).slots[i]? = some (match x with
      | none => none
      | some k => if k.quantity = q then some (evalWatch v k).1 else some k)) ∧
  (∀ (w : Watches) q v, ∃ l, (w.deliver q v).owed = w.owed ++ l ∧
    ∀ i a, (i, a) ∈ l ↔ ∃ k : Watch, w.slots[i]? = some (some k) ∧ k.quantity = q ∧ (evalWatch v k).2 = true ∧ k.action = a) ∧
  (∀ v (w : Watch), let r := condHolds w.cond v w.threshold
    let k := (evalWatch v w).1
    k.lastValue = some v ∧ k.lastResult = some r ∧ k.quantity = w.quantity ∧ k.threshold = w.threshold ∧ k.cond = w.cond ∧
    k.hold = w.hold ∧ k.mode = w.mode ∧ k.action = w.action ∧
    (r = false → k.count = 0 ∧ k.armed = true ∧ (evalWatch v w).2 = false) ∧
    (r = true → w.armed = false → k.count = w.count ∧ k.armed = false ∧ (evalWatch v w).2 = false) ∧
    (r = true → w.armed = true → w.count + 1 < w.hold → k.count = w.count + 1 ∧ k.armed = true ∧ (evalWatch v w).2 = false) ∧
    (r = true → w.armed = true → w.hold ≤ w.count + 1 → k.count = 0 ∧ (k.armed = true ↔ w.mode = .level) ∧
      (evalWatch v w).2 = true)) ∧
  ∀ v t : Int, -32768 ≤ v → v ≤ 32767 → -32768 ≤ t → t ≤ 32767 →
    let d := BitVec.ofInt 16 v - BitVec.ofInt 16 t
    let Z := decide (d = 0)
    let N := d.getLsbD 15
    let C := decide ((BitVec.ofInt 16 v).toNat < (BitVec.ofInt 16 t).toNat)
    let V := decide ((0 ≤ v ∧ t < 0 ∧ N = true) ∨ (v < 0 ∧ 0 ≤ t ∧ N = false))
    (condHolds .eq v t = Z ∧ (Z = true ↔ v = t)) ∧ (condHolds .ne v t = !Z) ∧
    (condHolds .lt v t = (N != V) ∧ ((N != V) = true ↔ v < t)) ∧ (condHolds .ge v t = (N == V) ∧ ((N == V) = true ↔ t ≤ v)) ∧
    (condHolds .gt v t = (!Z && (N == V)) ∧ ((!Z && (N == V)) = true ↔ t < v)) ∧
    (condHolds .le v t = (Z || (N != V)) ∧ ((Z || (N != V)) = true ↔ v ≤ t)) ∧
    condHolds .lo v t = C ∧ condHolds .hs v t = !C

/-! ## Reports -/

/-- R20, R43, R53, R79, R98, R117, R132, R135, R148, R166, R182, R192: the requests that report answer with what the part holds and
change nothing, but that STATION.READ with a reservation makes the reservation of the slot at its revision. STATION.LIST lists the
occupied slots from the first one on, in slot order, up to 16, and names the slot that comes next, if any. STATION.READ carries the record in
the bytes of R192, field by field; ZONE.LEVELS carries Vol, T, D and S and, for each channel of the zone in channel order, its number with
B, F, P, Q, L, G and A. What ZONE.LEVELS reports as
the duck term of a shadow claim and as the headphone channels' numbers, and VOICE.STATUS of an entry placed during a flush's fade and of a
timer that is stopped, are the model's choices (log 25); CALL.STATUS reports the U that the last frame formed (R165, log 7). -/
def Obligations.QueriesReportWhatIsHeld : Prop :=
  let fieldsOf : PathRec → PathReport := fun x =>
    ⟨x.state, x.role, x.station, x.phase, x.retry, x.fs, x.mp, x.adj, x.q, x.decoded⟩
  (∀ s q m z, Serves s → zoneOf m = some z →
    Answers (.zoneStatus q m) s s 0x12 q
      (.done (.zoneStatus ((s.zone z).claims.map (fun c => ⟨c.source, c.cls, c.state, c.shadow, c.yielding⟩)) (s.zone z).leading ((s.zone z).yieldTimer.getD 0) (s.zone z).entHeld)) ∧
    (∀ n src, sourceOf n = some src → Answers (.zoneLevels q m n) s s 0x15 q
      (.done (.levels (s.volTerm z src) ((s.rend.trims.get z).get src) (s.duckOf z src) (s.speedTerm z src)
        (s.rend.hush.get src) (s.levelLines z src 0 (s.bank.channels z))))) ∧
    Answers (.profileRead q m (some .staged)) s s 0x21 q (.done (.profile (s.bank.staged.get z) (s.bank.take.get z)
      (decide (s.bank.take.get z = .deferred ∧ s.veh.override = true))
      (decide (s.bank.take.get z = .deferred ∧ s.callWaits z = true)))) ∧
    Answers (.profileRead q m (some .current)) s s 0x21 q (.done (.profile (s.bank.current.get z) (s.bank.take.get z)
      (decide (s.bank.take.get z = .deferred ∧ s.veh.override = true))
      (decide (s.bank.take.get z = .deferred ∧ s.callWaits z = true))))) ∧
  (∀ (s : State) (z : Zone) (src : Source),
    let p := s.bank.current.get z
    let cab := s.bank.current.cabin
    let steps := s.rend.volume.get z
    let curve (index step : Nat) : Gain := if step = 0 then none else some ((s.bank.curves.getD index []).getD step 0)
    let lines := s.levelLines z src 0 (s.bank.channels z)
    s.bank.channels z = (match z with
      | .cabin => List.range 22
      | .driver => (List.range s.bank.map.length).filter (fun k => s.bank.map[k]?.map ChannelEntry.row == some .h)
      | _ => [0, 1]) ∧
    s.volTerm z src = (match src with
      | .mediaA | .mediaB | .radio1 | .radio2 | .traffic1 | .traffic2 => curve p.mediaCurve steps.media
      | .voicePrompt | .voiceTraffic | .voiceRing => curve p.voiceCurve steps.voice
      | .call | .telem => curve p.callCurve steps.call
      | .voiceChime => some 0) ∧
    s.duckOf z src = (match (s.claim z src).map Claim.state with
      | some .audible => some 0
      | some (.ducked d) => some (-(d : Int))
      | _ => none) ∧
    s.speedTerm z src = (if z = .cabin ∧ src ≠ .voiceChime ∧ src ≠ .telem then
      min (cab.smax : Int) (((cab.slope : Int) * max 0 ((s.veh.speed : Int) - cab.v0)) / 10) else 0) ∧
    lines.length = (s.bank.channels z).length ∧
    ∀ (i k : Nat) (e : ChannelEntry) (x : Thermal), (s.bank.channels z)[i]? = some k →
      (z.rear = false → s.bank.map[k]? = some e ∧ s.rend.thermal[k]? = some x) →
      let side : Side := if z.rear then (if k = 0 then .l else .r) else e.side
      lines[i]? = some {
        channel := k
        balance := if 0 < p.balance ∧ side = .l then -8 * p.balance else if p.balance < 0 ∧ side = .r then 8 * p.balance else 0
        fade := if z ≠ .cabin then 0 else if 0 < cab.fade ∧ (e.row = .r ∨ e.row = .x) then -8 * cab.fade
          else if cab.fade < 0 ∧ e.row = .f then 8 * cab.fade else 0
        trim := if z.rear then 0 else e.trim
        privacy := if z = .cabin ∧ (src = .mediaA ∨ src = .mediaB ∨ src = .radio1 ∨ src = .radio2) ∧ e.row = .r ∧
            ((s.entSource .rearL).isSome ∨ (s.entSource .rearR).isSome) then
          (if cab.privacy = 480 then none else some (-(cab.privacy : Int))) else some 0
        reduction := if z.rear then 0 else x.reduction
        target := s.target z src k
        applied := ((s.rend.mix.get z).get src)[i]?.bind MixPoint.applied }) ∧
  (∀ s q, Serves s →
    let e := s.call.echo
    Answers (.poolStatus q) s s 0x38 q (.done (.poolStatus s.pool.freePages.length (pagesHeldBy .vehicle s.pool.clips)
      (pagesHeldBy .control s.pool.clips + pagesHeldBy .capture s.pool.clips) (96 - pagesHeldBy .vehicle s.pool.clips)
      (s.pool.clips.filter (fun c => c.state == .free)).length s.pool.vehicleSlot s.pool.controlSlot s.pool.capturing
      s.pool.cursor)) ∧
    (∀ n, 1 ≤ n → n ≤ 63 → Answers (.poolClip q n) s s 0x39 q (.done (.clip
      ⟨(s.pool.clip n).state, (s.pool.clip n).owner, (s.pool.clip n).rate, (s.pool.clip n).pages.length,
        (s.pool.clip n).pages.length * 1024, (s.pool.clip n).fill, (s.pool.clip n).sealedLen, (s.pool.clip n).auto,
        (s.pool.clip n).use⟩))) ∧
    (∀ n v, voiceOf n = some v → ∃ r, Answers (.voiceStatus q n) s s 0x44 q (.done r) ∧
      r = .voiceStatus (s.voice v).state (decide ((s.voice v).state = .retiring) && (s.voice v).fade.isSome)
        ((s.waiters (onControl v)).contains (.voice v))
        (if (s.voice v).state = .idle then none else (s.voice v).queue.head?) (s.voice v).position (s.voice v).passes
        (s.voice v).first ((s.voice v).gap.getD 0) ((s.voice v).maxWait.getD 0) ((s.voice v).queue.tail.map Entry.clip)
        (if v = .chime then s.voc.vehicle.length else s.voc.control.length) (s.waiters (onControl v)).length) ∧
    Answers (.tunerStatus q) s s 0x55 q (.done (.tunerStatus (fieldsOf (s.path .p1)) (fieldsOf (s.path .p2)) s.radioQuality
      s.tun.wishL s.tun.wishR s.tun.flags (s.tun.check.map (fun k => ⟨k.tried, k.untried, k.reference⟩)) s.tun.holdCount)) ∧
    (∀ p, p < s.sta.presets.length → Answers (.stationPresetQuery q p true) s s 0x65 q (.done (.presets s.sta.presets))) ∧
    Answers (.trafficStatus q) s s 0x80 q (.done (.traffic (s.ann .p1) (s.ann .p2) s.traf.capture
      (match s.traf.capture with | .recording _ c => (s.pool.clip c).fill | _ => 0))) ∧
    Answers (.callStatus q) s s 0x98 q (.done (.callStatus s.call.state s.call.mode (micSetOf s.call.mode) s.call.downTrim
      s.call.upTrim s.call.ringClip s.call.savedTag s.call.route
      ⟨e.state, if e.state = .frozen then some e.prior else none, e.erle, e.tc, e.tt, e.timer, e.target, e.applied, e.doubleTalk,
        ⟨e.retained.front.isSome, e.retained.rearL.isSome, e.retained.rearR.isSome, e.retained.all.isSome⟩⟩ s.call.farActive
      (if (if s.call.route = .none then micSetOf s.call.mode else s.call.routeSet) = .all then some s.call.selected else none)
      s.call.noise)) ∧
    ∀ n, n ≤ 15 → Answers (.watchQuery q n) s s 0xB2 q (.done (.watch (s.wat.slots.getD n none)))) ∧
  (∀ s q n, Serves s → n ≤ 39 →
    let occupied := (List.range' n (s.sta.slots.length - n)).filterMap
      (fun i => (s.sta.recAt i).map (fun r => (⟨i, r.code, r.band, r.primary, r.name, r.preset⟩ : ListLine)))
    Answers (.stationList q n) s s 0x60 q
      (.done (.stationList (occupied.take 16) ((occupied.drop 16).head?.map ListLine.slot)))) ∧
  (∀ s q m n, Serves s →
    (3 < m → Answers (.zoneStatus q m) s s 0x12 q (.refused .range []) ∧ ∀ c, Answers (.profileRead q m c) s s 0x21 q
      (.refused .range [])) ∧
    (3 < m ∨ 11 < n → Answers (.zoneLevels q m n) s s 0x15 q (.refused .range [])) ∧
    (n = 0 ∨ 63 < n → Answers (.poolClip q n) s s 0x39 q (.refused .range [])) ∧
    (3 < n → Answers (.voiceStatus q n) s s 0x44 q (.refused .range [])) ∧
    (39 < n → Answers (.stationList q n) s s 0x60 q (.refused .range [])) ∧
    (15 < n → Answers (.watchQuery q n) s s 0xB2 q (.refused .range [])) ∧
    (∀ b, s.sta.slots.length ≤ n → Answers (.stationRead q n b) s s 0x61 q (.refused .range [])) ∧
    ∀ b v, s.sta.slots[n]? = some ⟨none, v⟩ → Answers (.stationRead q n b) s s 0x61 q (.refused .state [])) ∧
  (∀ s q n r v, Serves s → s.sta.slots[n]? = some ⟨some r, v⟩ →
    Answers (.stationRead q n false) s s 0x61 q (.done (.stationRecord (recordBytes n v r))) ∧
    Answers (.stationRead q n true) s { s with sta := { s.sta with reservation := some (n, v) } } 0x61 q
      (.done (.stationRecord (recordBytes n v r)))) ∧
  ∀ n (v : BitVec 16) (r : StationRec),
    recordBytes n v r =
      [0, BitVec.ofNat 8 n, v.extractLsb' 8 8, v.extractLsb' 0 8, BitVec.ofNat 8 (r.code / 256), BitVec.ofNat 8 r.code,
        (match r.band with | .fm => 0 | .am => 1),
        BitVec.ofNat 8 ((if r.tp then 1 else 0) + (if r.name.isSome then 2 else 0) + (if r.pty.isSome then 4 else 0) +
          (if r.preset.isSome then 8 else 0) + 16 * (match r.origin with | .scan => 0 | .tuned => 1 | .host => 2)),
        BitVec.ofNat 8 (r.pty.getD 0), BitVec.ofNat 8 (r.preset.getD 255), BitVec.ofNat 8 (r.age / 256), BitVec.ofNat 8 r.age,
        BitVec.ofNat 8 (r.name.getD []).length] ++
      (List.range 8).map (fun i => (r.name.getD []).getD i 0) ++ [BitVec.ofNat 8 r.freqs.length] ++
      r.freqs.flatMap (fun e => [BitVec.ofNat 8 (e.freq / 256), BitVec.ofNat 8 e.freq, BitVec.ofNat 8 e.q, BitVec.ofNat 8 (e.age / 256),
        BitVec.ofNat 8 e.age])
end

