-- ==== Sys2Proof/Laws/State.lean ====
section
/-! SUPPORT. What each block update of the state does to each field, and the reads of the per-zone, per-path, per-voice and per-source
containers after a write. -/

namespace Sys2Proof.Machine

/-! ## Channels of the amplifier ports -/

@[simp] theorem AudioOut.ofSpeakers_speakers (c l r : List (List Rat)) : (AudioOut.ofSpeakers c l r).speakers = c :=
  List.take_append_drop 11 c
@[simp] theorem AudioOut.ofSpeakers_phonesL (c l r : List (List Rat)) : (AudioOut.ofSpeakers c l r).phonesL = l := rfl
@[simp] theorem AudioOut.ofSpeakers_phonesR (c l r : List (List Rat)) : (AudioOut.ofSpeakers c l r).phonesR = r := rfl

/-! ## mapPort -/

@[simp] theorem State.mapPort_pending (s : State) (f : Port → Port) : (s.mapPort f).pending = s.pending := rfl
@[simp] theorem State.mapPort_port (s : State) (f : Port → Port) : (s.mapPort f).port = f s.port := rfl
@[simp] theorem State.mapPort_arb (s : State) (f : Port → Port) : (s.mapPort f).arb = s.arb := rfl
@[simp] theorem State.mapPort_rend (s : State) (f : Port → Port) : (s.mapPort f).rend = s.rend := rfl
@[simp] theorem State.mapPort_bank (s : State) (f : Port → Port) : (s.mapPort f).bank = s.bank := rfl
@[simp] theorem State.mapPort_pool (s : State) (f : Port → Port) : (s.mapPort f).pool = s.pool := rfl
@[simp] theorem State.mapPort_voc (s : State) (f : Port → Port) : (s.mapPort f).voc = s.voc := rfl
@[simp] theorem State.mapPort_tun (s : State) (f : Port → Port) : (s.mapPort f).tun = s.tun := rfl
@[simp] theorem State.mapPort_sta (s : State) (f : Port → Port) : (s.mapPort f).sta = s.sta := rfl
@[simp] theorem State.mapPort_scan (s : State) (f : Port → Port) : (s.mapPort f).scan = s.scan := rfl
@[simp] theorem State.mapPort_traf (s : State) (f : Port → Port) : (s.mapPort f).traf = s.traf := rfl
@[simp] theorem State.mapPort_call (s : State) (f : Port → Port) : (s.mapPort f).call = s.call := rfl
@[simp] theorem State.mapPort_veh (s : State) (f : Port → Port) : (s.mapPort f).veh = s.veh := rfl
@[simp] theorem State.mapPort_wat (s : State) (f : Port → Port) : (s.mapPort f).wat = s.wat := rfl
@[simp] theorem State.mapPort_free (s : State) (f : Port → Port) : (s.mapPort f).free = s.free := rfl

/-! ## mapArb -/

@[simp] theorem State.mapArb_pending (s : State) (f : Arbiter → Arbiter) : (s.mapArb f).pending = s.pending := rfl
@[simp] theorem State.mapArb_port (s : State) (f : Arbiter → Arbiter) : (s.mapArb f).port = s.port := rfl
@[simp] theorem State.mapArb_arb (s : State) (f : Arbiter → Arbiter) : (s.mapArb f).arb = f s.arb := rfl
@[simp] theorem State.mapArb_rend (s : State) (f : Arbiter → Arbiter) : (s.mapArb f).rend = s.rend := rfl
@[simp] theorem State.mapArb_bank (s : State) (f : Arbiter → Arbiter) : (s.mapArb f).bank = s.bank := rfl
@[simp] theorem State.mapArb_pool (s : State) (f : Arbiter → Arbiter) : (s.mapArb f).pool = s.pool := rfl
@[simp] theorem State.mapArb_voc (s : State) (f : Arbiter → Arbiter) : (s.mapArb f).voc = s.voc := rfl
@[simp] theorem State.mapArb_tun (s : State) (f : Arbiter → Arbiter) : (s.mapArb f).tun = s.tun := rfl
@[simp] theorem State.mapArb_sta (s : State) (f : Arbiter → Arbiter) : (s.mapArb f).sta = s.sta := rfl
@[simp] theorem State.mapArb_scan (s : State) (f : Arbiter → Arbiter) : (s.mapArb f).scan = s.scan := rfl
@[simp] theorem State.mapArb_traf (s : State) (f : Arbiter → Arbiter) : (s.mapArb f).traf = s.traf := rfl
@[simp] theorem State.mapArb_call (s : State) (f : Arbiter → Arbiter) : (s.mapArb f).call = s.call := rfl
@[simp] theorem State.mapArb_veh (s : State) (f : Arbiter → Arbiter) : (s.mapArb f).veh = s.veh := rfl
@[simp] theorem State.mapArb_wat (s : State) (f : Arbiter → Arbiter) : (s.mapArb f).wat = s.wat := rfl
@[simp] theorem State.mapArb_free (s : State) (f : Arbiter → Arbiter) : (s.mapArb f).free = s.free := rfl

/-! ## mapRend -/

@[simp] theorem State.mapRend_pending (s : State) (f : Renderer → Renderer) : (s.mapRend f).pending = s.pending := rfl
@[simp] theorem State.mapRend_port (s : State) (f : Renderer → Renderer) : (s.mapRend f).port = s.port := rfl
@[simp] theorem State.mapRend_arb (s : State) (f : Renderer → Renderer) : (s.mapRend f).arb = s.arb := rfl
@[simp] theorem State.mapRend_rend (s : State) (f : Renderer → Renderer) : (s.mapRend f).rend = f s.rend := rfl
@[simp] theorem State.mapRend_bank (s : State) (f : Renderer → Renderer) : (s.mapRend f).bank = s.bank := rfl
@[simp] theorem State.mapRend_pool (s : State) (f : Renderer → Renderer) : (s.mapRend f).pool = s.pool := rfl
@[simp] theorem State.mapRend_voc (s : State) (f : Renderer → Renderer) : (s.mapRend f).voc = s.voc := rfl
@[simp] theorem State.mapRend_tun (s : State) (f : Renderer → Renderer) : (s.mapRend f).tun = s.tun := rfl
@[simp] theorem State.mapRend_sta (s : State) (f : Renderer → Renderer) : (s.mapRend f).sta = s.sta := rfl
@[simp] theorem State.mapRend_scan (s : State) (f : Renderer → Renderer) : (s.mapRend f).scan = s.scan := rfl
@[simp] theorem State.mapRend_traf (s : State) (f : Renderer → Renderer) : (s.mapRend f).traf = s.traf := rfl
@[simp] theorem State.mapRend_call (s : State) (f : Renderer → Renderer) : (s.mapRend f).call = s.call := rfl
@[simp] theorem State.mapRend_veh (s : State) (f : Renderer → Renderer) : (s.mapRend f).veh = s.veh := rfl
@[simp] theorem State.mapRend_wat (s : State) (f : Renderer → Renderer) : (s.mapRend f).wat = s.wat := rfl
@[simp] theorem State.mapRend_free (s : State) (f : Renderer → Renderer) : (s.mapRend f).free = s.free := rfl

/-! ## mapBank -/

@[simp] theorem State.mapBank_pending (s : State) (f : Bank → Bank) : (s.mapBank f).pending = s.pending := rfl
@[simp] theorem State.mapBank_port (s : State) (f : Bank → Bank) : (s.mapBank f).port = s.port := rfl
@[simp] theorem State.mapBank_arb (s : State) (f : Bank → Bank) : (s.mapBank f).arb = s.arb := rfl
@[simp] theorem State.mapBank_rend (s : State) (f : Bank → Bank) : (s.mapBank f).rend = s.rend := rfl
@[simp] theorem State.mapBank_bank (s : State) (f : Bank → Bank) : (s.mapBank f).bank = f s.bank := rfl
@[simp] theorem State.mapBank_pool (s : State) (f : Bank → Bank) : (s.mapBank f).pool = s.pool := rfl
@[simp] theorem State.mapBank_voc (s : State) (f : Bank → Bank) : (s.mapBank f).voc = s.voc := rfl
@[simp] theorem State.mapBank_tun (s : State) (f : Bank → Bank) : (s.mapBank f).tun = s.tun := rfl
@[simp] theorem State.mapBank_sta (s : State) (f : Bank → Bank) : (s.mapBank f).sta = s.sta := rfl
@[simp] theorem State.mapBank_scan (s : State) (f : Bank → Bank) : (s.mapBank f).scan = s.scan := rfl
@[simp] theorem State.mapBank_traf (s : State) (f : Bank → Bank) : (s.mapBank f).traf = s.traf := rfl
@[simp] theorem State.mapBank_call (s : State) (f : Bank → Bank) : (s.mapBank f).call = s.call := rfl
@[simp] theorem State.mapBank_veh (s : State) (f : Bank → Bank) : (s.mapBank f).veh = s.veh := rfl
@[simp] theorem State.mapBank_wat (s : State) (f : Bank → Bank) : (s.mapBank f).wat = s.wat := rfl
@[simp] theorem State.mapBank_free (s : State) (f : Bank → Bank) : (s.mapBank f).free = s.free := rfl

/-! ## mapPool -/

@[simp] theorem State.mapPool_pending (s : State) (f : Pool → Pool) : (s.mapPool f).pending = s.pending := rfl
@[simp] theorem State.mapPool_port (s : State) (f : Pool → Pool) : (s.mapPool f).port = s.port := rfl
@[simp] theorem State.mapPool_arb (s : State) (f : Pool → Pool) : (s.mapPool f).arb = s.arb := rfl
@[simp] theorem State.mapPool_rend (s : State) (f : Pool → Pool) : (s.mapPool f).rend = s.rend := rfl
@[simp] theorem State.mapPool_bank (s : State) (f : Pool → Pool) : (s.mapPool f).bank = s.bank := rfl
@[simp] theorem State.mapPool_pool (s : State) (f : Pool → Pool) : (s.mapPool f).pool = f s.pool := rfl
@[simp] theorem State.mapPool_voc (s : State) (f : Pool → Pool) : (s.mapPool f).voc = s.voc := rfl
@[simp] theorem State.mapPool_tun (s : State) (f : Pool → Pool) : (s.mapPool f).tun = s.tun := rfl
@[simp] theorem State.mapPool_sta (s : State) (f : Pool → Pool) : (s.mapPool f).sta = s.sta := rfl
@[simp] theorem State.mapPool_scan (s : State) (f : Pool → Pool) : (s.mapPool f).scan = s.scan := rfl
@[simp] theorem State.mapPool_traf (s : State) (f : Pool → Pool) : (s.mapPool f).traf = s.traf := rfl
@[simp] theorem State.mapPool_call (s : State) (f : Pool → Pool) : (s.mapPool f).call = s.call := rfl
@[simp] theorem State.mapPool_veh (s : State) (f : Pool → Pool) : (s.mapPool f).veh = s.veh := rfl
@[simp] theorem State.mapPool_wat (s : State) (f : Pool → Pool) : (s.mapPool f).wat = s.wat := rfl
@[simp] theorem State.mapPool_free (s : State) (f : Pool → Pool) : (s.mapPool f).free = s.free := rfl

/-! ## mapVoc -/

@[simp] theorem State.mapVoc_pending (s : State) (f : Voices → Voices) : (s.mapVoc f).pending = s.pending := rfl
@[simp] theorem State.mapVoc_port (s : State) (f : Voices → Voices) : (s.mapVoc f).port = s.port := rfl
@[simp] theorem State.mapVoc_arb (s : State) (f : Voices → Voices) : (s.mapVoc f).arb = s.arb := rfl
@[simp] theorem State.mapVoc_rend (s : State) (f : Voices → Voices) : (s.mapVoc f).rend = s.rend := rfl
@[simp] theorem State.mapVoc_bank (s : State) (f : Voices → Voices) : (s.mapVoc f).bank = s.bank := rfl
@[simp] theorem State.mapVoc_pool (s : State) (f : Voices → Voices) : (s.mapVoc f).pool = s.pool := rfl
@[simp] theorem State.mapVoc_voc (s : State) (f : Voices → Voices) : (s.mapVoc f).voc = f s.voc := rfl
@[simp] theorem State.mapVoc_tun (s : State) (f : Voices → Voices) : (s.mapVoc f).tun = s.tun := rfl
@[simp] theorem State.mapVoc_sta (s : State) (f : Voices → Voices) : (s.mapVoc f).sta = s.sta := rfl
@[simp] theorem State.mapVoc_scan (s : State) (f : Voices → Voices) : (s.mapVoc f).scan = s.scan := rfl
@[simp] theorem State.mapVoc_traf (s : State) (f : Voices → Voices) : (s.mapVoc f).traf = s.traf := rfl
@[simp] theorem State.mapVoc_call (s : State) (f : Voices → Voices) : (s.mapVoc f).call = s.call := rfl
@[simp] theorem State.mapVoc_veh (s : State) (f : Voices → Voices) : (s.mapVoc f).veh = s.veh := rfl
@[simp] theorem State.mapVoc_wat (s : State) (f : Voices → Voices) : (s.mapVoc f).wat = s.wat := rfl
@[simp] theorem State.mapVoc_free (s : State) (f : Voices → Voices) : (s.mapVoc f).free = s.free := rfl

/-! ## mapTun -/

@[simp] theorem State.mapTun_pending (s : State) (f : Tuner → Tuner) : (s.mapTun f).pending = s.pending := rfl
@[simp] theorem State.mapTun_port (s : State) (f : Tuner → Tuner) : (s.mapTun f).port = s.port := rfl
@[simp] theorem State.mapTun_arb (s : State) (f : Tuner → Tuner) : (s.mapTun f).arb = s.arb := rfl
@[simp] theorem State.mapTun_rend (s : State) (f : Tuner → Tuner) : (s.mapTun f).rend = s.rend := rfl
@[simp] theorem State.mapTun_bank (s : State) (f : Tuner → Tuner) : (s.mapTun f).bank = s.bank := rfl
@[simp] theorem State.mapTun_pool (s : State) (f : Tuner → Tuner) : (s.mapTun f).pool = s.pool := rfl
@[simp] theorem State.mapTun_voc (s : State) (f : Tuner → Tuner) : (s.mapTun f).voc = s.voc := rfl
@[simp] theorem State.mapTun_tun (s : State) (f : Tuner → Tuner) : (s.mapTun f).tun = f s.tun := rfl
@[simp] theorem State.mapTun_sta (s : State) (f : Tuner → Tuner) : (s.mapTun f).sta = s.sta := rfl
@[simp] theorem State.mapTun_scan (s : State) (f : Tuner → Tuner) : (s.mapTun f).scan = s.scan := rfl
@[simp] theorem State.mapTun_traf (s : State) (f : Tuner → Tuner) : (s.mapTun f).traf = s.traf := rfl
@[simp] theorem State.mapTun_call (s : State) (f : Tuner → Tuner) : (s.mapTun f).call = s.call := rfl
@[simp] theorem State.mapTun_veh (s : State) (f : Tuner → Tuner) : (s.mapTun f).veh = s.veh := rfl
@[simp] theorem State.mapTun_wat (s : State) (f : Tuner → Tuner) : (s.mapTun f).wat = s.wat := rfl
@[simp] theorem State.mapTun_free (s : State) (f : Tuner → Tuner) : (s.mapTun f).free = s.free := rfl

/-! ## mapSta -/

@[simp] theorem State.mapSta_pending (s : State) (f : Table → Table) : (s.mapSta f).pending = s.pending := rfl
@[simp] theorem State.mapSta_port (s : State) (f : Table → Table) : (s.mapSta f).port = s.port := rfl
@[simp] theorem State.mapSta_arb (s : State) (f : Table → Table) : (s.mapSta f).arb = s.arb := rfl
@[simp] theorem State.mapSta_rend (s : State) (f : Table → Table) : (s.mapSta f).rend = s.rend := rfl
@[simp] theorem State.mapSta_bank (s : State) (f : Table → Table) : (s.mapSta f).bank = s.bank := rfl
@[simp] theorem State.mapSta_pool (s : State) (f : Table → Table) : (s.mapSta f).pool = s.pool := rfl
@[simp] theorem State.mapSta_voc (s : State) (f : Table → Table) : (s.mapSta f).voc = s.voc := rfl
@[simp] theorem State.mapSta_tun (s : State) (f : Table → Table) : (s.mapSta f).tun = s.tun := rfl
@[simp] theorem State.mapSta_sta (s : State) (f : Table → Table) : (s.mapSta f).sta = f s.sta := rfl
@[simp] theorem State.mapSta_scan (s : State) (f : Table → Table) : (s.mapSta f).scan = s.scan := rfl
@[simp] theorem State.mapSta_traf (s : State) (f : Table → Table) : (s.mapSta f).traf = s.traf := rfl
@[simp] theorem State.mapSta_call (s : State) (f : Table → Table) : (s.mapSta f).call = s.call := rfl
@[simp] theorem State.mapSta_veh (s : State) (f : Table → Table) : (s.mapSta f).veh = s.veh := rfl
@[simp] theorem State.mapSta_wat (s : State) (f : Table → Table) : (s.mapSta f).wat = s.wat := rfl
@[simp] theorem State.mapSta_free (s : State) (f : Table → Table) : (s.mapSta f).free = s.free := rfl

/-! ## mapScan -/

@[simp] theorem State.mapScan_pending (s : State) (f : Scan → Scan) : (s.mapScan f).pending = s.pending := rfl
@[simp] theorem State.mapScan_port (s : State) (f : Scan → Scan) : (s.mapScan f).port = s.port := rfl
@[simp] theorem State.mapScan_arb (s : State) (f : Scan → Scan) : (s.mapScan f).arb = s.arb := rfl
@[simp] theorem State.mapScan_rend (s : State) (f : Scan → Scan) : (s.mapScan f).rend = s.rend := rfl
@[simp] theorem State.mapScan_bank (s : State) (f : Scan → Scan) : (s.mapScan f).bank = s.bank := rfl
@[simp] theorem State.mapScan_pool (s : State) (f : Scan → Scan) : (s.mapScan f).pool = s.pool := rfl
@[simp] theorem State.mapScan_voc (s : State) (f : Scan → Scan) : (s.mapScan f).voc = s.voc := rfl
@[simp] theorem State.mapScan_tun (s : State) (f : Scan → Scan) : (s.mapScan f).tun = s.tun := rfl
@[simp] theorem State.mapScan_sta (s : State) (f : Scan → Scan) : (s.mapScan f).sta = s.sta := rfl
@[simp] theorem State.mapScan_scan (s : State) (f : Scan → Scan) : (s.mapScan f).scan = f s.scan := rfl
@[simp] theorem State.mapScan_traf (s : State) (f : Scan → Scan) : (s.mapScan f).traf = s.traf := rfl
@[simp] theorem State.mapScan_call (s : State) (f : Scan → Scan) : (s.mapScan f).call = s.call := rfl
@[simp] theorem State.mapScan_veh (s : State) (f : Scan → Scan) : (s.mapScan f).veh = s.veh := rfl
@[simp] theorem State.mapScan_wat (s : State) (f : Scan → Scan) : (s.mapScan f).wat = s.wat := rfl
@[simp] theorem State.mapScan_free (s : State) (f : Scan → Scan) : (s.mapScan f).free = s.free := rfl

/-! ## mapTraf -/

@[simp] theorem State.mapTraf_pending (s : State) (f : Traffic → Traffic) : (s.mapTraf f).pending = s.pending := rfl
@[simp] theorem State.mapTraf_port (s : State) (f : Traffic → Traffic) : (s.mapTraf f).port = s.port := rfl
@[simp] theorem State.mapTraf_arb (s : State) (f : Traffic → Traffic) : (s.mapTraf f).arb = s.arb := rfl
@[simp] theorem State.mapTraf_rend (s : State) (f : Traffic → Traffic) : (s.mapTraf f).rend = s.rend := rfl
@[simp] theorem State.mapTraf_bank (s : State) (f : Traffic → Traffic) : (s.mapTraf f).bank = s.bank := rfl
@[simp] theorem State.mapTraf_pool (s : State) (f : Traffic → Traffic) : (s.mapTraf f).pool = s.pool := rfl
@[simp] theorem State.mapTraf_voc (s : State) (f : Traffic → Traffic) : (s.mapTraf f).voc = s.voc := rfl
@[simp] theorem State.mapTraf_tun (s : State) (f : Traffic → Traffic) : (s.mapTraf f).tun = s.tun := rfl
@[simp] theorem State.mapTraf_sta (s : State) (f : Traffic → Traffic) : (s.mapTraf f).sta = s.sta := rfl
@[simp] theorem State.mapTraf_scan (s : State) (f : Traffic → Traffic) : (s.mapTraf f).scan = s.scan := rfl
@[simp] theorem State.mapTraf_traf (s : State) (f : Traffic → Traffic) : (s.mapTraf f).traf = f s.traf := rfl
@[simp] theorem State.mapTraf_call (s : State) (f : Traffic → Traffic) : (s.mapTraf f).call = s.call := rfl
@[simp] theorem State.mapTraf_veh (s : State) (f : Traffic → Traffic) : (s.mapTraf f).veh = s.veh := rfl
@[simp] theorem State.mapTraf_wat (s : State) (f : Traffic → Traffic) : (s.mapTraf f).wat = s.wat := rfl
@[simp] theorem State.mapTraf_free (s : State) (f : Traffic → Traffic) : (s.mapTraf f).free = s.free := rfl

/-! ## mapCall -/

@[simp] theorem State.mapCall_pending (s : State) (f : Call → Call) : (s.mapCall f).pending = s.pending := rfl
@[simp] theorem State.mapCall_port (s : State) (f : Call → Call) : (s.mapCall f).port = s.port := rfl
@[simp] theorem State.mapCall_arb (s : State) (f : Call → Call) : (s.mapCall f).arb = s.arb := rfl
@[simp] theorem State.mapCall_rend (s : State) (f : Call → Call) : (s.mapCall f).rend = s.rend := rfl
@[simp] theorem State.mapCall_bank (s : State) (f : Call → Call) : (s.mapCall f).bank = s.bank := rfl
@[simp] theorem State.mapCall_pool (s : State) (f : Call → Call) : (s.mapCall f).pool = s.pool := rfl
@[simp] theorem State.mapCall_voc (s : State) (f : Call → Call) : (s.mapCall f).voc = s.voc := rfl
@[simp] theorem State.mapCall_tun (s : State) (f : Call → Call) : (s.mapCall f).tun = s.tun := rfl
@[simp] theorem State.mapCall_sta (s : State) (f : Call → Call) : (s.mapCall f).sta = s.sta := rfl
@[simp] theorem State.mapCall_scan (s : State) (f : Call → Call) : (s.mapCall f).scan = s.scan := rfl
@[simp] theorem State.mapCall_traf (s : State) (f : Call → Call) : (s.mapCall f).traf = s.traf := rfl
@[simp] theorem State.mapCall_call (s : State) (f : Call → Call) : (s.mapCall f).call = f s.call := rfl
@[simp] theorem State.mapCall_veh (s : State) (f : Call → Call) : (s.mapCall f).veh = s.veh := rfl
@[simp] theorem State.mapCall_wat (s : State) (f : Call → Call) : (s.mapCall f).wat = s.wat := rfl
@[simp] theorem State.mapCall_free (s : State) (f : Call → Call) : (s.mapCall f).free = s.free := rfl

/-! ## mapVeh -/

@[simp] theorem State.mapVeh_pending (s : State) (f : Vehicle → Vehicle) : (s.mapVeh f).pending = s.pending := rfl
@[simp] theorem State.mapVeh_port (s : State) (f : Vehicle → Vehicle) : (s.mapVeh f).port = s.port := rfl
@[simp] theorem State.mapVeh_arb (s : State) (f : Vehicle → Vehicle) : (s.mapVeh f).arb = s.arb := rfl
@[simp] theorem State.mapVeh_rend (s : State) (f : Vehicle → Vehicle) : (s.mapVeh f).rend = s.rend := rfl
@[simp] theorem State.mapVeh_bank (s : State) (f : Vehicle → Vehicle) : (s.mapVeh f).bank = s.bank := rfl
@[simp] theorem State.mapVeh_pool (s : State) (f : Vehicle → Vehicle) : (s.mapVeh f).pool = s.pool := rfl
@[simp] theorem State.mapVeh_voc (s : State) (f : Vehicle → Vehicle) : (s.mapVeh f).voc = s.voc := rfl
@[simp] theorem State.mapVeh_tun (s : State) (f : Vehicle → Vehicle) : (s.mapVeh f).tun = s.tun := rfl
@[simp] theorem State.mapVeh_sta (s : State) (f : Vehicle → Vehicle) : (s.mapVeh f).sta = s.sta := rfl
@[simp] theorem State.mapVeh_scan (s : State) (f : Vehicle → Vehicle) : (s.mapVeh f).scan = s.scan := rfl
@[simp] theorem State.mapVeh_traf (s : State) (f : Vehicle → Vehicle) : (s.mapVeh f).traf = s.traf := rfl
@[simp] theorem State.mapVeh_call (s : State) (f : Vehicle → Vehicle) : (s.mapVeh f).call = s.call := rfl
@[simp] theorem State.mapVeh_veh (s : State) (f : Vehicle → Vehicle) : (s.mapVeh f).veh = f s.veh := rfl
@[simp] theorem State.mapVeh_wat (s : State) (f : Vehicle → Vehicle) : (s.mapVeh f).wat = s.wat := rfl
@[simp] theorem State.mapVeh_free (s : State) (f : Vehicle → Vehicle) : (s.mapVeh f).free = s.free := rfl

/-! ## mapWat -/

@[simp] theorem State.mapWat_pending (s : State) (f : Watches → Watches) : (s.mapWat f).pending = s.pending := rfl
@[simp] theorem State.mapWat_port (s : State) (f : Watches → Watches) : (s.mapWat f).port = s.port := rfl
@[simp] theorem State.mapWat_arb (s : State) (f : Watches → Watches) : (s.mapWat f).arb = s.arb := rfl
@[simp] theorem State.mapWat_rend (s : State) (f : Watches → Watches) : (s.mapWat f).rend = s.rend := rfl
@[simp] theorem State.mapWat_bank (s : State) (f : Watches → Watches) : (s.mapWat f).bank = s.bank := rfl
@[simp] theorem State.mapWat_pool (s : State) (f : Watches → Watches) : (s.mapWat f).pool = s.pool := rfl
@[simp] theorem State.mapWat_voc (s : State) (f : Watches → Watches) : (s.mapWat f).voc = s.voc := rfl
@[simp] theorem State.mapWat_tun (s : State) (f : Watches → Watches) : (s.mapWat f).tun = s.tun := rfl
@[simp] theorem State.mapWat_sta (s : State) (f : Watches → Watches) : (s.mapWat f).sta = s.sta := rfl
@[simp] theorem State.mapWat_scan (s : State) (f : Watches → Watches) : (s.mapWat f).scan = s.scan := rfl
@[simp] theorem State.mapWat_traf (s : State) (f : Watches → Watches) : (s.mapWat f).traf = s.traf := rfl
@[simp] theorem State.mapWat_call (s : State) (f : Watches → Watches) : (s.mapWat f).call = s.call := rfl
@[simp] theorem State.mapWat_veh (s : State) (f : Watches → Watches) : (s.mapWat f).veh = s.veh := rfl
@[simp] theorem State.mapWat_wat (s : State) (f : Watches → Watches) : (s.mapWat f).wat = f s.wat := rfl
@[simp] theorem State.mapWat_free (s : State) (f : Watches → Watches) : (s.mapWat f).free = s.free := rfl

/-! ## spendFree -/

@[simp] theorem State.spendFree_pending (s : State) : s.spendFree.pending = s.pending := rfl
@[simp] theorem State.spendFree_port (s : State) : s.spendFree.port = s.port := rfl
@[simp] theorem State.spendFree_arb (s : State) : s.spendFree.arb = s.arb := rfl
@[simp] theorem State.spendFree_rend (s : State) : s.spendFree.rend = s.rend := rfl
@[simp] theorem State.spendFree_bank (s : State) : s.spendFree.bank = s.bank := rfl
@[simp] theorem State.spendFree_pool (s : State) : s.spendFree.pool = s.pool := rfl
@[simp] theorem State.spendFree_voc (s : State) : s.spendFree.voc = s.voc := rfl
@[simp] theorem State.spendFree_tun (s : State) : s.spendFree.tun = s.tun := rfl
@[simp] theorem State.spendFree_sta (s : State) : s.spendFree.sta = s.sta := rfl
@[simp] theorem State.spendFree_scan (s : State) : s.spendFree.scan = s.scan := rfl
@[simp] theorem State.spendFree_traf (s : State) : s.spendFree.traf = s.traf := rfl
@[simp] theorem State.spendFree_call (s : State) : s.spendFree.call = s.call := rfl
@[simp] theorem State.spendFree_veh (s : State) : s.spendFree.veh = s.veh := rfl
@[simp] theorem State.spendFree_wat (s : State) : s.spendFree.wat = s.wat := rfl
@[simp] theorem State.spendFree_free (s : State) : s.spendFree.free = s.free + 1 := rfl

end Sys2Proof.Machine

namespace Sys2Proof

/-! ## Containers -/

@[simp] theorem PerZone.get_set_same {α : Type} (p : PerZone α) (i : Zone) (a : α) : (p.set i a).get i = a := by cases i <;> rfl

theorem PerZone.get_set_ne {α : Type} (p : PerZone α) {i j : Zone} (a : α) (h : i ≠ j) : (p.set i a).get j = p.get j := by
  cases i <;> cases j <;> first | rfl | exact absurd rfl h

@[simp] theorem PerPath.get_set_same {α : Type} (p : PerPath α) (i : Path) (a : α) : (p.set i a).get i = a := by cases i <;> rfl

theorem PerPath.get_set_ne {α : Type} (p : PerPath α) {i j : Path} (a : α) (h : i ≠ j) : (p.set i a).get j = p.get j := by
  cases i <;> cases j <;> first | rfl | exact absurd rfl h

@[simp] theorem PerVoice.get_set_same {α : Type} (p : PerVoice α) (i : Voice) (a : α) : (p.set i a).get i = a := by cases i <;> rfl

theorem PerVoice.get_set_ne {α : Type} (p : PerVoice α) {i j : Voice} (a : α) (h : i ≠ j) : (p.set i a).get j = p.get j := by
  cases i <;> cases j <;> first | rfl | exact absurd rfl h

@[simp] theorem PerSource.get_set_same {α : Type} (p : PerSource α) (i : Source) (a : α) : (p.set i a).get i = a := by cases i <;> rfl

theorem PerSource.get_set_ne {α : Type} (p : PerSource α) {i j : Source} (a : α) (h : i ≠ j) : (p.set i a).get j = p.get j := by
  cases i <;> cases j <;> first | rfl | exact absurd rfl h

@[simp] theorem PerMicSet.get_set_same {α : Type} (p : PerMicSet α) (i : MicSet) (a : α) : (p.set i a).get i = a := by cases i <;> rfl

theorem PerMicSet.get_set_ne {α : Type} (p : PerMicSet α) {i j : MicSet} (a : α) (h : i ≠ j) : (p.set i a).get j = p.get j := by
  cases i <;> cases j <;> first | rfl | exact absurd rfl h

@[simp] theorem PerKind.get_set_same {α : Type} (p : PerKind α) (i : Kind) (a : α) : (p.set i a).get i = a := by cases i <;> rfl

theorem PerKind.get_set_ne {α : Type} (p : PerKind α) {i j : Kind} (a : α) (h : i ≠ j) : (p.set i a).get j = p.get j := by
  cases i <;> cases j <;> first | rfl | exact absurd rfl h

@[simp] theorem PerZone.get_all {α : Type} (a : α) (z : Zone) : (PerZone.all a).get z = a := by cases z <;> rfl

@[simp] theorem PerSource.get_all {α : Type} (a : α) (i : Source) : (PerSource.all a).get i = a := by cases i <;> rfl

@[simp] theorem PerSource.get_ofFn {α : Type} (f : Source → α) (i : Source) : (PerSource.ofFn f).get i = f i := by
  cases i <;> rfl

end Sys2Proof
end

