-- ==== Sys2Proof/Laws/Frames.lean ====
section
/-! SUPPORT. One frame lemma for each operation of the arbiter, the pool, the voices and the traffic monitor: what it leaves as it
was. A frame is a conjunction of equations, so that each lemma gives simp one rule for each field. -/

namespace Sys2Proof.Machine

set_option linter.unusedTactic false
set_option linter.unnecessarySeqFocus false

theorem deliverTo_length (q : Quantity) (v : Int) (l : List (Option Watch)) (n : Nat) :
    (deliverTo q v n l).1.length = l.length := by
  induction l generalizing n with
  | nil => rfl
  | cons w ws ih =>
    cases w with
    | none => simp [deliverTo, ih]
    | some w => by_cases h : w.quantity = q <;> simp [deliverTo, h, ih]

@[simp] theorem Watches.deliver_length (w : Watches) (q : Quantity) (v : Int) :
    (w.deliver q v).slots.length = w.slots.length := by
  simp [Watches.deliver, deliverTo_length]

/-- R185: the flags after a raise. -/
theorem Port.raise_flags (p : Port) (n : Notice) :
    (p.raise n).flags = if p.flags.getLsbD n.num then p.flags else p.flags ||| flagBit n.num := by
  unfold Port.raise Port.buildNotice Port.refresh
  dsimp only
  (repeat' split) <;> simp_all

theorem Port.raise_sets (p : Port) (n : Notice) (h : n.num < 64) : (p.raise n).flags.getLsbD n.num = true := by
  rw [Port.raise_flags]
  split
  · assumption
  · rw [flagBit, BitVec.getLsbD_or, BitVec.getLsbD_ofNat, Nat.testBit_two_pow_self, decide_eq_true h]
    simp

/-- What a raise leaves of the port. -/
@[simp] theorem Port.raise_frame (p : Port) (n : Notice) :
    (p.raise n).op = p.op ∧ (p.raise n).lastReset = p.lastReset ∧ (p.raise n).resetPending = p.resetPending ∧
    (p.raise n).rx = p.rx ∧ (p.raise n).held = p.held ∧ (p.raise n).mask = p.mask ∧ (p.raise n).assembly = p.assembly ∧
    (p.raise n).lastReply = p.lastReply ∧ (p.raise n).lineOut = p.lineOut ∧
    (p.raise n).tx.countP TxFrame.isReply = p.tx.countP TxFrame.isReply := by
  have h : ∀ l, TxFrame.isReply ∘ TxFrame.relist l = TxFrame.isReply := by
    intro l; funext f; cases f <;> rfl
  unfold Port.raise Port.buildNotice Port.refresh; dsimp only
  (repeat' split) <;> simp [List.countP_map, h, TxFrame.isReply]

@[simp] theorem Renderer.mapMix_frame (r : Renderer) (z : Zone) (src : Source) (f : MixPoint → MixPoint) :
    (r.mapMix z src f).volume = r.volume ∧ (r.mapMix z src f).trims = r.trims ∧ (r.mapMix z src f).thermal = r.thermal ∧
    (r.mapMix z src f).out = r.out ∧ (r.mapMix z src f).uplink = r.uplink ∧ (r.mapMix z src f).telemUplink = r.telemUplink ∧
    (r.mapMix z src f).eqMem = r.eqMem ∧ (r.mapMix z src f).shelfMem = r.shelfMem ∧ (r.mapMix z src f).hush = r.hush := by
  simp [Renderer.mapMix]

@[simp] theorem Renderer.mapSource_frame (r : Renderer) (src : Source) (f : MixPoint → MixPoint) :
    (r.mapSource src f).volume = r.volume ∧ (r.mapSource src f).trims = r.trims ∧ (r.mapSource src f).thermal = r.thermal ∧
    (r.mapSource src f).out = r.out ∧ (r.mapSource src f).uplink = r.uplink ∧
    (r.mapSource src f).telemUplink = r.telemUplink ∧ (r.mapSource src f).eqMem = r.eqMem ∧
    (r.mapSource src f).shelfMem = r.shelfMem ∧ (r.mapSource src f).hush = r.hush := by
  simp [Renderer.mapSource]

/-- What claims and hushes leave of the renderer. -/
abbrev FrameR (r t : Renderer) : Prop :=
  t.volume = r.volume ∧ t.trims = r.trims ∧ t.thermal = r.thermal ∧ t.out = r.out ∧ t.uplink = r.uplink ∧
  t.telemUplink = r.telemUplink ∧ t.eqMem = r.eqMem ∧ t.shelfMem = r.shelfMem ∧ t.hush = r.hush

theorem FrameR.foldl {α : Type} (f : Renderer → α → Renderer) (h : ∀ r a, FrameR r (f r a)) (l : List α) (r : Renderer) :
    FrameR r (l.foldl f r) := by
  induction l generalizing r with
  | nil => simp [FrameR]
  | cons a l ih =>
    have h1 := ih (f r a)
    have h2 := h r a
    simp_all [FrameR]

/-- What the rates of an evaluation leave. -/
@[simp] theorem Renderer.rates_frame (r : Renderer) (z : Zone) (y : Nat) (q : List Source) (b a : List Claim) :
    FrameR r (r.rates z y q b a) := by
  have h1 := FrameR.foldl (fun r src => r.mapMix z src (if y = 0 then MixPoint.startJump else MixPoint.startYield y))
    (by intro r src; simp [FrameR]) q r
  have h2 := FrameR.foldl
    (fun (r : Renderer) src =>
      if q.contains src || a.any (fun c => c.source == src && c.yielding) then r
      else if stateIn b src = stateIn a src then r.mapMix z src MixPoint.unmark
      else if b.any (fun c => c.source == src && c.state == .held && !c.yielding) then r.mapMix z src MixPoint.startAudible
      else r.mapMix z src MixPoint.plain)
    (by intro r src; (try dsimp only); (repeat' split) <;> simp [FrameR]) Source.all
    (q.foldl (fun r src => r.mapMix z src (if y = 0 then MixPoint.startJump else MixPoint.startYield y)) r)
  unfold Renderer.rates
  simp_all [FrameR]

/-- A raise touches the port alone. -/
@[simp] theorem State.raise_rest (s : State) (n : Notice) :
    (s.raise n).arb = s.arb ∧ (s.raise n).rend = s.rend ∧ (s.raise n).bank = s.bank ∧ (s.raise n).pool = s.pool ∧ (s.raise n).voc = s.voc ∧ (s.raise n).tun = s.tun ∧ (s.raise n).sta = s.sta ∧ (s.raise n).scan = s.scan ∧ (s.raise n).traf = s.traf ∧ (s.raise n).call = s.call ∧ (s.raise n).veh = s.veh ∧ (s.raise n).wat = s.wat := by
  simp [State.raise]

/-- A delivery touches the watch unit alone. -/
@[simp] theorem State.deliver_rest (s : State) (q : Quantity) (v : Int) :
    (s.deliver q v).port = s.port ∧ (s.deliver q v).arb = s.arb ∧ (s.deliver q v).rend = s.rend ∧ (s.deliver q v).bank = s.bank ∧ (s.deliver q v).pool = s.pool ∧ (s.deliver q v).voc = s.voc ∧ (s.deliver q v).tun = s.tun ∧ (s.deliver q v).sta = s.sta ∧ (s.deliver q v).scan = s.scan ∧ (s.deliver q v).traf = s.traf ∧ (s.deliver q v).call = s.call ∧ (s.deliver q v).veh = s.veh := by
  simp [State.deliver]

/-- A delivery touches the watch unit alone. -/
@[simp] theorem State.deliverChange_rest (s : State) (q : Quantity) (a b : Int) :
    (s.deliverChange q a b).port = s.port ∧ (s.deliverChange q a b).arb = s.arb ∧ (s.deliverChange q a b).rend = s.rend ∧ (s.deliverChange q a b).bank = s.bank ∧ (s.deliverChange q a b).pool = s.pool ∧ (s.deliverChange q a b).voc = s.voc ∧ (s.deliverChange q a b).tun = s.tun ∧ (s.deliverChange q a b).sta = s.sta ∧ (s.deliverChange q a b).scan = s.scan ∧ (s.deliverChange q a b).traf = s.traf ∧ (s.deliverChange q a b).call = s.call ∧ (s.deliverChange q a b).veh = s.veh := by
  unfold State.deliverChange; split <;> simp

/-- A delivery touches the watch unit alone. -/
@[simp] theorem State.deliverVolume_rest (s old new : State) (z : Zone) (k : Kind) :
    (s.deliverVolume old new z k).port = s.port ∧ (s.deliverVolume old new z k).arb = s.arb ∧ (s.deliverVolume old new z k).rend = s.rend ∧ (s.deliverVolume old new z k).bank = s.bank ∧ (s.deliverVolume old new z k).pool = s.pool ∧ (s.deliverVolume old new z k).voc = s.voc ∧ (s.deliverVolume old new z k).tun = s.tun ∧ (s.deliverVolume old new z k).sta = s.sta ∧ (s.deliverVolume old new z k).scan = s.scan ∧ (s.deliverVolume old new z k).traf = s.traf ∧ (s.deliverVolume old new z k).call = s.call ∧ (s.deliverVolume old new z k).veh = s.veh := by
  unfold State.deliverVolume; split <;> simp

/-- A delivery touches the watch unit alone. -/
@[simp] theorem State.deliverVolumes_rest (s old : State) (z : Zone) :
    (s.deliverVolumes old z).port = s.port ∧ (s.deliverVolumes old z).arb = s.arb ∧ (s.deliverVolumes old z).rend = s.rend ∧ (s.deliverVolumes old z).bank = s.bank ∧ (s.deliverVolumes old z).pool = s.pool ∧ (s.deliverVolumes old z).voc = s.voc ∧ (s.deliverVolumes old z).tun = s.tun ∧ (s.deliverVolumes old z).sta = s.sta ∧ (s.deliverVolumes old z).scan = s.scan ∧ (s.deliverVolumes old z).traf = s.traf ∧ (s.deliverVolumes old z).call = s.call ∧ (s.deliverVolumes old z).veh = s.veh := by
  simp [State.deliverVolumes, Kind.all]

@[simp] theorem Pool.setClip_mem (p : Pool) (n : Nat) (c : Clip) : (p.setClip n c).mem = p.mem := by
  unfold Pool.setClip; split <;> rfl

@[simp] theorem Pool.setSlot_mem (p : Pool) (o : LinkOwner) (x : Slot) : (p.setSlot o x).mem = p.mem := by
  cases o <;> rfl

@[simp] theorem Pool.grant_mem (p : Pool) (c n rate : Nat) (o : Owner) (st : ClipState) (auto : Bool) :
    (p.grant c n rate o st auto).mem = p.mem := by
  simp [Pool.grant]

@[simp] theorem Pool.release_mem (p : Pool) (n : Nat) : (p.release n).mem = p.mem := by
  simp [Pool.release]

@[simp] theorem Pool.close_mem (p : Pool) (n len : Nat) : (p.close n len).mem = p.mem := by
  simp [Pool.close]

@[simp] theorem Pool.setClip_length (p : Pool) (n : Nat) (c : Clip) : (p.setClip n c).clips.length = p.clips.length := by
  unfold Pool.setClip; split <;> simp

@[simp] theorem Pool.setSlot_length (p : Pool) (o : LinkOwner) (x : Slot) : (p.setSlot o x).clips.length = p.clips.length := by
  cases o <;> rfl

@[simp] theorem Pool.grant_length (p : Pool) (c n rate : Nat) (o : Owner) (st : ClipState) (auto : Bool) :
    (p.grant c n rate o st auto).clips.length = p.clips.length := by
  simp [Pool.grant]

@[simp] theorem Pool.release_length (p : Pool) (n : Nat) : (p.release n).clips.length = p.clips.length := by
  simp [Pool.release]

@[simp] theorem Pool.close_length (p : Pool) (n len : Nat) : (p.close n len).clips.length = p.clips.length := by
  simp [Pool.close]

@[simp] theorem State.raise_frame (s : State) (n : Notice) : ClaimFrame s (s.raise n) := by
  unfold State.raise; (try dsimp only); (repeat' split) <;> simp [ClaimFrame]

@[simp] theorem State.deliver_frame (s : State) (q : Quantity) (v : Int) : ClaimFrame s (s.deliver q v) := by
  unfold State.deliver; (try dsimp only); (repeat' split) <;> simp [ClaimFrame]

@[simp] theorem State.deliverChange_frame (s : State) (q : Quantity) (old new : Int) : ClaimFrame s (s.deliverChange q old new) := by
  unfold State.deliverChange; (try dsimp only); (repeat' split) <;> simp [ClaimFrame]

@[simp] theorem State.orderHush_frame (s : State) (src : Source) (n : Nat) : ClaimFrame s (s.orderHush src n) := by
  unfold State.orderHush; (try dsimp only); (repeat' split) <;> simp [ClaimFrame]

@[simp] theorem State.liftHush_frame (s : State) (src : Source) : ClaimFrame s (s.liftHush src) := by
  unfold State.liftHush; (try dsimp only); (repeat' split) <;> simp [ClaimFrame]

@[simp] theorem State.deliverVolume_frame (s old new : State) (z : Zone) (k : Kind) : ClaimFrame s (s.deliverVolume old new z k) := by
  unfold State.deliverVolume; split <;> simp [ClaimFrame]

@[simp] theorem State.deliverVolumes_frame (s old : State) (z : Zone) : ClaimFrame s (s.deliverVolumes old z) := by
  simp [ClaimFrame, State.deliverVolumes, Kind.all]

@[simp] theorem State.ramps_frame (s : State) : ClaimFrame s (s.ramps) := by
  simp [ClaimFrame, State.ramps]

@[simp] theorem State.setZone_frame (s : State) (z : Zone) (zs : ZoneState) : ClaimFrame s (s.setZone z zs) := by
  unfold State.setZone; (try dsimp only); (repeat' split) <;> simp [ClaimFrame]

@[simp] theorem State.entReport_frame (s : State) (z : Zone) (b : Bool) : ClaimFrame s (s.entReport z b) := by
  unfold State.entReport; (try dsimp only); (repeat' split) <;> simp [ClaimFrame]

@[simp] theorem State.setVoice_frame (s : State) (v : Voice) (r : VoiceRec) : ClaimFrame s (s.setVoice v r) := by
  unfold State.setVoice; (try dsimp only); (repeat' split) <;> simp [ClaimFrame]

@[simp] theorem State.voiceReport_frame (s : State) (v : Voice) : ClaimFrame s (s.voiceReport v) := by
  unfold State.voiceReport; (try dsimp only); (repeat' split) <;> simp [ClaimFrame]

@[simp] theorem State.setAnn_frame (s : State) (p : Path) (a : Announcement) : ClaimFrame s (s.setAnn p a) := by
  unfold State.setAnn; (try dsimp only); (repeat' split) <;> simp [ClaimFrame]

@[simp] theorem State.noteHeld_frame (s : State) (p : Path) : ClaimFrame s (s.noteHeld p) := by
  unfold State.noteHeld; (try dsimp only); (repeat' split) <;> simp [ClaimFrame]

@[simp] theorem State.deliverFree_frame (s : State) (old : Nat) : ClaimFrame s (s.deliverFree old) := by
  unfold State.deliverFree; (try dsimp only); (repeat' split) <;> simp [ClaimFrame]

@[simp] theorem State.attemptSlot_frame (s : State) (o : LinkOwner) : ClaimFrame s (s.attemptSlot o) := by
  unfold State.attemptSlot; (try dsimp only); (repeat' split) <;> simp [ClaimFrame]

@[simp] theorem State.grantAttempt_frame (s : State) : ClaimFrame s (s.grantAttempt) := by
  unfold State.grantAttempt; (try dsimp only); (repeat' split) <;> simp [ClaimFrame]

@[simp] theorem State.freeClip_frame (s : State) (n : Nat) : ClaimFrame s (s.freeClip n) := by
  unfold State.freeClip; (try dsimp only); (repeat' split) <;> simp [ClaimFrame]

@[simp] theorem State.setUse_frame (s : State) (n : Nat) (u : UseMarker) : ClaimFrame s (s.setUse n u) := by
  simp [ClaimFrame, State.setUse]; split <;> simp

@[simp] theorem State.closeClip_frame (s : State) (n len : Nat) : ClaimFrame s (s.closeClip n len) := by
  unfold State.closeClip; (try dsimp only); (repeat' split) <;> simp [ClaimFrame]

theorem State.captureOpen_frame {s t : State} {c : Nat} (h : s.captureOpen = some (c, t)) : ClaimFrame s t := by
  unfold State.captureOpen at h
  split at h
  · cases h
  · split at h
    · cases h
    · split at h
      · cases h
      · obtain ⟨-, rfl⟩ := Prod.mk.inj (Option.some.inj h)
        simp [ClaimFrame]

theorem State.captureExtend_frame {s t : State} {n : Nat} (h : s.captureExtend n = some t) : ClaimFrame s t := by
  unfold State.captureExtend at h
  dsimp only at h
  split at h
  · cases h
  · obtain rfl := Option.some.inj h
    simp [ClaimFrame]

@[simp] theorem State.beginCapture_frame (s : State) (p : Path) : ClaimFrame s (s.beginCapture p) := by
  unfold State.beginCapture
  split
  · rename_i h; simpa [ClaimFrame] using State.captureOpen_frame h
  · simp [ClaimFrame]

@[simp] theorem State.captureFor_frame (s : State) (p : Path) : ClaimFrame s (s.captureFor p) := by
  unfold State.captureFor; (try dsimp only); (repeat' split) <;> simp [ClaimFrame]

@[simp] theorem State.tryCapture_frame (s : State) : ClaimFrame s (s.tryCapture) := by
  unfold State.tryCapture; (try dsimp only); (repeat' split) <;> simp [ClaimFrame]

theorem State.beginCapture_rest (s : State) (p : Path) :
    (s.beginCapture p).port = s.port ∧ (s.beginCapture p).arb = s.arb ∧ (s.beginCapture p).rend = s.rend ∧
    (s.beginCapture p).voc = s.voc := by
  unfold State.beginCapture
  split
  · rename_i c t h
    unfold State.captureOpen at h
    (repeat' split at h) <;> (try cases h)
    simp [State.deliverFree]
  · simp [State.setAnn]

theorem State.captureFor_rest (s : State) (p : Path) :
    (s.captureFor p).port = s.port ∧ (s.captureFor p).arb = s.arb ∧ (s.captureFor p).rend = s.rend ∧ (s.captureFor p).voc = s.voc := by
  unfold State.captureFor; split
  · exact s.beginCapture_rest p
  · simp

/-- R143: a moment at which a capture may begin touches the traffic monitor, the pool and the watches alone. -/
theorem State.captureAfter_rest (s base : State) :
    (s.captureAfter base).port = s.port ∧ (s.captureAfter base).arb = s.arb ∧ (s.captureAfter base).rend = s.rend ∧
    (s.captureAfter base).voc = s.voc := by
  unfold State.captureAfter State.tryCapture
  (repeat' split) <;> simp [State.captureFor_rest]

/-- R143: while the record is RECORDING or OWING nothing begins. -/
theorem State.tryCapture_busy {s : State} (h : s.traf.capture ≠ .idle) : s.tryCapture = s := by
  simp [State.tryCapture, State.captureFor, h]

/-- R143: what is none of the rule's three events begins no capture. -/
theorem State.captureAfter_no_event {s base : State} (h : base.traf.capture = .idle) (h1 : s.heldAnew base .p1 = false)
    (h2 : s.heldAnew base .p2 = false) : s.captureAfter base = s := by
  simp [State.captureAfter, h, h1, h2]

@[simp] theorem State.captureAfter_frame (s base : State) : ClaimFrame s (s.captureAfter base) := by
  unfold State.captureAfter; (try dsimp only); (repeat' split) <;> simp [ClaimFrame]

@[simp] theorem State.reports_frame (s : State) : ClaimFrame s (s.reports) := by
  unfold State.reports; (try dsimp only); (repeat' split) <;> simp [ClaimFrame]

@[simp] theorem State.evaluateTold_frame (s : State) (z : Zone) (fresh : List Source) (filed : Bool) :
    ClaimFrame s (s.evaluateTold z fresh filed) := by
  unfold State.evaluateTold; (try dsimp only); (repeat' split) <;> simp [ClaimFrame]

@[simp] theorem State.evaluateAfter_frame (s base : State) (z : Zone) (fresh : List Source) (filed : Bool) :
    ClaimFrame s (s.evaluateAfter base z fresh filed) := by
  unfold State.evaluateAfter; (try dsimp only); (repeat' split) <;> simp [ClaimFrame]

@[simp] theorem State.evaluate_frame (s : State) (z : Zone) (fresh : List Source) : ClaimFrame s (s.evaluate z fresh) :=
  s.evaluateAfter_frame s z fresh false

@[simp] theorem State.yieldExpired_frame (s : State) (z : Zone) : ClaimFrame s (s.yieldExpired z) := by
  have h : ∀ r : Renderer, FrameR r (Source.all.foldl (fun r src => r.mapMix z src MixPoint.unmark) r) :=
    FrameR.foldl (fun r src => r.mapMix z src MixPoint.unmark) (by intro r src; simp [FrameR]) Source.all
  unfold State.yieldExpired
  simp_all [ClaimFrame, FrameR]

@[simp] theorem State.replaceTold_frame (s : State) (z : Zone) (old new : Source) : ClaimFrame s (s.replaceTold z old new) := by
  unfold State.replaceTold; (try dsimp only); (repeat' split) <;> simp [ClaimFrame]

@[simp] theorem State.replaceEnt_frame (s : State) (z : Zone) (old new : Source) : ClaimFrame s (s.replaceEnt z old new) := by
  unfold State.replaceEnt; (try dsimp only); (repeat' split) <;> simp [ClaimFrame]

@[simp] theorem State.fileTold_frame (s : State) (z : Zone) (src : Source) (shadow : Bool) : ClaimFrame s (s.fileTold z src shadow) := by
  unfold State.fileTold; (try dsimp only); (repeat' split) <;> simp [ClaimFrame]

@[simp] theorem State.file_frame (s : State) (z : Zone) (src : Source) (shadow : Bool) : ClaimFrame s (s.file z src shadow) := by
  unfold State.file; (try dsimp only); (repeat' split) <;> simp [ClaimFrame]

@[simp] theorem State.withdrawTold_frame (s : State) (z : Zone) (src : Source) : ClaimFrame s (s.withdrawTold z src) := by
  unfold State.withdrawTold; (try dsimp only); (repeat' split) <;> simp [ClaimFrame]

@[simp] theorem State.withdraw_frame (s : State) (z : Zone) (src : Source) : ClaimFrame s (s.withdraw z src) := by
  unfold State.withdraw; (try dsimp only); (repeat' split) <;> simp [ClaimFrame]

@[simp] theorem State.withdrawAll_frame (s : State) (src : Source) : ClaimFrame s (s.withdrawAll src) := by
  unfold State.withdrawAll; (try dsimp only); (repeat' split) <;> simp [ClaimFrame]

@[simp] theorem State.takeZone_frame (s : State) (p : Path) (was now : ZoneSet) (z : Zone) : ClaimFrame s (s.takeZone p was now z) := by
  unfold State.takeZone; (try dsimp only); (repeat' split) <;> simp [ClaimFrame]

@[simp] theorem State.takingPath_frame (s : State) (p : Path) : ClaimFrame s (s.takingPath p) := by
  unfold State.takingPath; (try dsimp only); (repeat' split) <;> simp [ClaimFrame]

@[simp] theorem State.takingUpdate_frame (s : State) : ClaimFrame s (s.takingUpdate) := by
  unfold State.takingUpdate; (try dsimp only); (repeat' split) <;> simp [ClaimFrame]

@[simp] theorem State.setEnt_frame (s : State) (z : Zone) (src : Option Source) : ClaimFrame s (s.setEnt z src) := by
  unfold State.setEnt; (try dsimp only); (repeat' split) <;> simp [ClaimFrame]

@[simp] theorem State.startFade_frame (s : State) (v : Voice) : ClaimFrame s (s.startFade v) := by
  unfold State.startFade; (try dsimp only); (repeat' split) <;> simp [ClaimFrame]

@[simp] theorem State.bringClaim_frame (s : State) (v : Voice) (mask : ZoneSet) (z : Zone) : ClaimFrame s (s.bringClaim v mask z) := by
  unfold State.bringClaim; (try dsimp only); (repeat' split) <;> simp [ClaimFrame]

@[simp] theorem State.becomeCurrent_frame (s : State) (v : Voice) (e : Entry) : ClaimFrame s (s.becomeCurrent v e) := by
  unfold State.becomeCurrent; (try dsimp only); (repeat' split) <;> simp [ClaimFrame]

@[simp] theorem State.goIdle_frame (s : State) (v : Voice) : ClaimFrame s (s.goIdle v) := by
  unfold State.goIdle; (try dsimp only); (repeat' split) <;> simp [ClaimFrame]

@[simp] theorem State.nextEntry_frame (s : State) (v : Voice) : ClaimFrame s (s.nextEntry v) := by
  unfold State.nextEntry; (try dsimp only); (repeat' split) <;> simp [ClaimFrame]

@[simp] theorem State.accept_frame (s : State) (v : Voice) (e : Entry) : ClaimFrame s (s.accept v e) := by
  unfold State.accept; (try dsimp only); (repeat' split) <;> simp [ClaimFrame]

theorem State.place_frame {s t : State} {v : Voice} {p : Placing} (h : s.place v p = .ok t) : ClaimFrame s t := by
  unfold State.place at h
  split at h
  · cases h
  · obtain rfl := Except.ok.inj h
    simp [ClaimFrame]

@[simp] theorem State.buildChimeDone_frame (s : State) : ClaimFrame s (s.buildChimeDone) := by
  unfold State.buildChimeDone; (try dsimp only); (repeat' split) <;> simp [ClaimFrame]

@[simp] theorem State.append_frame (s : State) (control : Bool) (c : Completion) : ClaimFrame s (s.append control c) := by
  unfold State.append; (try dsimp only); (repeat' split) <;> simp [ClaimFrame]

@[simp] theorem State.setWaiters_frame (s : State) (control : Bool) (l : List Waiter) : ClaimFrame s (s.setWaiters control l) := by
  unfold State.setWaiters; (try dsimp only); (repeat' split) <;> simp [ClaimFrame]

@[simp] theorem State.retireHead_frame (s : State) (v : Voice) : ClaimFrame s (s.retireHead v) := by
  unfold State.retireHead; (try dsimp only); (repeat' split) <;> simp [ClaimFrame]

@[simp] theorem State.stall_frame (s : State) (v : Voice) : ClaimFrame s (s.stall v) := by
  unfold State.stall; (try dsimp only); (repeat' split) <;> simp [ClaimFrame]

@[simp] theorem State.retire_frame (s : State) (v : Voice) : ClaimFrame s (s.retire v) := by
  unfold State.retire; (try dsimp only); (repeat' split) <;> simp [ClaimFrame]

@[simp] theorem State.conclude_frame (s : State) (v : Voice) (o : CompStatus) : ClaimFrame s (s.conclude v o) := by
  unfold State.conclude; (try dsimp only); (repeat' split) <;> simp [ClaimFrame]

@[simp] theorem State.serveMonitor_frame (s : State) : ClaimFrame s (s.serveMonitor) := by
  unfold State.serveMonitor; (try dsimp only); (repeat' split) <;> simp [ClaimFrame]

@[simp] theorem State.serveWaiter_frame (s : State) (w : Waiter) : ClaimFrame s (s.serveWaiter w) := by
  unfold State.serveWaiter; (repeat' split) <;> simp [ClaimFrame]

@[simp] theorem State.serveList_frame (b : Bool) (l : List Waiter) (s : State) : ClaimFrame s (State.serveList b l s) := by
  induction l generalizing s with
  | nil => simp [State.serveList, ClaimFrame]
  | cons w ws ih =>
    unfold State.serveList
    split
    · simp [ClaimFrame]
    · have h := ih ((s.setWaiters b ws).serveWaiter w)
      simpa [ClaimFrame] using h

@[simp] theorem State.serveWaiters_frame (s : State) (b : Bool) : ClaimFrame s (s.serveWaiters b) := by
  unfold State.serveWaiters; simp [ClaimFrame]

@[simp] theorem State.flushEntries_frame (v : Voice) (l : List Entry) (s : State) (a f : Nat) :
    ClaimFrame s (State.flushEntries v l s a f).1 := by
  induction l generalizing s a f with
  | nil => simp [State.flushEntries, ClaimFrame]
  | cons e es ih =>
    unfold State.flushEntries
    split
    · rename_i c b h
      have h := ih ((s.setUse e.clip .unused).append (onControl v) c) (a + 1) f
      simpa [ClaimFrame] using h
    · have h := ih ((s.setUse e.clip .unused).freeClip e.clip) a (f + 1)
      simpa [ClaimFrame] using h

theorem State.flush_frame {s : State} {v : Voice} {r : State × Nat × Nat × Nat} (h : s.flush v = .ok r) : ClaimFrame s r.1 := by
  unfold State.flush at h
  dsimp only at h
  split at h
  · cases h
  · obtain rfl := Except.ok.inj h
    dsimp only
    (repeat' split) <;> simp [ClaimFrame]

@[simp] theorem State.cutPass_frame (s : State) (v : Voice) (e : Entry) : ClaimFrame s (s.cutPass v e) := by
  unfold State.cutPass; (try dsimp only); (repeat' split) <;> simp [ClaimFrame]

@[simp] theorem State.leaveFill_frame (s : State) (v : Voice) : ClaimFrame s (s.leaveFill v) := by
  unfold State.leaveFill; (try dsimp only); (repeat' split) <;> simp [ClaimFrame]

@[simp] theorem State.fillReport_frame (s : State) (clip : Nat) : ClaimFrame s (s.fillReport clip) := by
  unfold State.fillReport; (try dsimp only); (repeat' split) <;> simp [ClaimFrame]

@[simp] theorem State.sealReport_frame (s : State) (clip : Nat) : ClaimFrame s (s.sealReport clip) := by
  unfold State.sealReport; (try dsimp only); (repeat' split) <;> simp [ClaimFrame]

@[simp] theorem State.setCapture_frame (s : State) (c : Capture) : ClaimFrame s (s.setCapture c) := by
  unfold State.setCapture; (try dsimp only); (repeat' split) <;> simp [ClaimFrame]

@[simp] theorem State.placeReplay_frame (s : State) (p : Path) (n : Nat) : ClaimFrame s (s.placeReplay p n) := by
  unfold State.placeReplay
  split
  · rename_i h; exact State.place_frame h
  · simp [ClaimFrame]

@[simp] theorem State.oweCapture_frame (s : State) (n : Nat) (st : CompStatus) : ClaimFrame s (s.oweCapture n st) := by
  unfold State.oweCapture; (try dsimp only); (repeat' split) <;> simp [ClaimFrame]

@[simp] theorem State.closeCapture_frame (s : State) (p : Path) (n : Nat) (st : CompStatus) : ClaimFrame s (s.closeCapture p n st) := by
  unfold State.closeCapture; (try dsimp only); (repeat' split) <;> simp [ClaimFrame]

@[simp] theorem State.closeOwn_frame (s : State) (p : Path) : ClaimFrame s (s.closeOwn p) := by
  unfold State.closeOwn; (try dsimp only); (repeat' split) <;> simp [ClaimFrame]

@[simp] theorem State.endAnn_frame (s : State) (p : Path) : ClaimFrame s (s.endAnn p) := by
  unfold State.endAnn; (try dsimp only); (repeat' split) <;> simp [ClaimFrame]

@[simp] theorem State.beginAnn_frame (s : State) (p : Path) : ClaimFrame s (s.beginAnn p) := by
  unfold State.beginAnn; (try dsimp only); (repeat' split) <;> simp [ClaimFrame]

@[simp] theorem State.annSync_frame (s : State) (p : Path) : ClaimFrame s (s.annSync p) := by
  unfold State.annSync; (try dsimp only); (repeat' split) <;> simp [ClaimFrame]

@[simp] theorem State.truncate_frame (s : State) (p : Path) (n : Nat) : ClaimFrame s (s.truncate p n) := by
  unfold State.truncate; (try dsimp only); (repeat' split) <;> simp [ClaimFrame]

@[simp] theorem State.seal_frame (s : State) (clip len : Nat) : ClaimFrame s (s.seal clip len) := by
  unfold State.seal; (try dsimp only); (repeat' split) <;> simp [ClaimFrame]

@[simp] theorem State.takeCompletions_frame (s : State) : ClaimFrame s (s.takeCompletions) := by
  unfold State.takeCompletions; (try dsimp only); (repeat' split) <;> simp [ClaimFrame]

@[simp] theorem State.expire_frame (s : State) (v : Voice) : ClaimFrame s (s.expire v) := by
  unfold State.expire; (try dsimp only); (repeat' split) <;> simp [ClaimFrame]

@[simp] theorem State.endGap_frame (s : State) (v : Voice) : ClaimFrame s (s.endGap v) := by
  unfold State.endGap; (try dsimp only); (repeat' split) <;> simp [ClaimFrame]

@[simp] theorem State.endFade_frame (s : State) (v : Voice) : ClaimFrame s (s.endFade v) := by
  unfold State.endFade; (try dsimp only); (repeat' split) <;> simp [ClaimFrame]

@[simp] theorem State.ageLimit_frame (s : State) (p : Path) : ClaimFrame s (s.ageLimit p) := by
  unfold State.ageLimit; (try dsimp only); (repeat' split) <;> simp [ClaimFrame]


end Sys2Proof.Machine
end

