-- ==== Sys2Proof/Laws/CallFrames.lean ====
section
/-! SUPPORT. One frame lemma for each operation of the profile bank's takes, the call controller, the echo canceller and the fires of
the watch unit. -/

namespace Sys2Proof.Machine

set_option linter.unusedTactic false
set_option linter.unnecessarySeqFocus false

@[simp] theorem Echo.store_frame (e : Echo) (m : MicSet) :
    (e.store m).tc = e.tc ∧ (e.store m).tt = e.tt ∧ (e.store m).state = e.state ∧ (e.store m).prior = e.prior := by
  unfold Echo.store; split <;> simp

@[simp] theorem Echo.startTest_frame (e : Echo) :
    e.startTest.tc = e.tc ∧ e.startTest.tt = e.tt ∧ e.startTest.state = .converging ∧ e.startTest.prior = e.prior := by
  simp [Echo.startTest]

@[simp] theorem Echo.load_frame (e : Echo) (m : MicSet) :
    (e.load m).tc = e.tc ∧ (e.load m).tt = e.tt ∧ (e.load m).state = .converging ∧ (e.load m).prior = e.prior := by
  simp [Echo.load]

@[simp] theorem Call.serveSet_frame (c : Call) (m : MicSet) :
    (c.serveSet m).downTrim = c.downTrim ∧ (c.serveSet m).upTrim = c.upTrim ∧ (c.serveSet m).speech = c.speech ∧
    (c.serveSet m).noiseFloor = c.noiseFloor ∧ (c.serveSet m).noise = c.noise ∧ (c.serveSet m).callWin = c.callWin ∧
    (c.serveSet m).telemWin = c.telemWin ∧ (c.serveSet m).farActive = c.farActive ∧ (c.serveSet m).echo = c.echo ∧
    (c.serveSet m).state = c.state ∧ (c.serveSet m).route = c.route := by
  simp [Call.serveSet]

@[simp] theorem Renderer.takeMemories_frame (r : Renderer) (z : Zone) :
    FrameR r { r.clearEq z with eqMem := r.eqMem } ∧ (r.clearShelf z).eqMem = r.eqMem := by
  simp [FrameR, Renderer.clearEq, Renderer.clearShelf]

/-- What an update of the canceller leaves, the call apart. -/
abbrev FrameE (s t : State) : Prop :=
  t.pending = s.pending ∧ t.free = s.free ∧ t.port.op = s.port.op ∧ t.port.lastReset = s.port.lastReset ∧
  t.port.resetPending = s.port.resetPending ∧ t.port.rx = s.port.rx ∧ t.port.held = s.port.held ∧
  t.port.mask = s.port.mask ∧ t.port.assembly = s.port.assembly ∧ t.port.lastReply = s.port.lastReply ∧
  t.port.lineOut = s.port.lineOut ∧ t.arb.policy = s.arb.policy ∧ t.arb.policyLoaded = s.arb.policyLoaded ∧
  t.rend.volume = s.rend.volume ∧ t.rend.trims = s.rend.trims ∧ t.rend.thermal = s.rend.thermal ∧ t.rend.out = s.rend.out ∧
  t.rend.uplink = s.rend.uplink ∧ t.rend.telemUplink = s.rend.telemUplink ∧ t.pool.mem = s.pool.mem ∧
  t.veh.speed = s.veh.speed ∧ t.veh.age = s.veh.age ∧ t.veh.stale = s.veh.stale ∧ t.veh.override = s.veh.override ∧
  t.veh.savedStep = s.veh.savedStep ∧ t.veh.refusal = s.veh.refusal ∧ t.veh.status = s.veh.status ∧
  t.veh.statusTimer = s.veh.statusTimer ∧ t.veh.base = s.veh.base ∧ t.veh.step = s.veh.step ∧ t.veh.loaded = s.veh.loaded ∧
  t.veh.busOut = s.veh.busOut ∧ t.wat.slots.length = s.wat.slots.length ∧ t.tun = s.tun ∧ t.sta = s.sta ∧ t.scan = s.scan ∧
  t.bank.staged = s.bank.staged ∧ t.bank.map = s.bank.map ∧ t.bank.mapLoaded = s.bank.mapLoaded ∧ t.bank.eq = s.bank.eq ∧
  t.bank.eqLoaded = s.bank.eqLoaded ∧ t.bank.curves = s.bank.curves ∧ t.bank.curvesLoaded = s.bank.curvesLoaded ∧
  t.arb = s.arb ∧ t.rend = s.rend ∧ t.pool = s.pool ∧ t.bank = s.bank ∧ t.voc = s.voc ∧ t.traf = s.traf ∧ t.wat = s.wat ∧
  t.port.tx.countP TxFrame.isReply = s.port.tx.countP TxFrame.isReply

@[simp] theorem State.setEcho_frame (s : State) (e : Echo) :
    FrameE s (s.setEcho e) ∧ (s.setEcho e).call = { s.call with echo := e } := by
  unfold State.setEcho; dsimp only; (repeat' split) <;> simp [FrameE]

@[simp] theorem State.reconverge_frame (s : State) : CallFrame s (s.reconverge) := by
  unfold State.reconverge; (try dsimp only); (repeat' split) <;> simp [CallFrame]

@[simp] theorem State.applyNotice_frame (s : State) : CallFrame s (s.applyNotice) := by
  unfold State.applyNotice; (try dsimp only); (repeat' split) <;> simp [CallFrame]

@[simp] theorem State.setRoute_frame (s : State) (r : Route) (set : MicSet) : CallFrame s (s.setRoute r set) := by
  unfold State.setRoute; (try dsimp only); (repeat' split) <;> simp [CallFrame]

@[simp] theorem State.changeSet_frame (s : State) (set : MicSet) : CallFrame s (s.changeSet set) := by
  unfold State.changeSet; (try dsimp only); (repeat' split) <;> simp [CallFrame]

@[simp] theorem State.setTake_frame (s : State) (z : Zone) (t : TakeState) : CallFrame s (s.setTake z t) := by
  unfold State.setTake; (try dsimp only); (repeat' split) <;> simp [CallFrame]

@[simp] theorem State.takeMemories_frame (s : State) (z : Zone) (old new : Profile) :
    CallFrame s (s.takeMemories z old new) ∧ (s.takeMemories z old new).bank = s.bank ∧ (s.takeMemories z old new).call = s.call ∧
    (s.takeMemories z old new).arb = s.arb ∧ (s.takeMemories z old new).pool = s.pool := by
  unfold State.takeMemories; (try dsimp only); (repeat' split) <;> simp [CallFrame, Renderer.clearEq, Renderer.clearShelf]

@[simp] theorem State.takeCopyFrom_frame (s base : State) (z : Zone) : CallFrame s (s.takeCopyFrom base z) := by
  unfold State.takeCopyFrom; (try dsimp only); (repeat' split) <;> simp [CallFrame]

@[simp] theorem State.takeCopy_frame (s : State) (z : Zone) : CallFrame s (s.takeCopy z) := s.takeCopyFrom_frame s z

@[simp] theorem State.watchOrder_frame (s : State) (z : Zone) (release : Bool) : CallFrame s (s.watchOrder z release) := by
  unfold State.watchOrder; (try dsimp only); (repeat' split) <;> simp [CallFrame]

@[simp] theorem State.checkDeferred_frame (s : State) (z : Zone) : CallFrame s (s.checkDeferred z) := by
  unfold State.checkDeferred; (try dsimp only); (repeat' split) <;> simp [CallFrame]

@[simp] theorem State.deferredCheck_frame (s : State) : CallFrame s (s.deferredCheck) := by
  unfold State.deferredCheck; (try dsimp only); (repeat' split) <;> simp [CallFrame]

@[simp] theorem State.callZone_frame (s : State) (mode z : Zone) : CallFrame s (s.callZone mode z) := by
  unfold State.callZone; (try dsimp only); (repeat' split) <;> simp [CallFrame]

@[simp] theorem State.callClaims_frame (s : State) (mode : Zone) : CallFrame s (s.callClaims mode) := by
  unfold State.callClaims; (try dsimp only); (repeat' split) <;> simp [CallFrame]

@[simp] theorem State.callEnter_frame (s : State) : CallFrame s (s.callEnter) := by
  unfold State.callEnter; (try dsimp only); (repeat' split) <;> simp [CallFrame]

@[simp] theorem State.callLeave_frame (s : State) (dest : CallState) : CallFrame s (s.callLeave dest) := by
  unfold State.callLeave; (try dsimp only); (repeat' split) <;> simp [CallFrame]

@[simp] theorem State.callHeld_frame (s : State) : CallFrame s (s.callHeld) := by
  unfold State.callHeld; (try dsimp only); (repeat' split) <;> simp [CallFrame]

@[simp] theorem State.forceHold_frame (s : State) : CallFrame s (s.forceHold) := by
  unfold State.forceHold; (try dsimp only); (repeat' split) <;> simp [CallFrame]

@[simp] theorem State.resumeCall_frame (s : State) : CallFrame s (s.resumeCall) := by
  unfold State.resumeCall; (try dsimp only); (repeat' split) <;> simp [CallFrame]

@[simp] theorem State.dropCall_frame (s : State) : CallFrame s s.dropCall := by
  unfold State.dropCall
  dsimp only
  split
  · rename_i r h; have := State.flush_frame h; simp_all [CallFrame, ClaimFrame]
  · simp [CallFrame]

@[simp] theorem State.startRinging_frame (s : State) (mode : Zone) (clip : Nat) : CallFrame s (s.startRinging mode clip) := by
  unfold State.startRinging; (try dsimp only); (repeat' split) <;> simp [CallFrame]

@[simp] theorem State.answer_frame (s : State) : CallFrame s (s.answer) := by
  unfold State.answer; (try dsimp only); (repeat' split) <;> simp [CallFrame]

@[simp] theorem State.endCall_frame (s : State) : CallFrame s (s.endCall) := by
  unfold State.endCall; (try dsimp only); (repeat' split) <;> simp [CallFrame]

@[simp] theorem State.moveCall_frame (s : State) (mode : Zone) : CallFrame s (s.moveCall mode) := by
  unfold State.moveCall; (try dsimp only); (repeat' split) <;> simp [CallFrame]

@[simp] theorem State.fire_frame (s : State) (n : Nat) (a : WatchAction) : CallFrame s (s.fire n a) := by
  unfold State.fire; dsimp only; (repeat' split) <;> simp [CallFrame]

@[simp] theorem State.watchFire_frame (s : State) (n : Nat) : CallFrame s (s.watchFire n) := by
  unfold State.watchFire; (repeat' split) <;> simp [CallFrame]

end Sys2Proof.Machine
end

