-- ==== Sys2Proof/Laws/Memory.lean ====
section
/-! SUPPORT. The sample memory: every write keeps the canonical form, a read after a write, and what a run of stores leaves. -/

namespace Sys2Proof.Machine

theorem Memory.above_weaken {a : Nat} {o : Option Nat} {m : Memory} (h : Memory.above (some a) m = true)
    (ho : ∀ b, o = some b → b ≤ a) : Memory.above o m = true := by
  cases m with
  | nil => rfl
  | cons e m =>
    obtain ⟨b, v⟩ := e
    cases o with
    | none => simp_all [Memory.above]
    | some c =>
      have := ho c rfl
      simp only [Memory.above, Bool.and_eq_true, decide_eq_true_eq] at h ⊢
      exact ⟨⟨by omega, h.1.2⟩, h.2⟩

/-- A write above a bound keeps the entries above it. -/
theorem Memory.write_above (m : Memory) (o : Option Nat) (k : Nat) (v : Sample) (h : Memory.above o m = true)
    (hk : ∀ b, o = some b → b < k) : Memory.above o (m.write k v) = true := by
  induction m generalizing o with
  | nil =>
    unfold Memory.write
    split
    · rfl
    · cases o <;> simp_all [Memory.above]
  | cons e m ih =>
    obtain ⟨a, w⟩ := e
    have h' := h
    simp only [Memory.above, Bool.and_eq_true] at h
    unfold Memory.write
    split
    · rename_i hak
      simp only [Memory.above, Bool.and_eq_true]
      exact ⟨h.1, ih (some a) h.2 (by rintro b ⟨⟩; exact hak)⟩
    · split
      · rename_i hak
        subst hak
        split
        · refine Memory.above_weaken h.2 (fun b hb => (hk b hb).le)
        · rename_i hv
          cases o <;> simp_all [Memory.above]
      · split
        · exact h'
        · rename_i h1 h2 hv
          have : k < a := by omega
          cases o <;> simp_all [Memory.above]

/-- A write keeps the canonical form. -/
theorem Memory.write_wf (m : Memory) (k : Nat) (v : Sample) (h : m.wf = true) : (m.write k v).wf = true :=
  Memory.write_above m none k v h (by rintro b ⟨⟩)

/-- Below every entry nothing is listed. -/
theorem Memory.read_below (m : Memory) (a k : Nat) (h : Memory.above (some a) m = true) (hk : k ≤ a) :
    m.read k = Memory.unlisted := by
  induction m generalizing a with
  | nil => rfl
  | cons e m ih =>
    obtain ⟨b, w⟩ := e
    simp only [Memory.above, Bool.and_eq_true, decide_eq_true_eq] at h
    unfold Memory.read
    rw [if_neg (by omega)]
    exact ih b h.2 (by omega)

/-- A read of the address written. -/
theorem Memory.read_write_same (m : Memory) (o : Option Nat) (k : Nat) (v : Sample) (h : Memory.above o m = true) :
    (m.write k v).read k = v := by
  induction m generalizing o with
  | nil =>
    unfold Memory.write
    split
    · rename_i hv; simp [Memory.read, hv]
    · simp [Memory.read]
  | cons e m ih =>
    obtain ⟨a, w⟩ := e
    simp only [Memory.above, Bool.and_eq_true] at h
    unfold Memory.write
    split
    · rename_i hak
      simp only [Memory.read, if_neg (show ¬ a = k by omega)]
      exact ih (some a) h.2
    · split
      · rename_i hak
        subst hak
        split
        · rename_i hv; rw [hv]; exact Memory.read_below m a a h.2 le_rfl
        · simp [Memory.read]
      · rename_i h1 h2
        split
        · rename_i hv
          simp only [Memory.read, if_neg h2, hv]
          exact Memory.read_below m a k h.2 (by omega)
        · simp [Memory.read]

/-- A read of another address. -/
theorem Memory.read_write_other (m : Memory) (k j : Nat) (v : Sample) (hj : j ≠ k) : (m.write k v).read j = m.read j := by
  induction m with
  | nil =>
    unfold Memory.write
    split
    · rfl
    · simp [Memory.read, hj.symm]
  | cons e m ih =>
    obtain ⟨a, w⟩ := e
    unfold Memory.write
    split
    · by_cases haj : a = j <;> simp [Memory.read, haj, ih]
    · split
      · rename_i hak
        subst hak
        split <;> simp [Memory.read, hj.symm]
      · split
        · rfl
        · simp [Memory.read, hj.symm]

/-- A run of stores keeps the canonical form. -/
theorem Memory.store_wf (pages : List Nat) (l : List Sample) (m : Memory) (i : Nat) (h : m.wf = true) :
    (Memory.store pages m i l).wf = true := by
  induction l generalizing m i with
  | nil => exact h
  | cons v vs ih => exact ih _ _ (Memory.write_wf _ _ _ h)

/-- A run of stores leaves every sample it does not name. -/
theorem Memory.read_store_other (pages : List Nat) (l : List Sample) (m : Memory) (i a : Nat)
    (h : ∀ j, j < l.length → a ≠ sampleAddress pages (i + j)) : (Memory.store pages m i l).read a = m.read a := by
  induction l generalizing m i with
  | nil => rfl
  | cons v vs ih =>
    unfold Memory.store
    rw [ih _ _ (fun j hj => by
      have := h (j + 1) (by simpa using hj)
      rwa [show i + (j + 1) = i + 1 + j by omega] at this)]
    exact Memory.read_write_other _ _ _ _ (h 0 (by simp))

/-- R63: positions of one clip that lie in different places have different sample addresses, where its pages are distinct. -/
theorem sampleAddress_inj (pages : List Nat) (hp : pages.Nodup) {i j : Nat} (hi : i < pages.length * 1024)
    (hj : j < pages.length * 1024) (h : sampleAddress pages i = sampleAddress pages j) : i = j := by
  unfold sampleAddress at h
  have hi' : i / 1024 < pages.length := Nat.div_lt_of_lt_mul (by omega)
  have hj' : j / 1024 < pages.length := Nat.div_lt_of_lt_mul (by omega)
  rw [List.getD_eq_getElem _ _ hi', List.getD_eq_getElem _ _ hj'] at h
  have hq : pages[i / 1024] = pages[j / 1024] := by omega
  have := (List.Nodup.getElem_inj_iff hp).mp hq
  omega

/-- R71, R72: a sample of a run of stores reads back. -/
theorem Memory.read_store_same (pages : List Nat) (hp : pages.Nodup) (l : List Sample) (m : Memory) (hm : m.wf = true)
    (i j : Nat) (hj : j < l.length) (hl : i + l.length ≤ pages.length * 1024) :
    (Memory.store pages m i l).read (sampleAddress pages (i + j)) = l[j] := by
  induction l generalizing m i j with
  | nil => simp at hj
  | cons v vs ih =>
    unfold Memory.store
    simp only [List.length_cons] at hl hj
    cases j with
    | zero =>
      rw [Memory.read_store_other]
      · exact Memory.read_write_same _ none _ _ hm
      · intro k hk he
        have := sampleAddress_inj pages hp (by omega) (by omega) he
        omega
    | succ j =>
      have := ih (m.write (sampleAddress pages i) v) (Memory.write_wf _ _ _ hm) (i + 1) j (by omega) (by omega)
      rw [show i + (j + 1) = i + 1 + j by omega]
      simpa using this

/-- R72: a load reads each position. -/
theorem Memory.load_getElem (pages : List Nat) (m : Memory) (i n j : Nat) (hj : j < n) :
    (Memory.load pages m i n)[j]? = some (m.read (sampleAddress pages (i + j))) := by
  simp [Memory.load, hj]

end Sys2Proof.Machine
end

