-- ==== Sys2Proof/Laws/Operands.lean ====
section
/-! SUPPORT. What the search for a multiplier finds (R37, R165). -/

namespace Sys2Proof.Machine

/-- A number that fits leaves every smaller one fitting. -/
theorem multiplierFits_anti {den : Nat} {e : Int} {m n : Nat} (h : m ≤ n) (hn : multiplierFits den e n = true) :
    multiplierFits den e m = true := by
  cases m with
  | zero => rfl
  | succ k =>
    obtain ⟨j, rfl⟩ : ∃ j, n = j + 1 := ⟨n - 1, by omega⟩
    simp only [multiplierFits, decide_eq_true_eq] at hn ⊢
    exact (Nat.mul_le_mul_right _ (Nat.pow_le_pow_left (by omega) _)).trans hn

/-- The search over `k` bits finds the largest number that fits, where one below it fits and one `2 ^ k` above it does not. -/
theorem multiplierSearch_spec (den : Nat) (e : Int) : ∀ (k acc : Nat), multiplierFits den e acc = true →
    multiplierFits den e (acc + 2 ^ k) = false →
    multiplierFits den e (multiplierSearch den e (List.range k).reverse acc) = true ∧
      multiplierFits den e (multiplierSearch den e (List.range k).reverse acc + 1) = false
  | 0, acc, h, hk => ⟨h, hk⟩
  | k + 1, acc, h, hk => by
    rw [List.range_succ, List.reverse_append]
    simp only [List.reverse_singleton, List.singleton_append, multiplierSearch]
    cases hf : multiplierFits den e (acc + 2 ^ k) with
    | true =>
      refine multiplierSearch_spec den e k (acc + 2 ^ k) hf ?_
      rwa [Nat.add_assoc, ← Nat.two_mul, ← Nat.pow_succ']
    | false => simpa using multiplierSearch_spec den e k acc h hf

/-- R37, R165: the multiplier of 10^(e/den) is the nearest multiple of 2^-20, a value halfway rounded upward, for all that lies below 8. -/
theorem powerOfTen_spec (den : Nat) (e : Int) (hd : 0 < den)
    (h : 2 ^ (21 * den) * 10 ^ e.toNat < 16777215 ^ den * 10 ^ (-e).toNat) :
    (2 * powerOfTen den e - 1) ^ den * 10 ^ (-e).toNat ≤ 2 ^ (21 * den) * 10 ^ e.toNat ∧
      2 ^ (21 * den) * 10 ^ e.toNat < (2 * powerOfTen den e + 1) ^ den * 10 ^ (-e).toNat := by
  have fits : ∀ k, multiplierFits den e (k + 1) = decide ((2 * k + 1) ^ den * 10 ^ (-e).toNat ≤ 2 ^ (21 * den) * 10 ^ e.toNat) :=
    fun k => rfl
  have top : multiplierFits den e (0 + 2 ^ 23) = false := by
    rw [show 0 + 2 ^ 23 = 8388607 + 1 by norm_num, fits, show 2 * 8388607 + 1 = 16777215 by norm_num]
    exact decide_eq_false (not_le.2 h)
  have found := multiplierSearch_spec den e 23 0 rfl top
  rw [show (List.range 23).reverse = [22, 21, 20, 19, 18, 17, 16, 15, 14, 13, 12, 11, 10, 9, 8, 7, 6, 5, 4, 3, 2, 1, 0] by decide,
    ← powerOfTen] at found
  refine ⟨?_, by rw [fits] at found; exact not_le.1 (of_decide_eq_false found.2)⟩
  cases hm : powerOfTen den e with
  | zero => simp [Nat.ne_of_gt hd]
  | succ k =>
    rw [hm, fits] at found
    rw [show 2 * (k + 1) - 1 = 2 * k + 1 by omega]
    exact of_decide_eq_true found.1

end Sys2Proof.Machine
end

