-- ==== Sys2Proof/Laws/PerInstr.lean ====
section
/-! SUPPORT. The family RequestCodes, one lemma per constructor of Instr: a row that is a request carries a code byte that R190 gives a
request (class below 12, verb within the class). -/

namespace Sys2Proof.Laws.RequestCodes

open Sys2Proof.Machine

def Statement (i : Instr) : Prop := ∀ code q, requestOf i = some (code, q) → namesRequest code

theorem event {i : Instr} (h : requestOf i = none) : Statement i := fun _ _ hc => absurd (h.symm.trans hc) (by simp)

theorem request {i : Instr} {c k : Byte} (h : requestOf i = some (c, k))
    (hc : decide (c.toNat % 16 < verbCounts.getD (c.toNat / 16) 0) = true) : Statement i := by
  intro d l hd
  obtain ⟨rfl, -⟩ := Prod.mk.inj (Option.some.inj (h.symm.trans hd))
  show c.toNat % 16 < verbCounts.getD (c.toNat / 16) 0
  exact of_decide_eq_true hc

theorem coldReset : Statement (.coldReset) :=
  event rfl
theorem warmReset : Statement (.warmReset) :=
  event rfl
theorem frameReceived (bytes : List Byte) : Statement (.frameReceived bytes) :=
  event rfl
theorem frameGapTimeout : Statement (.frameGapTimeout) :=
  event rfl
theorem unknownRequest (code q : Byte) (payloadLength : Nat) : Statement (.unknownRequest code q payloadLength) :=
  event rfl
theorem sysIdentify (q : Byte) : Statement (.sysIdentify q) :=
  request rfl rfl
theorem sysLoadTableOnly (q : Byte) (table : Nat) (bytes : List Byte) : Statement (.sysLoadTableOnly q table bytes) :=
  request rfl rfl
theorem sysLoadTableFirst (q : Byte) (table : Nat) (bytes : List Byte) : Statement (.sysLoadTableFirst q table bytes) :=
  request rfl rfl
theorem sysLoadTableMore (q : Byte) (table : Nat) (bytes : List Byte) : Statement (.sysLoadTableMore q table bytes) :=
  request rfl rfl
theorem sysLoadTableLast (q : Byte) (table : Nat) (bytes : List Byte) : Statement (.sysLoadTableLast q table bytes) :=
  request rfl rfl
theorem sysStart (q : Byte) : Statement (.sysStart q) :=
  request rfl rfl
theorem sysReset (q : Byte) : Statement (.sysReset q) :=
  request rfl rfl
theorem sysNoticeMask (q : Byte) (op : Option SetOp) (flags : BitVec 64) : Statement (.sysNoticeMask q op flags) :=
  request rfl rfl
theorem sysNoticeAck (q : Byte) (flags : BitVec 64) : Statement (.sysNoticeAck q flags) :=
  request rfl rfl
theorem noticeFrameSent : Statement (.noticeFrameSent) :=
  event rfl
theorem zoneSelect (q : Byte) (zone source : Nat) : Statement (.zoneSelect q zone source) :=
  request rfl rfl
theorem zonePolicy (q : Byte) (zone row : Nat) (effect : Option EffectName) (depth : Nat) : Statement (.zonePolicy q zone row effect depth) :=
  request rfl rfl
theorem zoneStatus (q : Byte) (zone : Nat) : Statement (.zoneStatus q zone) :=
  request rfl rfl
theorem zoneVolume (q : Byte) (zone kind step : Nat) : Statement (.zoneVolume q zone kind step) :=
  request rfl rfl
theorem zoneTrim (q : Byte) (zone source : Nat) (trim : Int) : Statement (.zoneTrim q zone source trim) :=
  request rfl rfl
theorem zoneLevels (q : Byte) (zone source : Nat) : Statement (.zoneLevels q zone source) :=
  request rfl rfl
theorem yieldExpiry (z : Zone) : Statement (.yieldExpiry z) :=
  event rfl
theorem renderFrame (inp : FrameInput) : Statement (.renderFrame inp) :=
  event rfl
theorem coolCountExpiry (channel : Nat) : Statement (.coolCountExpiry channel) :=
  event rfl
theorem profileStage (q : Byte) (zone : Nat) (fields : List (Option ProfileField × Int)) : Statement (.profileStage q zone fields) :=
  request rfl rfl
theorem profileRead (q : Byte) (zone : Nat) (copy : Option ProfileCopy) : Statement (.profileRead q zone copy) :=
  request rfl rfl
theorem profileTakeNow (q : Byte) (zone : Nat) (modeKnown : Bool) : Statement (.profileTakeNow q zone modeKnown) :=
  request rfl rfl
theorem profileTakeHold (q : Byte) (zone : Nat) : Statement (.profileTakeHold q zone) :=
  request rfl rfl
theorem profileRelease (q : Byte) (zone : Nat) : Statement (.profileRelease q zone) :=
  request rfl rfl
theorem profileDiscard (q : Byte) (zone : Nat) : Statement (.profileDiscard q zone) :=
  request rfl rfl
theorem poolAlloc (q : Byte) (n rate : Nat) (owner : Option LinkOwner) (auto : Bool) : Statement (.poolAlloc q n rate owner auto) :=
  request rfl rfl
theorem poolPending (q : Byte) : Statement (.poolPending q) :=
  request rfl rfl
theorem poolCancel (q : Byte) (slot : Option LinkOwner) : Statement (.poolCancel q slot) :=
  request rfl rfl
theorem poolSeek (q : Byte) (clip position : Nat) (dir : Option CursorDir) : Statement (.poolSeek q clip position dir) :=
  request rfl rfl
theorem poolWrite (q : Byte) (samples : List Sample) : Statement (.poolWrite q samples) :=
  request rfl rfl
theorem poolRead (q : Byte) (count : Nat) : Statement (.poolRead q count) :=
  request rfl rfl
theorem poolSeal (q : Byte) (clip length : Nat) : Statement (.poolSeal q clip length) :=
  request rfl rfl
theorem poolRelease (q : Byte) (clip : Nat) : Statement (.poolRelease q clip) :=
  request rfl rfl
theorem poolStatus (q : Byte) : Statement (.poolStatus q) :=
  request rfl rfl
theorem poolClip (q : Byte) (clip : Nat) : Statement (.poolClip q clip) :=
  request rfl rfl
theorem voiceEnqueue (q : Byte) (voice clip mask repeats gap threshold : Nat) (trim : Int) (maxWait : Nat) : Statement (.voiceEnqueue q voice clip mask repeats gap threshold trim maxWait) :=
  request rfl rfl
theorem voiceCompletions (q : Byte) : Statement (.voiceCompletions q) :=
  request rfl rfl
theorem voiceFlush (q : Byte) (voice : Nat) : Statement (.voiceFlush q voice) :=
  request rfl rfl
theorem voiceSkip (q : Byte) (voice : Nat) : Statement (.voiceSkip q voice) :=
  request rfl rfl
theorem voiceStatus (q : Byte) (voice : Nat) : Statement (.voiceStatus q voice) :=
  request rfl rfl
theorem maxWaitExpiry (v : Voice) : Statement (.maxWaitExpiry v) :=
  event rfl
theorem gapExpiry (v : Voice) : Statement (.gapExpiry v) :=
  event rfl
theorem fadeComplete (v : Voice) : Statement (.fadeComplete v) :=
  event rfl
theorem tunerFront (q : Byte) (band : Option Band) (freq : Nat) : Statement (.tunerFront q band freq) :=
  request rfl rfl
theorem tunerRear (q : Byte) (zone : Nat) (band : Option Band) (freq : Nat) : Statement (.tunerRear q zone band freq) :=
  request rfl rfl
theorem tunerFlags (q : Byte) (op : Option SetOp) (flags : TunerFlags) : Statement (.tunerFlags q op flags) :=
  request rfl rfl
theorem tunerConfig (q : Byte) (afThreshold afHold afMargin seekThreshold : Nat) : Statement (.tunerConfig q afThreshold afHold afMargin seekThreshold) :=
  request rfl rfl
theorem tunerSeek (q : Byte) (dir : Option SeekDir) : Statement (.tunerSeek q dir) :=
  request rfl rfl
theorem tunerStatus (q : Byte) : Statement (.tunerStatus q) :=
  request rfl rfl
theorem tuneFadeDone (p : Path) : Statement (.tuneFadeDone p) :=
  event rfl
theorem tuneConfirmation (p : Path) (at_ : Station) : Statement (.tuneConfirmation p at_) :=
  event rfl
theorem confirmTimeout (p : Path) : Statement (.confirmTimeout p) :=
  event rfl
theorem settleDone (p : Path) : Statement (.settleDone p) :=
  event rfl
theorem failureRetry (p : Path) : Statement (.failureRetry p) :=
  event rfl
theorem pathMeasurement (p : Path) (fs mp adj : Nat) : Statement (.pathMeasurement p fs mp adj) :=
  event rfl
theorem decodedField (p : Path) (item : DecodedItem) : Statement (.decodedField p item) :=
  event rfl
theorem seekStepMeasurement (fs mp adj : Nat) : Statement (.seekStepMeasurement fs mp adj) :=
  event rfl
theorem afCheckBegin : Statement (.afCheckBegin) :=
  event rfl
theorem afTrialEnd : Statement (.afTrialEnd) :=
  event rfl
theorem peekStart : Statement (.peekStart) :=
  event rfl
theorem peekCandidateCommand : Statement (.peekCandidateCommand) :=
  event rfl
theorem peekMeasurement (fs mp adj : Nat) : Statement (.peekMeasurement fs mp adj) :=
  event rfl
theorem peekReturn : Statement (.peekReturn) :=
  event rfl
theorem stationList (q : Byte) (first : Nat) : Statement (.stationList q first) :=
  request rfl rfl
theorem stationRead (q : Byte) (slot : Nat) (reserve : Bool) : Statement (.stationRead q slot reserve) :=
  request rfl rfl
theorem stationWrite (q : Byte) (slot : Nat) (fields : StationFields) : Statement (.stationWrite q slot fields) :=
  request rfl rfl
theorem stationWriteCond (q : Byte) (slot : Nat) (fields : StationFields) : Statement (.stationWriteCond q slot fields) :=
  request rfl rfl
theorem stationDelete (q : Byte) (slot : Nat) : Statement (.stationDelete q slot) :=
  request rfl rfl
theorem stationPresetAssign (q : Byte) (preset slot : Nat) : Statement (.stationPresetAssign q preset slot) :=
  request rfl rfl
theorem stationPresetClear (q : Byte) (preset : Nat) : Statement (.stationPresetClear q preset) :=
  request rfl rfl
theorem stationPresetQuery (q : Byte) (preset : Nat) (opKnown : Bool) : Statement (.stationPresetQuery q preset opKnown) :=
  request rfl rfl
theorem stationAdmit (q : Byte) (op : Option SetOp) (mask : BitVec 32) : Statement (.stationAdmit q op mask) :=
  request rfl rfl
theorem stationAgeTick : Statement (.stationAgeTick) :=
  event rfl
theorem scanConfig (q : Byte) (interval permit admitQ : Nat) : Statement (.scanConfig q interval permit admitQ) :=
  request rfl rfl
theorem scanIntervalExpiry : Statement (.scanIntervalExpiry) :=
  event rfl
theorem scanVisitMeasurement (fs mp adj : Nat) : Statement (.scanVisitMeasurement fs mp adj) :=
  event rfl
theorem codeDwellEnd : Statement (.codeDwellEnd) :=
  event rfl
theorem scanWindowTimeout : Statement (.scanWindowTimeout) :=
  event rfl
theorem trafficStatus (q : Byte) : Statement (.trafficStatus q) :=
  request rfl rfl
theorem tailExpiry (p : Path) : Statement (.tailExpiry p) :=
  event rfl
theorem announcementAgeLimit (p : Path) : Statement (.announcementAgeLimit p) :=
  event rfl
theorem callRing (q : Byte) (mode clip gap : Nat) : Statement (.callRing q mode clip gap) :=
  request rfl rfl
theorem callAnswer (q : Byte) : Statement (.callAnswer q) :=
  request rfl rfl
theorem callHold (q : Byte) : Statement (.callHold q) :=
  request rfl rfl
theorem callResume (q : Byte) : Statement (.callResume q) :=
  request rfl rfl
theorem callEnd (q : Byte) : Statement (.callEnd q) :=
  request rfl rfl
theorem callMode (q : Byte) (mode : Nat) : Statement (.callMode q mode) :=
  request rfl rfl
theorem callTrim (q : Byte) (down up : Int) : Statement (.callTrim q down up) :=
  request rfl rfl
theorem callEchoConfig (q : Byte) (tc tt : Nat) : Statement (.callEchoConfig q tc tt) :=
  request rfl rfl
theorem callStatus (q : Byte) : Statement (.callStatus q) :=
  request rfl rfl
theorem micLevelDelivery (speech noise : PerMic Gain) : Statement (.micLevelDelivery speech noise) :=
  event rfl
theorem noiseForming : Statement (.noiseForming) :=
  event rfl
theorem echoEstimate (erle : Nat) (doubleTalk : Bool) : Statement (.echoEstimate erle doubleTalk) :=
  event rfl
theorem echoConverged : Statement (.echoConverged) :=
  event rfl
theorem frozenHangEnd : Statement (.frozenHangEnd) :=
  event rfl
theorem vehicleSpeed (q : Byte) (parameters : List Byte) : Statement (.vehicleSpeed q parameters) :=
  request rfl rfl
theorem vehicleChime (q : Byte) (parameters : List Byte) : Statement (.vehicleChime q parameters) :=
  request rfl rfl
theorem vehicleChimeStop (q : Byte) (parameters : List Byte) : Statement (.vehicleChimeStop q parameters) :=
  request rfl rfl
theorem vehicleOverride (q : Byte) (parameters : List Byte) : Statement (.vehicleOverride q parameters) :=
  request rfl rfl
theorem vehicleStatus (q : Byte) : Statement (.vehicleStatus q) :=
  request rfl rfl
theorem speed (v : Nat) : Statement (.speed v) :=
  event rfl
theorem speedStale : Statement (.speedStale) :=
  event rfl
theorem chime (clip mask repeats gap : Nat) : Statement (.chime clip mask repeats gap) :=
  event rfl
theorem chimeStop : Statement (.chimeStop) :=
  event rfl
theorem overrideEnter : Statement (.overrideEnter) :=
  event rfl
theorem overrideExitResume : Statement (.overrideExitResume) :=
  event rfl
theorem overrideExitDrop : Statement (.overrideExitDrop) :=
  event rfl
theorem vehicleFrameIgnored (frame : VehicleFrame) : Statement (.vehicleFrameIgnored frame) :=
  event rfl
theorem statusPeriod : Statement (.statusPeriod) :=
  event rfl
theorem statusSent : Statement (.statusSent) :=
  event rfl
theorem chimeDoneSent : Statement (.chimeDoneSent) :=
  event rfl
theorem watchSet (q : Byte) (slot : Nat) (quantity : Option QuantityField) (threshold : Int) (cond : Option WatchCond) (hold : Nat) (mode : Option WatchMode) (action : Option ActionField) : Statement (.watchSet q slot quantity threshold cond hold mode action) :=
  request rfl rfl
theorem watchClear (q : Byte) (slot : Nat) : Statement (.watchClear q slot) :=
  request rfl rfl
theorem watchQuery (q : Byte) (slot : Nat) : Statement (.watchQuery q slot) :=
  request rfl rfl
theorem watchFire (slot : Nat) : Statement (.watchFire slot) :=
  event rfl
theorem replyFrameSent : Statement (.replyFrameSent) :=
  event rfl

end Sys2Proof.Laws.RequestCodes
end

