-- ==== Sys2Proof/Laws/Port.lean ====
section
/-! SUPPORT. Taking a request for service: what serve answers, what a reply leaves behind, and the front of the queue. -/

namespace Sys2Proof.Machine

theorem afterReplies_of_none (l : List TxFrame) (h : l.any TxFrame.isReply = false) : afterReplies l = l := by
  cases l with
  | nil => rfl
  | cons f fs =>
    simp only [List.any_cons, Bool.or_eq_false_iff] at h
    simp [afterReplies, h.1, h.2]

/-- Where no reply waits, none leaves. -/
theorem waitingReply_none (l : List TxFrame) : waitingReply l = none ↔ l.any TxFrame.isReply = false := by
  induction l with
  | nil => simp [waitingReply]
  | cons f fs ih => cases f <;> simp_all [waitingReply, TxFrame.isReply]

theorem Port.replyLeaves_of_none (p : Port) (h : p.tx.any TxFrame.isReply = false) : p.replyLeaves = p := by
  simp [Port.replyLeaves, (waitingReply_none p.tx).2 h]

/-- What a leaving reply does: it takes the frames before it along and stands on the line. -/
theorem Port.replyLeaves_eq (p : Port) :
    p.replyLeaves = { p with tx := afterReplies p.tx, lineOut := p.replyLeaves.lineOut } := by
  unfold Port.replyLeaves
  split
  · rfl
  · rename_i h; rw [afterReplies_of_none _ ((waitingReply_none _).1 h)]

/-- What a request taken for service leaves of the port. -/
theorem Port.spendFor_eq (p : Port) (code seq : Byte) :
    p.spendFor code seq = { p with held := (p.spendFor code seq).held, rx := (p.spendFor code seq).rx } := by
  unfold Port.spendFor
  (repeat' split) <;> rfl

/-- What taking a request and sending its reply leave, where the request's own effect `u` of the state has nothing to do with the frames
that wait: `v` is that effect on the state in which the reply before has left. -/
theorem repliesWith_reply {u v : State} (code q : Byte) (r : Reply)
    (h : v = { u with port := { u.port with tx := v.port.tx, lineOut := u.port.replyLeaves.lineOut } })
    (hx : v.port.tx = afterReplies u.port.tx) : RepliesWith u (v.reply code q r) code q r := by
  refine ⟨?_, ?_, ?_⟩
  · rw [h]; simp only [State.reply, State.mapPort, Port.sendReply, Port.spendFor]
    (repeat' split) <;> rfl
  · simp [State.reply, Port.sendReply]
  · intro hn
    simp [State.reply, Port.sendReply, hx, afterReplies_of_none _ hn]

/-- The same where the effect is named on the state in which the reply before has left. -/
theorem repliesWith_self (v : State) (code q : Byte) (r : Reply) (h : v.port.tx.any TxFrame.isReply = false) :
    RepliesWith v (v.reply code q r) code q r :=
  ⟨by
    rw [Port.replyLeaves_of_none _ h]; simp only [State.reply, State.mapPort, Port.sendReply, Port.spendFor]
    (repeat' split) <;> rfl, by simp [State.reply, Port.sendReply], fun _ => by simp [State.reply, Port.sendReply]⟩

@[simp] theorem State.taking_frame (s : State) :
    s.taking.port.op = s.port.op ∧ s.taking.port.resetPending = s.port.resetPending ∧
    s.taking.port.flags = s.port.flags ∧ s.taking.port.mask = s.port.mask ∧
    s.taking.port.tx = afterReplies s.port.tx ∧ s.taking.pending = s.pending ∧ s.taking.free = s.free ∧
    s.taking.arb = s.arb ∧ s.taking.rend = s.rend ∧ s.taking.bank = s.bank ∧ s.taking.pool = s.pool ∧
    s.taking.voc = s.voc ∧ s.taking.tun = s.tun ∧ s.taking.sta = s.sta ∧ s.taking.scan = s.scan ∧
    s.taking.traf = s.traf ∧ s.taking.call = s.call ∧ s.taking.veh = s.veh ∧ s.taking.wat = s.wat := by
  rw [State.taking, State.mapPort, Port.replyLeaves_eq]; simp

@[simp] theorem State.running_iff (s : State) : s.running = true ↔ s.port.op = .run := by
  simp [State.running]

/-- A request that passes its gate. -/
theorem serve_done {cls verb : Nat} {q : Byte} {g : Gate} {s : State} {body : State → Reply × State}
    (hp : s.port.resetPending = false) (hg : gateRefusal g s = none) :
    serve cls verb q g s body = .next ((body s.taking).2.reply (codeByte cls verb) q (body s.taking).1) := by
  unfold serve; simp [hp, hg]

theorem serve_runOnly {cls verb : Nat} {q : Byte} {s : State} {body : State → Reply × State} (h : Serves s) :
    serve cls verb q .runOnly s body = .next ((body s.taking).2.reply (codeByte cls verb) q (body s.taking).1) :=
  serve_done h.2 (by simp [gateRefusal, State.running, h.1])

theorem serve_lockable {cls verb : Nat} {q : Byte} {s : State} {body : State → Reply × State} (h : Unlocked s) :
    serve cls verb q .lockable s body = .next ((body s.taking).2.reply (codeByte cls verb) q (body s.taking).1) :=
  serve_done h.1.2 (by simp [gateRefusal, State.running, h.1.1, h.2])

theorem serve_always {cls verb : Nat} {q : Byte} {s : State} {body : State → Reply × State}
    (h : s.port.resetPending = false) :
    serve cls verb q .always s body = .next ((body s.taking).2.reply (codeByte cls verb) q (body s.taking).1) :=
  serve_done h rfl

/-- Every request with a form is served: its class and verb give its code byte, and its gate is the one that R175 and R187 give the code. -/
theorem exec_request {c : Instr} {code q : Byte} (s : State) (h : requestOf c = some (code, q)) (hf : formed c = true) :
    ∃ cls verb g body, exec c s = serve cls verb q g s body ∧ codeByte cls verb = code ∧
      (g = .lockable ↔ code ∈ lockedCodes) ∧ (g = .always ↔ code ∈ startupCodes) := by
  cases c <;> simp only [requestOf, Option.some.injEq, Prod.mk.injEq, reduceCtorEq] at h <;>
    obtain ⟨rfl, rfl⟩ := h <;> (try (rename_i fields; cases fields; · simp [formed] at hf)) <;> simp only [exec, List.isEmpty,
    Bool.false_eq_true, if_false,
    execSysIdentify, execSysStart, execSysReset, execSysNoticeMask, execSysNoticeAck, execZoneSelect, execZonePolicy, 
    execZoneStatus, execZoneVolume, execZoneTrim, execZoneLevels, execProfileStage, execProfileRead, execProfileRelease, 
    execProfileDiscard, execPoolAlloc, execPoolPending, execPoolCancel, execPoolSeek, execPoolWrite, execPoolRead, 
    execPoolSeal, execPoolRelease, execPoolStatus, execPoolClip, execVoiceEnqueue, execVoiceCompletions, execVoiceFlush, 
    execVoiceSkip, execVoiceStatus, execTunerFront, execTunerRear, execTunerFlags, execTunerConfig, execTunerSeek, 
    execTunerStatus, execStationList, execStationRead, execStationWrite, execStationWriteCond, execStationDelete, 
    execStationAdmit, execScanConfig, execTrafficStatus, execCallRing, execCallAnswer, execCallHold, execCallResume, 
    execCallEnd, execCallMode, execCallTrim, execCallEchoConfig, execCallStatus, execVehicleSpeed, execVehicleChime, 
    execVehicleChimeStop, execVehicleOverride, execVehicleStatus, execWatchSet, execWatchClear, execWatchQuery, 
    execSysLoadTableOnly, execSysLoadTableFirst, execSysLoadTableMore, execSysLoadTableLast, execProfileTakeNow, 
    execProfileTakeHold, execStationPresetAssign, execStationPresetClear, execStationPresetQuery] <;>
    exact ⟨_, _, _, _, rfl, rfl, by decide, by decide⟩

/-- Everything that serving can answer. -/
theorem serve_cases (cls verb : Nat) (q : Byte) (g : Gate) (s : State) (body : State → Reply × State) :
    (s.port.resetPending = true ∧ serve cls verb q g s body = .next s) ∨
    (s.port.resetPending = false ∧ ∃ c, gateRefusal g s = some c ∧
      serve cls verb q g s body = .next (s.taking.reply (codeByte cls verb) q (.refused c []))) ∨
    (s.port.resetPending = false ∧ gateRefusal g s = none ∧
      serve cls verb q g s body = .next ((body s.taking).2.reply (codeByte cls verb) q (body s.taking).1)) := by
  unfold serve
  cases h : s.port.resetPending
  · cases hg : gateRefusal g s <;> simp
  · simp

/-- Serving keeps what a reply and the owner's body keep. -/
theorem serve_keeps {cls verb : Nat} {q : Byte} {g : Gate} {s t : State} {body : State → Reply × State} {P : State → Prop}
    (ho : serve cls verb q g s body = .next t) (hs : P s) (ht : P s.taking) (hb : P (body s.taking).2)
    (hr : ∀ u c q r, P u → P (u.reply c q r)) : P t := by
  rcases serve_cases cls verb q g s body with ⟨-, h⟩ | ⟨-, c, -, h⟩ | ⟨-, -, h⟩ <;> rw [h] at ho <;>
    obtain rfl := Host.Outcome.next.inj ho
  · exact hs
  · exact hr _ _ _ _ ht
  · exact hr _ _ _ _ hb

/-- Every served request answers a next state. -/
theorem serve_next (cls verb : Nat) (q : Byte) (g : Gate) (s : State) (body : State → Reply × State) :
    ∃ t, serve cls verb q g s body = .next t := by
  rcases serve_cases cls verb q g s body with ⟨-, h⟩ | ⟨-, c, -, h⟩ | ⟨-, -, h⟩ <;> exact ⟨_, h⟩

end Sys2Proof.Machine
end

