-- ==== Sys2Proof/Laws/TunerFrames.lean ====
section
/-! SUPPORT. One frame lemma for each operation of the station table, the tuner paths and the scan controller. -/

namespace Sys2Proof.Machine

set_option linter.unusedTactic false
set_option linter.unnecessarySeqFocus false

theorem countSlots_length (os ns : List StaSlot) : (countSlots os ns).length = ns.length := by
  induction os generalizing ns with
  | nil => cases ns <;> rfl
  | cons o os ih => cases ns <;> simp [countSlots, ih]

@[simp] theorem updateAt_length {α : Type} (f : α → α) (n : Nat) (l : List α) : (updateAt f n l).length = l.length := by
  induction l generalizing n with
  | nil => cases n <;> rfl
  | cons a l ih => cases n <;> simp [updateAt, ih]

@[simp] theorem Table.count_frame (old new : Table) :
    (old.count new).slots.length = new.slots.length ∧ (old.count new).mask = new.mask ∧ (old.count new).admitQ = new.admitQ ∧ (old.count new).presets = new.presets ∧
    (old.count new).assoc = new.assoc := by
  simp [Table.count, countSlots_length]

/-- What the operations of the station table leave of it. -/
abbrev FrameS (t u : Table) : Prop :=
  u.mask = t.mask ∧ u.admitQ = t.admitQ ∧ u.slots.length = t.slots.length ∧ u.presets.length = t.presets.length

@[simp] theorem Table.setAssoc_frame (t : Table) (p : Path) (a : Assoc) : FrameS t (t.setAssoc p a) := by simp [FrameS, Table.setAssoc]
@[simp] theorem Table.mapRec_frame (t : Table) (n : Nat) (f : StationRec → StationRec) : FrameS t (t.mapRec n f) := by
  simp [FrameS, Table.mapRec]
@[simp] theorem Table.setRec_frame (t : Table) (n : Nat) (r : Option StationRec) : FrameS t (t.setRec n r) := by
  simp [FrameS, Table.setRec]
@[simp] theorem Table.mapPreset_frame (t : Table) (n : Nat) (f : Option Preset → Option Preset) : FrameS t (t.mapPreset n f) := by
  simp [FrameS, Table.mapPreset]
@[simp] theorem Table.linkPreset_frame (t : Table) (n k : Nat) : FrameS t (t.linkPreset n k) := by
  simp [FrameS, Table.linkPreset]
@[simp] theorem Table.orphan_frame (t : Table) (n : Nat) : FrameS t (t.orphan n) := by simp [FrameS, Table.orphan]
@[simp] theorem Table.enter_frame (t : Table) (n : Nat) (r : StationRec) : FrameS t (t.enter n r) := by
  unfold Table.enter; split <;> simp [FrameS]
@[simp] theorem Table.leave_frame (t : Table) (n : Nat) : FrameS t (t.leave n) := by simp [FrameS, Table.leave]

theorem Table.create_frame {t u : Table} {r : StationRec} {n : Nat} (h : t.create r = some (n, u)) : FrameS t u := by
  unfold Table.create at h
  split at h
  · obtain ⟨-, rfl⟩ := Prod.mk.inj (Option.some.inj h); simp [FrameS]
  · split at h
    · obtain ⟨-, rfl⟩ := Prod.mk.inj (Option.some.inj h); simp [FrameS]
    · cases h

@[simp] theorem Table.createFor_frame (t : Table) (p : Path) (x : PathRec) (a : Bool) : FrameS t (t.createFor p x a) := by
  unfold Table.createFor
  split
  · rename_i h; have := Table.create_frame h; simp_all [FrameS]
  · simp [FrameS]

@[simp] theorem Table.associate_frame (t : Table) (p : Path) (x : PathRec) : FrameS t (t.associate p x) := by
  unfold Table.associate; split <;> simp [FrameS]

/-- R124: a touch leaves every record. -/
@[simp] theorem Table.touch_recAt (t : Table) (n m : Nat) : (t.touch n).recAt m = t.recAt m := by
  have h : ∀ (l : List StaSlot) (i j : Nat),
      (updateAt (fun x => { x with revision := x.revision + 1 }) i l)[j]?.bind StaSlot.record = l[j]?.bind StaSlot.record := by
    intro l
    induction l with
    | nil => intro i j; cases i <;> rfl
    | cons a l ih =>
      intro i j
      match i, j with
      | 0, 0 => rfl
      | 0, _ + 1 => rfl
      | _ + 1, 0 => rfl
      | i + 1, j + 1 => exact ih i j
  exact h t.slots n m

@[simp] theorem Table.touch_frame (t : Table) (n : Nat) : FrameS t (t.touch n) := by simp [FrameS, Table.touch]

@[simp] theorem Table.merge_frame (t : Table) (a b : Nat) : FrameS t (t.merge a b) := by
  unfold Table.merge; dsimp only; (repeat' split) <;> simp [FrameS]

@[simp] theorem Table.codeArrives_frame (t : Table) (p : Path) (x : PathRec) (o : Bool) (c : Nat) :
    FrameS t (t.codeArrives p x o c) := by
  unfold Table.codeArrives; dsimp only; (repeat' split) <;> simp [FrameS]

@[simp] theorem Table.fieldArrives_frame (t : Table) (p : Path) (i : DecodedItem) (l : List Nat) : FrameS t (t.fieldArrives p i l) := by
  unfold Table.fieldArrives; (repeat' split) <;> simp [FrameS]

@[simp] theorem Table.afQuality_frame (t : Table) (x : PathRec) (f q : Nat) : FrameS t (t.afQuality x f q) := by
  unfold Table.afQuality; split <;> simp [FrameS]

@[simp] theorem Table.afPrimary_frame (t : Table) (x : PathRec) (f : Nat) : FrameS t (t.afPrimary x f) := by
  unfold Table.afPrimary; split <;> simp [FrameS]

@[simp] theorem Table.scanQuality_frame (t : Table) (f q : Nat) : FrameS t (t.scanQuality f q) := by
  simp [FrameS, Table.scanQuality]

@[simp] theorem Table.createScan_frame (t : Table) (c f q : Nat) (d : Decoded) : FrameS t (t.createScan c f q d) := by
  unfold Table.createScan
  split
  · rename_i h; have := Table.create_frame h; simp_all [FrameS]
  · simp [FrameS]

@[simp] theorem Table.dwell_frame (t : Table) (f q : Nat) (d : Decoded) : FrameS t (t.dwell f q d) := by
  unfold Table.dwell; dsimp only; (repeat' split) <;> simp [FrameS]

@[simp] theorem Table.unlink_frame (t : Table) (p : Nat) : FrameS t (t.unlink p) := by simp [FrameS, Table.unlink]

@[simp] theorem Table.assign_frame (t : Table) (p n : Nat) (r : StationRec) : FrameS t (t.assign p n r) := by
  unfold Table.assign; dsimp only; (repeat' split) <;> simp [FrameS]

@[simp] theorem State.countDevice_frame (old s : State) : TunerFrame s (State.countDevice old s) := by
  unfold State.countDevice; (try dsimp only); (repeat' split) <;> simp [TunerFrame]

@[simp] theorem State.countHost_frame (old s : State) : TunerFrame s (State.countHost old s) := by
  unfold State.countHost; (try dsimp only); (repeat' split) <;> simp [TunerFrame]

@[simp] theorem State.setPath_frame (s : State) (p : Path) (x : PathRec) : TunerFrame s (s.setPath p x) := by
  unfold State.setPath; (try dsimp only); (repeat' split) <;> simp [TunerFrame]

@[simp] theorem State.dropAssoc_frame (s : State) (p : Path) : TunerFrame s (s.dropAssoc p) := by
  unfold State.dropAssoc; (try dsimp only); (repeat' split) <;> simp [TunerFrame]

@[simp] theorem Tuner.emptyHold_frame (t : Tuner) :
    t.emptyHold.flags = t.flags ∧ t.emptyHold.settings = t.settings ∧ t.emptyHold.path = t.path ∧ t.emptyHold.seek = t.seek ∧
    t.emptyHold.wishL = t.wishL ∧ t.emptyHold.wishR = t.wishR ∧ t.emptyHold.check = t.check ∧ t.emptyHold.peek = t.peek ∧
    t.emptyHold.peekAge = t.peekAge ∧ t.emptyHold.holdCount = 0 ∧ t.emptyHold.holdDue = false := by simp [Tuner.emptyHold]

@[simp] theorem State.beginTune_frame (s : State) (p : Path) (st : Station) : TunerFrame s (s.beginTune p st) := by
  unfold State.beginTune; (try dsimp only); (repeat' split) <;> simp [TunerFrame]

@[simp] theorem State.startTune_frame (s : State) (p : Path) (st : Station) : TunerFrame s (s.startTune p st) := by
  unfold State.startTune; (try dsimp only); (repeat' split) <;> simp [TunerFrame]

@[simp] theorem State.startInterval_frame (s : State) : TunerFrame s (s.startInterval) := by
  unfold State.startInterval; (try dsimp only); (repeat' split) <;> simp [TunerFrame]

@[simp] theorem State.endWindow_frame (s : State) : TunerFrame s (s.endWindow) := by
  unfold State.endWindow; (try dsimp only); (repeat' split) <;> simp [TunerFrame]

@[simp] theorem State.cancelTrial_frame (s : State) : TunerFrame s (s.cancelTrial) := by
  unfold State.cancelTrial; (try dsimp only); (repeat' split) <;> simp [TunerFrame]

@[simp] theorem State.enterRear_frame (s : State) (st : Station) : TunerFrame s (s.enterRear st) := by
  unfold State.enterRear; (try dsimp only); (repeat' split) <;> simp [TunerFrame]

@[simp] theorem State.setRole_frame (s : State) (r : Role) (st : Option Station) : TunerFrame s (s.setRole r st) := by
  unfold State.setRole; (try dsimp only); (repeat' split) <;> simp [TunerFrame]

@[simp] theorem State.sendP2_frame (s : State) (st : Option Station) : TunerFrame s (s.sendP2 st) := by
  unfold State.sendP2; (try dsimp only); (repeat' split) <;> simp [TunerFrame]

@[simp] theorem State.planP2_frame (s : State) : TunerFrame s (s.planP2) := by
  unfold State.planP2; (try dsimp only); (repeat' split) <;> simp [TunerFrame]

@[simp] theorem State.nameVisit_frame (s : State) : TunerFrame s (s.nameVisit) := by
  unfold State.nameVisit; (try dsimp only); (repeat' split) <;> simp [TunerFrame]

@[simp] theorem State.beginWindow_frame (s : State) : TunerFrame s (s.beginWindow) := by
  unfold State.beginWindow; (try dsimp only); (repeat' split) <;> simp [TunerFrame]

@[simp] theorem State.scanAfterAf_frame (s : State) : TunerFrame s (s.scanAfterAf) := by
  unfold State.scanAfterAf; (try dsimp only); (repeat' split) <;> simp [TunerFrame]

@[simp] theorem State.setWish_frame (s : State) (z : Zone) (w : Wish) : TunerFrame s (s.setWish z w) := by
  unfold State.setWish; (try dsimp only); (repeat' split) <;> simp [TunerFrame]

@[simp] theorem State.followCabin_frame (s : State) (z : Zone) : TunerFrame s (s.followCabin z) := by
  unfold State.followCabin; (try dsimp only); (repeat' split) <;> simp [TunerFrame]

@[simp] theorem State.joinP1_frame (s : State) (z : Zone) : TunerFrame s (s.joinP1 z) := by
  unfold State.joinP1; (try dsimp only); (repeat' split) <;> simp [TunerFrame]

@[simp] theorem State.takeP2_frame (s : State) (z : Zone) : TunerFrame s (s.takeP2 z) := by
  unfold State.takeP2; (try dsimp only); (repeat' split) <;> simp [TunerFrame]

@[simp] theorem State.resolveWishes_frame (s : State) : TunerFrame s (s.resolveWishes) := by
  unfold State.resolveWishes; (try dsimp only); (repeat' split) <;> simp [TunerFrame]

@[simp] theorem State.finishCheck_frame (s : State) : TunerFrame s (s.finishCheck) := by
  unfold State.finishCheck; (try dsimp only); (repeat' split) <;> simp [TunerFrame]

@[simp] theorem State.abandonCheck_frame (s : State) : TunerFrame s (s.abandonCheck) := by
  unfold State.abandonCheck; (try dsimp only); (repeat' split) <;> simp [TunerFrame]

@[simp] theorem State.switchTo_frame (s : State) (f : Nat) : TunerFrame s (s.switchTo f) := by
  unfold State.switchTo; (try dsimp only); (repeat' split) <;> simp [TunerFrame]

@[simp] theorem State.judge_frame (s : State) (c : AfCheck) (f q : Nat) (code : Option Nat) :
    TunerFrame s (s.judge c f q code).1 := by
  unfold State.judge; (try dsimp only); (repeat' split) <;> simp [TunerFrame]

@[simp] theorem State.beginTrial_frame (s : State) (c : AfCheck) (f : Nat) : TunerFrame s (s.beginTrial c f) := by
  unfold State.beginTrial; (try dsimp only); (repeat' split) <;> simp [TunerFrame]

@[simp] theorem State.afTry_frame (l : List Nat) (s : State) : TunerFrame s (State.afTry l s) := by
  induction l generalizing s with
  | nil => unfold State.afTry; split <;> simp [TunerFrame]
  | cons f fs ih =>
    unfold State.afTry
    split
    · simp [TunerFrame]
    · rename_i c h
      have h := ih (s.judge c f (s.path .p2).q (s.path .p2).decoded.code).1
      dsimp only
      (repeat' split) <;> first | (simp [TunerFrame]; done) | simpa [TunerFrame] using h

@[simp] theorem State.afAdvance_frame (s : State) : TunerFrame s (s.afAdvance) := by
  unfold State.afAdvance; (try dsimp only); (repeat' split) <;> simp [TunerFrame]

@[simp] theorem State.replan_frame (s : State) : TunerFrame s (s.replan) := by
  unfold State.replan; (try dsimp only); (repeat' split) <;> simp [TunerFrame]

@[simp] theorem State.enterLocked_frame (s : State) (p : Path) : TunerFrame s (s.enterLocked p) := by
  unfold State.enterLocked; (try dsimp only); (repeat' split) <;> simp [TunerFrame]

@[simp] theorem State.failFront_frame (s : State) : TunerFrame s (s.failFront) := by
  unfold State.failFront; (try dsimp only); (repeat' split) <;> simp [TunerFrame]

@[simp] theorem State.strand_frame (s : State) (z : Zone) : TunerFrame s (s.strand z) := by
  unfold State.strand; (try dsimp only); (repeat' split) <;> simp [TunerFrame]

@[simp] theorem State.failPath_frame (s : State) (p : Path) : TunerFrame s (s.failPath p) := by
  unfold State.failPath; (try dsimp only); (repeat' split) <;> simp [TunerFrame]

@[simp] theorem State.seekStep_frame (s : State) (k : Seek) : TunerFrame s (s.seekStep k) := by
  unfold State.seekStep; (try dsimp only); (repeat' split) <;> simp [TunerFrame]

@[simp] theorem State.seekStop_frame (s : State) : TunerFrame s (s.seekStop) := by
  unfold State.seekStop; (try dsimp only); (repeat' split) <;> simp [TunerFrame]

@[simp] theorem State.endVisit_frame (s : State) : TunerFrame s (s.endVisit) := by
  unfold State.endVisit; (try dsimp only); (repeat' split) <;> simp [TunerFrame]

@[simp] theorem State.frontTune_frame (s : State) (st : Station) : TunerFrame s (s.frontTune st) := by
  unfold State.frontTune; (try dsimp only); (repeat' split) <;> simp [TunerFrame]

@[simp] theorem State.afCleared_frame (s : State) : TunerFrame s (s.afCleared) := by
  unfold State.afCleared; (try dsimp only); (repeat' split) <;> simp [TunerFrame]

@[simp] theorem State.scanCleared_frame (s : State) : TunerFrame s (s.scanCleared) := by
  unfold State.scanCleared; (try dsimp only); (repeat' split) <;> simp [TunerFrame]

@[simp] theorem State.scanSet_frame (s : State) : TunerFrame s (s.scanSet) := by
  unfold State.scanSet; (try dsimp only); (repeat' split) <;> simp [TunerFrame]

@[simp] theorem State.enterSeek_frame (s : State) (d : SeekDir) : TunerFrame s (s.enterSeek d) := by
  unfold State.enterSeek; (try dsimp only); (repeat' split) <;> simp [TunerFrame]

@[simp] theorem State.fadeDone_frame (s : State) (p : Path) : TunerFrame s (s.fadeDone p) := by
  unfold State.fadeDone; (try dsimp only); (repeat' split) <;> simp [TunerFrame]

@[simp] theorem State.confirmed_frame (s : State) (p : Path) (st : Station) : TunerFrame s (s.confirmed p st) := by
  unfold State.confirmed; (try dsimp only); (repeat' split) <;> simp [TunerFrame]

@[simp] theorem State.unconfirmed_frame (s : State) (p : Path) : TunerFrame s (s.unconfirmed p) := by
  unfold State.unconfirmed; (try dsimp only); (repeat' split) <;> simp [TunerFrame]

@[simp] theorem State.settled_frame (s : State) (p : Path) : TunerFrame s (s.settled p) := by
  unfold State.settled; (try dsimp only); (repeat' split) <;> simp [TunerFrame]

@[simp] theorem State.retryTune_frame (s : State) (p : Path) : TunerFrame s (s.retryTune p) := by
  unfold State.retryTune; (try dsimp only); (repeat' split) <;> simp [TunerFrame]

@[simp] theorem Tuner.raiseHold_frame (t : Tuner) :
    t.raiseHold.flags = t.flags ∧ t.raiseHold.settings = t.settings ∧ t.raiseHold.path = t.path ∧
    t.raiseHold.check = t.check := by simp [Tuner.raiseHold]

@[simp] theorem State.holdStep_frame (s : State) : TunerFrame s (s.holdStep) := by
  unfold State.holdStep; (try dsimp only); (repeat' split) <;> simp [TunerFrame]

@[simp] theorem State.trialStep_frame (s : State) (q : Nat) : TunerFrame s (s.trialStep q) := by
  unfold State.trialStep; (try dsimp only); (repeat' split) <;> simp [TunerFrame]

@[simp] theorem State.assocStep_frame (s : State) (p : Path) : TunerFrame s (s.assocStep p) := by
  unfold State.assocStep; (try dsimp only); (repeat' split) <;> simp [TunerFrame]

@[simp] theorem State.measure_frame (s : State) (p : Path) (fs mp adj : Nat) : TunerFrame s (s.measure p fs mp adj) := by
  unfold State.measure; (try dsimp only); (repeat' split) <;> simp [TunerFrame]

@[simp] theorem State.tableItem_frame (s : State) (p : Path) (item : DecodedItem) : TunerFrame s (s.tableItem p item) := by
  unfold State.tableItem; (try dsimp only); (repeat' split) <;> simp [TunerFrame]

@[simp] theorem State.decodeItem_frame (s : State) (p : Path) (item : DecodedItem) : TunerFrame s (s.decodeItem p item) := by
  unfold State.decodeItem; (try dsimp only); (repeat' split) <;> simp [TunerFrame]

@[simp] theorem State.seekMeasure_frame (s : State) (fs mp adj : Nat) : TunerFrame s (s.seekMeasure fs mp adj) := by
  unfold State.seekMeasure; (try dsimp only); (repeat' split) <;> simp [TunerFrame]

@[simp] theorem State.checkBegin_frame (s : State) : TunerFrame s (s.checkBegin) := by
  unfold State.checkBegin; (try dsimp only); (repeat' split) <;> simp [TunerFrame]

@[simp] theorem State.trialEnd_frame (s : State) : TunerFrame s (s.trialEnd) := by
  unfold State.trialEnd; (try dsimp only); (repeat' split) <;> simp [TunerFrame]

@[simp] theorem State.peekBegin_frame (s : State) : TunerFrame s (s.peekBegin) := by
  unfold State.peekBegin; (try dsimp only); (repeat' split) <;> simp [TunerFrame]

@[simp] theorem State.peekCommand_frame (s : State) : TunerFrame s (s.peekCommand) := by
  unfold State.peekCommand; (try dsimp only); (repeat' split) <;> simp [TunerFrame]

@[simp] theorem State.peekMeasure_frame (s : State) (fs mp adj : Nat) : TunerFrame s (s.peekMeasure fs mp adj) := by
  unfold State.peekMeasure; (try dsimp only); (repeat' split) <;> simp [TunerFrame]

@[simp] theorem State.peekEnd_frame (s : State) : TunerFrame s (s.peekEnd) := by
  unfold State.peekEnd; (try dsimp only); (repeat' split) <;> simp [TunerFrame]

@[simp] theorem State.writeRecord_frame (s : State) (slot : Nat) (r : StationRec) (enters : Bool) : TunerFrame s (s.writeRecord slot r enters) := by
  unfold State.writeRecord; (try dsimp only); (repeat' split) <;> simp [TunerFrame]

@[simp] theorem State.dropReservation_frame (s : State) : TunerFrame s (s.dropReservation) := by
  unfold State.dropReservation; (try dsimp only); (repeat' split) <;> simp [TunerFrame]

@[simp] theorem State.agesRise_frame (s : State) : TunerFrame s (s.agesRise) := by
  unfold State.agesRise; (try dsimp only); (repeat' split) <;> simp [TunerFrame]

@[simp] theorem State.scanDue_frame (s : State) : TunerFrame s (s.scanDue) := by
  unfold State.scanDue; (try dsimp only); (repeat' split) <;> simp [TunerFrame]

@[simp] theorem State.visitMeasure_frame (s : State) (fs mp adj : Nat) : TunerFrame s (s.visitMeasure fs mp adj) := by
  unfold State.visitMeasure; (try dsimp only); (repeat' split) <;> simp [TunerFrame]

@[simp] theorem State.dwellEnd_frame (s : State) : TunerFrame s (s.dwellEnd) := by
  unfold State.dwellEnd; (try dsimp only); (repeat' split) <;> simp [TunerFrame]

@[simp] theorem State.windowEnd_frame (s : State) : TunerFrame s (s.windowEnd) := by
  unfold State.windowEnd; (try dsimp only); (repeat' split) <;> simp [TunerFrame]

theorem State.rearTune_frame {s t : State} {z : Zone} {st : Station} (h : s.rearTune z st = .ok t) : TunerFrame s t := by
  unfold State.rearTune at h
  (repeat' split at h)
  · obtain rfl := Except.ok.inj h; simp [TunerFrame]
  · cases h
  · cases h
  · obtain rfl := Except.ok.inj h; simp [TunerFrame]

end Sys2Proof.Machine
end

