-- ==== Sys2Proof/Laws/Sound.lean ====
section
/-! SUPPORT. What every operation does to the claim lists and the pages of the pool: each zone's list stays in order with one claim of
a source, and no page is held twice (R2 to R5, R62, R63). -/

namespace Sys2Proof.Machine

set_option linter.unusedTactic false
set_option linter.unnecessarySeqFocus false
set_option linter.unusedVariables false

/-- The claim lists of every zone and the pool's pages are sound. -/
def Sound (s : State) : Prop := (∀ z, ClaimsOk (s.arb.zones.get z)) ∧ PagesOnce s.pool

/-! ## Claim lists -/

/-- What ClaimsOk reads of a claim. -/
def Claim.key (c : Claim) : Source × ClaimClass × Nat := (c.source, c.cls, c.arrival)

/-- The two orders of R3. -/
abbrev above (c d : Source × ClaimClass × Nat) : Prop :=
  d.2.1.priority < c.2.1.priority ∨ (d.2.1.priority = c.2.1.priority ∧ c.2.2 < d.2.2)

/-- ClaimsOk as a property of the keys. -/
def KeysOk (n : Nat) (l : List (Source × ClaimClass × Nat)) : Prop :=
  l.Pairwise above ∧ (l.map Prod.fst).Nodup ∧ (∀ k ∈ l, k.2.1 = classOf k.1 ∧ k.2.2 < n) ∧
  ∀ k ∈ l, ∀ m ∈ l, k.2.1 = .entertainment → m.2.1 = .entertainment → k.1 = m.1

theorem claimsOk_iff (zs : ZoneState) : ClaimsOk zs ↔ KeysOk zs.nextArrival (zs.claims.map Claim.key) := by
  simp [ClaimsOk, KeysOk, List.pairwise_map, Claim.key, List.map_map, Function.comp_def]

theorem KeysOk.sublist {n : Nat} {l m : List (Source × ClaimClass × Nat)} (h : KeysOk n m) (hs : l.Sublist m) : KeysOk n l :=
  ⟨h.1.sublist hs, h.2.1.sublist (hs.map _), fun k hk => h.2.2.1 k (hs.subset hk),
    fun k hk j hj => h.2.2.2 k (hs.subset hk) j (hs.subset hj)⟩

/-- An evaluation, an admission and the end of a yield change states and marks alone. -/
theorem naturals_length (rows : PolicyRows) (a : Above) (cs : List Claim) : (naturals rows a cs).length = cs.length := by
  induction cs generalizing a with
  | nil => rfl
  | cons c cs ih => simp [naturals, ih]

theorem treat_key (y : Nat) (r : Bool) (f : List Source) (c : Claim) (n : ClaimState) : (treat y r f c n).key = c.key := by
  unfold treat; (repeat' split) <;> rfl

theorem treatAll_key (y : Nat) (r : Bool) (f : List Source) (cs : List Claim) (ns : List ClaimState)
    (h : ns.length = cs.length) : (treatAll y r f cs ns).map Claim.key = cs.map Claim.key := by
  induction cs generalizing ns with
  | nil => cases ns <;> simp_all [treatAll]
  | cons c cs ih =>
    cases ns with
    | nil => simp at h
    | cons n ns => simp at h; simp [treatAll, treat_key, ih ns h]

theorem admitWaiting_key (cs : List Claim) (ns : List ClaimState) (h : ns.length = cs.length) :
    (admitWaiting cs ns).map Claim.key = cs.map Claim.key := by
  induction cs generalizing ns with
  | nil => cases ns <;> simp_all [admitWaiting]
  | cons c cs ih =>
    cases ns with
    | nil => simp at h
    | cons n ns =>
      simp at h
      simp only [admitWaiting, List.map_cons, ih ns h]
      split <;> rfl

@[simp] theorem ZoneState.evaluate_claims (rows : PolicyRows) (y : Nat) (f : List Source) (zs : ZoneState)
    (h : ClaimsOk zs) : ClaimsOk (zs.evaluate rows y f) := by
  rw [claimsOk_iff] at *
  have hn := naturals_length rows Above.none zs.claims
  have hl : ∀ b, (treatAll y b f zs.claims (naturals rows Above.none zs.claims)).length = zs.claims.length := by
    intro b
    have := congrArg List.length (treatAll_key y b f zs.claims _ hn)
    simpa using this
  unfold ZoneState.evaluate
  dsimp only
  generalize (if (quieterSources f zs.claims (naturals rows Above.none zs.claims)).isEmpty = true ∨ y = 0 then zs.yieldTimer
    else some y) = tm
  split
  · dsimp only
    rw [admitWaiting_key _ _ (by rw [hl, hn]), treatAll_key _ _ _ _ _ hn]
    exact h
  · dsimp only
    rw [treatAll_key _ _ _ _ _ hn]
    exact h

theorem insertClaim_perm (c : Claim) (l : List Claim) : (insertClaim c l).Perm (c :: l) := by
  induction l with
  | nil => exact List.Perm.refl _
  | cons d ds ih =>
    unfold insertClaim
    split
    · exact List.Perm.refl _
    · exact (ih.cons d).trans (List.Perm.swap c d ds)

/-- R3: a claim inserted by priority and arrival keeps the order. -/
theorem insertClaim_pairwise (c : Claim) (l : List Claim)
    (h : (l.map Claim.key).Pairwise above) (hd : ∀ d ∈ l, d.arrival ≠ c.arrival ∨ d.cls.priority ≠ c.cls.priority) :
    ((insertClaim c l).map Claim.key).Pairwise above := by
  induction l with
  | nil => simp [insertClaim]
  | cons d ds ih =>
    simp only [List.map_cons, List.pairwise_cons] at h
    unfold insertClaim
    split
    · rename_i hc
      simp only [List.map_cons, List.pairwise_cons]
      refine ⟨?_, h⟩
      intro k hk
      rcases List.mem_cons.mp hk with rfl | hk
      · exact hc
      · have := h.1 k hk
        simp only [above, Claim.key] at *
        omega
    · rename_i hc
      simp only [List.map_cons, List.pairwise_cons]
      refine ⟨?_, ih h.2 (fun e he => hd e (List.mem_cons_of_mem _ he))⟩
      intro k hk
      obtain ⟨e, he, rfl⟩ := List.mem_map.mp hk
      rcases List.mem_cons.mp ((insertClaim_perm c ds).mem_iff.mp he) with rfl | he
      · have := hd d (List.mem_cons_self ..)
        simp only [above, Claim.key] at *
        omega
      · exact h.1 _ (List.mem_map_of_mem he)

theorem renumber_sources (n : Nat) (l : List Claim) : (renumber n l).map Claim.source = l.map Claim.source := by
  induction l generalizing n with
  | nil => rfl
  | cons c cs ih => simp [renumber, ih]

theorem renumber_mem {n : Nat} {l : List Claim} {c : Claim} (h : c ∈ renumber n l) :
    n ≤ c.arrival ∧ c.arrival < n + l.length ∧ ∃ d ∈ l, c.source = d.source ∧ c.cls = d.cls := by
  induction l generalizing n with
  | nil => simp [renumber] at h
  | cons d ds ih =>
    simp only [renumber, List.mem_cons] at h
    rcases h with rfl | h
    · simp
    · obtain ⟨h1, h2, e, he, h3⟩ := ih h
      refine ⟨by omega, by simp; omega, e, List.mem_cons_of_mem _ he, h3⟩

theorem renumber_pairwise (n : Nat) (l : List Claim) (h : (l.map Claim.key).Pairwise above) :
    ((renumber n l).map Claim.key).Pairwise above := by
  induction l generalizing n with
  | nil => simp [renumber]
  | cons d ds ih =>
    simp only [renumber, List.map_cons, List.pairwise_cons] at *
    refine ⟨?_, ih (n + 1) h.2⟩
    intro k hk
    obtain ⟨e, he, rfl⟩ := List.mem_map.mp hk
    obtain ⟨h1, -, f, hf, hs, hc⟩ := renumber_mem he
    have := h.1 _ (List.mem_map_of_mem hf)
    simp only [above, Claim.key, hc] at *
    omega

theorem ZoneState.makeRoom_claims (zs : ZoneState) (h : ClaimsOk zs) :
    ClaimsOk zs.makeRoom ∧ zs.makeRoom.claims.map Claim.source = zs.claims.map Claim.source ∧
    (∀ c ∈ zs.makeRoom.claims, ∃ d ∈ zs.claims, c.source = d.source ∧ c.cls = d.cls) := by
  unfold ZoneState.makeRoom
  split
  · refine ⟨?_, renumber_sources _ _, fun c hc => (renumber_mem hc).2.2⟩
    rw [claimsOk_iff] at *
    refine ⟨renumber_pairwise _ _ h.1, ?_, ?_, ?_⟩
    · have := h.2.1
      simpa [Claim.key, List.map_map, Function.comp_def, renumber_sources] using this
    · intro k hk
      obtain ⟨c, hc, rfl⟩ := List.mem_map.mp hk
      obtain ⟨h1, h2, d, hd, hs, hcl⟩ := renumber_mem hc
      have := h.2.2.1 _ (List.mem_map_of_mem hd)
      refine ⟨by simpa [Claim.key, hs, hcl] using this.1, ?_⟩
      show c.arrival < zs.claims.length + 1
      omega
    · intro k hk m hm h1 h2
      obtain ⟨c, hc, rfl⟩ := List.mem_map.mp hk
      obtain ⟨e, he, rfl⟩ := List.mem_map.mp hm
      obtain ⟨-, -, d, hd, hs, hcl⟩ := renumber_mem hc
      obtain ⟨-, -, f, hf, hs', hcl'⟩ := renumber_mem he
      have := h.2.2.2 _ (List.mem_map_of_mem hd) _ (List.mem_map_of_mem hf) (by simpa [Claim.key, hcl] using h1)
        (by simpa [Claim.key, hcl'] using h2)
      simpa [Claim.key, hs, hs'] using this
  · exact ⟨h, rfl, fun c hc => ⟨c, hc, rfl, rfl⟩⟩

/-- R3, R4: a filing of a source without a claim. -/
theorem ZoneState.insert_claims (zs : ZoneState) (src : Source) (shadow : Bool) (h : ClaimsOk zs)
    (hn : src ∉ zs.claims.map Claim.source)
    (he : classOf src = .entertainment → ∀ c ∈ zs.claims, c.cls ≠ .entertainment) : ClaimsOk (zs.insert src shadow) := by
  obtain ⟨h1, h2, h3⟩ := zs.makeRoom_claims h
  unfold ZoneState.insert
  set r := zs.makeRoom
  rw [claimsOk_iff] at *
  dsimp only
  have hp := (insertClaim_perm ⟨src, classOf src, .held, r.nextArrival, shadow, false⟩ r.claims).map Claim.key
  refine ⟨?_, ?_, ?_, ?_⟩
  · apply insertClaim_pairwise _ _ h1.1
    intro d hd
    have := (h1.2.2.1 _ (List.mem_map_of_mem hd)).2
    simp only [Claim.key] at this ⊢
    left; omega
  · rw [(hp.map Prod.fst).nodup_iff]
    simp only [List.map_cons, List.nodup_cons]
    refine ⟨?_, h1.2.1⟩
    have hm : (r.claims.map Claim.key).map Prod.fst = r.claims.map Claim.source := by
      simp [Claim.key, List.map_map, Function.comp_def]
    rw [hm, h2]; exact hn
  · intro k hk
    rcases List.mem_cons.mp (hp.mem_iff.mp hk) with rfl | hk
    · simp [Claim.key]
    · have := h1.2.2.1 k hk
      exact ⟨this.1, by omega⟩
  · intro k hk m hm hk1 hm1
    have hno : ∀ c ∈ r.claims.map Claim.key, classOf src = .entertainment → c.2.1 ≠ .entertainment := by
      intro c hc hs
      obtain ⟨d, hd, rfl⟩ := List.mem_map.mp hc
      obtain ⟨e, he', -, hcl⟩ := h3 d hd
      simpa [Claim.key, hcl] using he hs e he'
    rcases List.mem_cons.mp (hp.mem_iff.mp hk) with rfl | hk
    · rcases List.mem_cons.mp (hp.mem_iff.mp hm) with rfl | hm
      · rfl
      · exact absurd hm1 (hno m hm hk1)
    · rcases List.mem_cons.mp (hp.mem_iff.mp hm) with rfl | hm
      · exact absurd hk1 (hno k hk hm1)
      · exact h1.2.2.2 k hk m hm hk1 hm1

/-- R4: a filing of a source that has a claim. -/
theorem ZoneState.refile_claims (zs : ZoneState) (src : Source) (shadow : Bool) (h : ClaimsOk zs) :
    ClaimsOk (zs.refile src shadow) := by
  unfold ZoneState.refile
  split
  · exact h
  · rename_i c hc
    have hsrc : c.source = src := by simpa using List.find?_some hc
    have hmem := List.mem_of_find?_eq_some hc
    rw [claimsOk_iff] at *
    dsimp only
    have hcls : c.cls = classOf src := by
      have := (h.2.2.1 _ (List.mem_map_of_mem hmem)).1
      simpa [Claim.key, hsrc] using this
    set c' : Claim := { c with cls := classOf src, shadow := shadow } with hc'
    have hk' : c'.key = c.key := by simp [hc', Claim.key, hcls]
    set fl := zs.claims.filter (fun d => d.source != src) with hfl
    have hfs : fl.Sublist zs.claims := List.filter_sublist
    have hp := (insertClaim_perm c' fl).map Claim.key
    have hf := h.sublist (hfs.map Claim.key)
    have hnot : ∀ d ∈ fl, d.source ≠ src := by
      intro d hd; simpa using (List.mem_filter.mp hd).2
    refine ⟨?_, ?_, ?_, ?_⟩
    · apply insertClaim_pairwise _ _ hf.1
      intro d hd
      have hdm := hfs.subset hd
      have hne : d.key ≠ c.key := by
        intro he
        exact hnot d hd (by have := congrArg Prod.fst he; simpa [Claim.key, hsrc] using this)
      by_contra hcon
      push Not at hcon
      obtain ⟨i, hi, hii⟩ := List.getElem_of_mem hdm
      obtain ⟨j, hj, hjj⟩ := List.getElem_of_mem hmem
      have hpw := List.pairwise_iff_getElem.mp h.1
      have hij : i ≠ j := by rintro rfl; exact hne (by rw [← hii, ← hjj])
      have hcc : c'.cls = c.cls := by simp [hc', hcls]
      have hca : c'.arrival = c.arrival := rfl
      rcases Nat.lt_or_gt_of_ne hij with hlt | hlt
      · have := hpw i j (by simpa using hi) (by simpa using hj) hlt
        simp only [List.getElem_map, hii, hjj, above, Claim.key] at this
        rw [hcc, hca] at hcon
        omega
      · have := hpw j i (by simpa using hj) (by simpa using hi) hlt
        simp only [List.getElem_map, hii, hjj, above, Claim.key] at this
        rw [hcc, hca] at hcon
        omega
    · rw [(hp.map Prod.fst).nodup_iff]
      simp only [List.map_cons, List.nodup_cons]
      refine ⟨?_, hf.2.1⟩
      intro hm
      obtain ⟨k, hk, hk2⟩ := List.mem_map.mp hm
      obtain ⟨d, hd, rfl⟩ := List.mem_map.mp hk
      exact hnot d hd (by simpa [Claim.key, hc', hsrc] using hk2)
    · intro k hk
      rcases List.mem_cons.mp (hp.mem_iff.mp hk) with rfl | hk
      · rw [hk']; exact h.2.2.1 _ (List.mem_map_of_mem hmem)
      · exact hf.2.2.1 k hk
    · intro k hk m hm
      have key : ∀ x ∈ (insertClaim c' fl).map Claim.key, x ∈ zs.claims.map Claim.key := by
        intro x hx
        rcases List.mem_cons.mp (hp.mem_iff.mp hx) with rfl | hx
        · rw [hk']; exact List.mem_map_of_mem hmem
        · exact (hfs.map Claim.key).subset hx
      exact h.2.2.2 k (key k hk) m (key m hm)

/-- R4: a replacement of the ENTERTAINMENT claim's source. -/
theorem ZoneState.replace_claims (zs : ZoneState) (old new : Source) (h : ClaimsOk zs)
    (hn : new ∉ zs.claims.map Claim.source) (hc : ∀ c ∈ zs.claims, c.source = old → c.cls = .entertainment)
    (he : classOf new = .entertainment) : ClaimsOk (zs.replace old new) := by
  obtain ⟨h1, h2, h3, h4⟩ := h
  unfold ZoneState.replace
  have hmem : ∀ c ∈ zs.claims.map (fun c => if c.source = old then { c with source := new } else c),
      ∃ d ∈ zs.claims, c.cls = d.cls ∧ c.arrival = d.arrival ∧ c.source = if d.source = old then new else d.source := by
    intro c hcm
    obtain ⟨d, hd, rfl⟩ := List.mem_map.mp hcm
    refine ⟨d, hd, ?_⟩
    split <;> simp
  refine ⟨?_, ?_, ?_, ?_⟩
  · dsimp only
    rw [List.pairwise_map]
    refine h1.imp ?_
    intro a b hab
    (repeat' split) <;> exact hab
  · dsimp only
    have : (zs.claims.map (fun c => if c.source = old then { c with source := new } else c)).map Claim.source
        = (zs.claims.map Claim.source).map (fun x => if x = old then new else x) := by
      simp only [List.map_map]
      congr 1
      funext c
      simp only [Function.comp]
      split <;> rfl
    rw [this]
    refine List.Nodup.map_on ?_ h2
    intro x hx y hy hxy
    by_cases hxo : x = old <;> by_cases hyo : y = old <;> simp only [hxo, hyo, if_true, if_false] at hxy
    · rw [hxo, hyo]
    · exact absurd (hxy ▸ hy) hn
    · exact absurd (hxy ▸ hx) hn
    · exact hxy
  · intro c hcm
    obtain ⟨d, hd, e1, e2, e3⟩ := hmem c hcm
    have := h3 d hd
    rw [e1, e2, e3]
    refine ⟨?_, this.2⟩
    split
    · rename_i ho; rw [he]; exact hc d hd ho
    · exact this.1
  · intro c hcm e hem hce hee
    obtain ⟨d, hd, e1, -, e3⟩ := hmem c hcm
    obtain ⟨f, hf, f1, -, f3⟩ := hmem e hem
    have := h4 d hd f hf (e1 ▸ hce) (f1 ▸ hee)
    rw [e3, f3, this]

theorem ZoneState.remove_claims (zs : ZoneState) (src : Source) (h : ClaimsOk zs) : ClaimsOk (zs.remove src) := by
  rw [claimsOk_iff] at *
  exact h.sublist (List.filter_sublist.map _)

/-! ## Pages -/

theorem flatMap_setClip (p : Pool) (n : Nat) (c : Clip) (hn : n ≠ 0) (h : n - 1 < p.clips.length) :
    ∃ a b, p.clips = a ++ p.clip n :: b ∧ (p.setClip n c).clips = a ++ c :: b := by
  refine ⟨p.clips.take (n - 1), p.clips.drop n, ?_, ?_⟩
  · have h1 : p.clip n = p.clips[n - 1] := by
      simp [Pool.clip, hn, List.getD_eq_getElem?_getD, List.getElem?_eq_getElem h]
    rw [h1]
    have hn1 : n - 1 + 1 = n := by omega
    have h2 := List.drop_eq_getElem_cons h
    rw [hn1] at h2
    rw [← h2, List.take_append_drop]
  · simp only [Pool.setClip, if_neg hn]
    rw [List.set_eq_take_append_cons_drop, if_pos h]
    have hn1 : n - 1 + 1 = n := by omega
    rw [hn1]

/-- The pages that the free list and the clips name together. -/
def Pool.named (p : Pool) : List Nat := p.freePages ++ p.clips.flatMap Clip.pages

/-- A clip number that is none of the pool's names an empty record. -/
theorem Pool.clip_outside (p : Pool) (n : Nat) (h : ¬ (n ≠ 0 ∧ n - 1 < p.clips.length)) : p.clip n = Clip.empty := by
  unfold Pool.clip
  split
  · rfl
  · rw [List.getD_eq_default _ _ (show p.clips.length ≤ n - 1 by omega)]

/-- The lowest FREE clip number names a FREE record of the pool. -/
theorem lowestFree_spec (l : List Clip) (k n : Nat) (h : lowestFree k l = some n) :
    k ≤ n ∧ n - k < l.length ∧ (l.getD (n - k) Clip.empty).state = .free := by
  induction l generalizing k with
  | nil => simp [lowestFree] at h
  | cons c cs ih =>
    rw [lowestFree] at h
    split at h
    · rename_i hc
      obtain rfl := Option.some.inj h
      simp [hc]
    · obtain ⟨h1, h2, h3⟩ := ih (k + 1) h
      obtain ⟨m, rfl⟩ : ∃ m, n = k + 1 + m := ⟨n - (k + 1), by omega⟩
      simp only [show k + 1 + m - (k + 1) = m by omega] at h2 h3
      simp only [show k + 1 + m - k = m + 1 by omega, List.length_cons, List.getD_cons_succ]
      exact ⟨by omega, by omega, h3⟩

theorem Pool.lowestFree_spec (p : Pool) (n : Nat) (h : p.lowestFree = some n) :
    (n ≠ 0 ∧ n - 1 < p.clips.length) ∧ (p.clip n).state = .free := by
  obtain ⟨h1, h2, h3⟩ := Machine.lowestFree_spec p.clips 1 n h
  have hn : n ≠ 0 := by omega
  exact ⟨⟨hn, h2⟩, by rw [Pool.clip, if_neg hn]; exact h3⟩

/-- A FREE clip of a sound pool holds no page. -/
theorem PagesOnce.free {p : Pool} (h : PagesOnce p) {n : Nat} (hf : (p.clip n).state = .free) : (p.clip n).pages = [] := by
  by_cases hn : n ≠ 0 ∧ n - 1 < p.clips.length
  · obtain ⟨a, b, e, -⟩ := flatMap_setClip p n Clip.empty hn.1 hn.2
    exact h.2.2 _ (by rw [e]; simp) hf
  · rw [p.clip_outside n hn]; rfl

/-- A change of clip n's pages and of the free list that together name the same pages as before. -/
theorem pagesOnce_setClip (p : Pool) (n : Nat) (c : Clip) (fp : List Nat) (q : Pool)
    (hq : q.freePages = fp) (hc : q.clips = (p.setClip n c).clips) (h : PagesOnce p) (hf : c.state = .free → c.pages = [])
    (hs : (n ≠ 0 ∧ n - 1 < p.clips.length) → (fp ++ c.pages).Perm (p.freePages ++ (p.clip n).pages))
    (hs0 : ¬ (n ≠ 0 ∧ n - 1 < p.clips.length) → fp.Perm p.freePages) : PagesOnce q := by
  by_cases hn : n ≠ 0 ∧ n - 1 < p.clips.length
  · obtain ⟨a, b, e1, e2⟩ := flatMap_setClip p n c hn.1 hn.2
    have key : (q.freePages ++ q.clips.flatMap Clip.pages).Perm (p.freePages ++ p.clips.flatMap Clip.pages) := by
      have e3 : p.clips.flatMap Clip.pages = (a ++ p.clip n :: b).flatMap Clip.pages := by rw [← e1]
      rw [hq, hc, e2, e3]
      simp only [List.flatMap_append, List.flatMap_cons]
      have p1 : (fp ++ (a.flatMap Clip.pages ++ (c.pages ++ b.flatMap Clip.pages))).Perm
          ((fp ++ c.pages) ++ (a.flatMap Clip.pages ++ b.flatMap Clip.pages)) := by
        rw [← Multiset.coe_eq_coe]; simp only [← Multiset.coe_add]; abel
      have p2 : (p.freePages ++ (a.flatMap Clip.pages ++ ((p.clip n).pages ++ b.flatMap Clip.pages))).Perm
          ((p.freePages ++ (p.clip n).pages) ++ (a.flatMap Clip.pages ++ b.flatMap Clip.pages)) := by
        rw [← Multiset.coe_eq_coe]; simp only [← Multiset.coe_add]; abel
      exact (p1.trans ((hs hn).append_right _)).trans p2.symm
    refine ⟨key.nodup_iff.mpr h.1, fun m => key.mem_iff.trans (h.2.1 m), fun d hd => ?_⟩
    rw [hc, e2] at hd
    have old : ∀ d ∈ a ++ p.clip n :: b, d.state = .free → d.pages = [] := by rw [← e1]; exact h.2.2
    simp only [List.mem_append, List.mem_cons] at hd old
    obtain hd | rfl | hd := hd
    · exact old d (.inl hd)
    · exact hf
    · exact old d (.inr (.inr hd))
  · have hsame : q.clips = p.clips := by
      rw [hc, Pool.setClip]
      split
      · rfl
      · simp only [List.set_eq_of_length_le (show p.clips.length ≤ n - 1 by omega)]
    have key : (q.freePages ++ q.clips.flatMap Clip.pages).Perm (p.freePages ++ p.clips.flatMap Clip.pages) := by
      rw [hq, hsame]; exact (hs0 hn).append_right _
    exact ⟨key.nodup_iff.mpr h.1, fun m => key.mem_iff.trans (h.2.1 m), by rw [hsame]; exact h.2.2⟩

/-- A grant of the lowest FREE clip. -/
theorem Pool.grant_pages (p : Pool) (c n rate : Nat) (o : Owner) (st : ClipState) (auto : Bool) (h : PagesOnce p)
    (hc : p.lowestFree = some c) (hst : st ≠ .free) : PagesOnce (p.grant c n rate o st auto) := by
  obtain ⟨hin, hfree⟩ := p.lowestFree_spec c hc
  refine pagesOnce_setClip p c _ (p.freePages.drop n) _ rfl rfl h (fun hs => absurd hs hst) (fun _ => ?_) (fun hn => absurd hin hn)
  rw [h.free hfree, List.append_nil]
  have := (List.perm_append_comm (l₁ := p.freePages.drop n) (l₂ := p.freePages.take n))
  rwa [List.take_append_drop] at this

@[simp] theorem Pool.release_pages (p : Pool) (n : Nat) (h : PagesOnce p) : PagesOnce (p.release n) := by
  refine pagesOnce_setClip p n Clip.empty (p.freePages ++ (p.clip n).pages) _ rfl rfl h (fun _ => rfl) (fun _ => ?_) (fun hn => ?_)
  · simp [Clip.empty]
  · rw [p.clip_outside n hn]; simp [Clip.empty]

@[simp] theorem Pool.close_pages (p : Pool) (n len : Nat) (h : PagesOnce p) : PagesOnce (p.close n len) := by
  refine pagesOnce_setClip p n _ _ _ rfl rfl h (fun hs => nomatch hs) (fun _ => ?_) (fun hn => ?_)
  · dsimp only [Pool.close]
    rw [List.append_assoc]
    refine List.Perm.append_left _ ?_
    have := (List.perm_append_comm (l₁ := (p.clip n).pages.drop (ceilDiv len Config.pageSamples))
      (l₂ := (p.clip n).pages.take (ceilDiv len Config.pageSamples)))
    rwa [List.take_append_drop] at this
  · dsimp only [Pool.close]
    rw [p.clip_outside n hn]; simp [Clip.empty]

/-- A clip that keeps its pages and its state. -/
theorem Pool.setClip_pages (p : Pool) (n : Nat) (c : Clip) (hc : c.pages = (p.clip n).pages) (hs : c.state = (p.clip n).state)
    (h : PagesOnce p) : PagesOnce (p.setClip n c) := by
  refine pagesOnce_setClip p n c p.freePages _ ?_ rfl h (fun hf => ?_) (fun _ => ?_) (fun _ => List.Perm.refl _)
  · unfold Pool.setClip; split <;> rfl
  · rw [hc]; exact h.free (hs ▸ hf)
  · rw [hc]

/-- R77: an extension. -/
theorem Pool.extend_pages (p : Pool) (n : Nat) (c : Clip) (hc : c = p.clip n) (hs : c.state = .capturing) (h : PagesOnce p) :
    PagesOnce { p.setClip n { c with pages := c.pages ++ p.freePages.take 1 } with freePages := p.freePages.drop 1 } := by
  subst hc
  refine pagesOnce_setClip p n _ (p.freePages.drop 1) _ rfl rfl h (fun hf => ?_) (fun _ => ?_) (fun hn => ?_)
  · dsimp only at hf; rw [hs] at hf; cases hf
  · dsimp only
    calc (p.freePages.drop 1 ++ ((p.clip n).pages ++ p.freePages.take 1)).Perm
          ((p.freePages.take 1 ++ p.freePages.drop 1) ++ (p.clip n).pages) := by
            rw [← Multiset.coe_eq_coe]; simp only [← Multiset.coe_add]; abel
      _ = p.freePages ++ (p.clip n).pages := by rw [List.take_append_drop]
  · rw [p.clip_outside n hn] at hs; cases hs

@[simp] theorem Pool.setSlot_pages (p : Pool) (o : LinkOwner) (x : Slot) : PagesOnce (p.setSlot o x) ↔ PagesOnce p := by
  cases o <;> exact Iff.rfl

/-! ## The whole state -/

@[simp] theorem State.mapPort_sound (s : State) (f : Port → Port) : Sound (s.mapPort f) ↔ Sound s := Iff.rfl
@[simp] theorem State.mapRend_sound (s : State) (f : Renderer → Renderer) : Sound (s.mapRend f) ↔ Sound s := Iff.rfl
@[simp] theorem State.mapBank_sound (s : State) (f : Bank → Bank) : Sound (s.mapBank f) ↔ Sound s := Iff.rfl
@[simp] theorem State.mapVoc_sound (s : State) (f : Voices → Voices) : Sound (s.mapVoc f) ↔ Sound s := Iff.rfl
@[simp] theorem State.mapTun_sound (s : State) (f : Tuner → Tuner) : Sound (s.mapTun f) ↔ Sound s := Iff.rfl
@[simp] theorem State.mapSta_sound (s : State) (f : Table → Table) : Sound (s.mapSta f) ↔ Sound s := Iff.rfl
@[simp] theorem State.mapScan_sound (s : State) (f : Scan → Scan) : Sound (s.mapScan f) ↔ Sound s := Iff.rfl
@[simp] theorem State.mapTraf_sound (s : State) (f : Traffic → Traffic) : Sound (s.mapTraf f) ↔ Sound s := Iff.rfl
@[simp] theorem State.mapCall_sound (s : State) (f : Call → Call) : Sound (s.mapCall f) ↔ Sound s := Iff.rfl
@[simp] theorem State.mapVeh_sound (s : State) (f : Vehicle → Vehicle) : Sound (s.mapVeh f) ↔ Sound s := Iff.rfl
@[simp] theorem State.mapWat_sound (s : State) (f : Watches → Watches) : Sound (s.mapWat f) ↔ Sound s := Iff.rfl

theorem State.mapPool_sound (s : State) (f : Pool → Pool) (h : Sound s) (hf : PagesOnce (f s.pool)) : Sound (s.mapPool f) := ⟨h.1, hf⟩

@[simp] theorem State.setZone_sound (s : State) (z : Zone) (zs : ZoneState) (h : Sound s) (hz : ClaimsOk zs) :
    Sound (s.setZone z zs) := by
  refine ⟨?_, h.2⟩
  intro y
  have := h.1 y
  cases z <;> cases y <;> simp_all [State.setZone, PerZone.set, PerZone.get]

theorem Sound.zone {s : State} (h : Sound s) (z : Zone) : ClaimsOk (s.zone z) := h.1 z

theorem Sound.of_eq {s t : State} (h : Sound s) (h1 : t.arb.zones = s.arb.zones) (h2 : t.pool = s.pool) : Sound t := by
  unfold Sound; rw [h1, h2]; exact h

@[simp] theorem State.raise_sound (s : State) (n : Notice) (h : Sound s) : Sound (s.raise n) := by
  unfold State.raise; (try dsimp only); (repeat' split) <;> simp (maxDischargeDepth := 30) [h]

@[simp] theorem State.deliver_sound (s : State) (q : Quantity) (v : Int) (h : Sound s) : Sound (s.deliver q v) := by
  unfold State.deliver; (try dsimp only); (repeat' split) <;> simp (maxDischargeDepth := 30) [h]

@[simp] theorem State.deliverChange_sound (s : State) (q : Quantity) (old new : Int) (h : Sound s) : Sound (s.deliverChange q old new) := by
  unfold State.deliverChange; (try dsimp only); (repeat' split) <;> simp (maxDischargeDepth := 30) [h]

@[simp] theorem State.orderHush_sound (s : State) (src : Source) (n : Nat) (h : Sound s) : Sound (s.orderHush src n) := by
  unfold State.orderHush; (try dsimp only); (repeat' split) <;> simp (maxDischargeDepth := 30) [h]

@[simp] theorem State.liftHush_sound (s : State) (src : Source) (h : Sound s) : Sound (s.liftHush src) := by
  unfold State.liftHush; (try dsimp only); (repeat' split) <;> simp (maxDischargeDepth := 30) [h]

@[simp] theorem State.deliverVolume_sound (s old new : State) (z : Zone) (k : Kind) (h : Sound s) : Sound (s.deliverVolume old new z k) := by
  unfold State.deliverVolume; split <;> simp (maxDischargeDepth := 30) [h]

@[simp] theorem State.deliverVolumes_sound (s old : State) (z : Zone) (h : Sound s) : Sound (s.deliverVolumes old z) := by
  simp (maxDischargeDepth := 30) [State.deliverVolumes, Kind.all, h]

theorem claimsOk_of_eq {a b : ZoneState} (h : ClaimsOk a) (h1 : b.claims = a.claims) (h2 : b.nextArrival = a.nextArrival) :
    ClaimsOk b := by
  unfold ClaimsOk; rw [h1, h2]; exact h

@[simp] theorem State.entReport_sound (s : State) (z : Zone) (b : Bool) (h : Sound s) : Sound (s.entReport z b) := by
  have hz := h.zone z
  unfold State.entReport; dsimp only
  have h1 := fun b : Bool => State.setZone_sound s z { s.zone z with entHeld := b } h (claimsOk_of_eq hz rfl rfl)
  (repeat' split) <;> first | exact h | exact h1 _

@[simp] theorem State.setVoice_sound (s : State) (v : Voice) (r : VoiceRec) (h : Sound s) : Sound (s.setVoice v r) := by
  unfold State.setVoice; (try dsimp only); (repeat' split) <;> simp (maxDischargeDepth := 30) [h]

@[simp] theorem State.voiceReport_sound (s : State) (v : Voice) (h : Sound s) : Sound (s.voiceReport v) := by
  unfold State.voiceReport; (try dsimp only); (repeat' split) <;> simp (maxDischargeDepth := 30) [h]

@[simp] theorem State.setAnn_sound (s : State) (p : Path) (a : Announcement) (h : Sound s) : Sound (s.setAnn p a) := by
  unfold State.setAnn; (try dsimp only); (repeat' split) <;> simp (maxDischargeDepth := 30) [h]

@[simp] theorem State.noteHeld_sound (s : State) (p : Path) (h : Sound s) : Sound (s.noteHeld p) := by
  unfold State.noteHeld; (try dsimp only); (repeat' split) <;> simp (maxDischargeDepth := 30) [h]

@[simp] theorem State.deliverFree_sound (s : State) (old : Nat) (h : Sound s) : Sound (s.deliverFree old) := by
  unfold State.deliverFree; (try dsimp only); (repeat' split) <;> simp (maxDischargeDepth := 30) [h]

@[simp] theorem State.attemptSlot_sound (s : State) (o : LinkOwner) (h : Sound s) : Sound (s.attemptSlot o) := by
  unfold State.attemptSlot
  (repeat' split) <;> first | exact h | skip
  rename_i hc _
  exact State.raise_sound _ _ (State.deliverFree_sound _ _ (State.mapPool_sound _ _ h
    ((Pool.setSlot_pages _ _ _).mpr (Pool.grant_pages _ _ _ _ _ _ _ h.2 hc (by decide)))))

@[simp] theorem State.grantAttempt_sound (s : State) (h : Sound s) : Sound (s.grantAttempt) := by
  unfold State.grantAttempt; (try dsimp only); (repeat' split) <;> simp (maxDischargeDepth := 30) [h]

@[simp] theorem State.freeClip_sound (s : State) (n : Nat) (h : Sound s) : Sound (s.freeClip n) := by
  unfold State.freeClip
  exact State.grantAttempt_sound _ (State.deliverFree_sound _ _ (State.mapPool_sound _ _ h (by simp [h.2])))

@[simp] theorem State.setUse_sound (s : State) (n : Nat) (u : UseMarker) (h : Sound s) : Sound (s.setUse n u) := by
  unfold State.setUse
  refine State.mapPool_sound _ _ h ?_
  split
  · exact h.2
  · exact Pool.setClip_pages _ _ _ rfl rfl h.2

@[simp] theorem State.closeClip_sound (s : State) (n len : Nat) (h : Sound s) : Sound (s.closeClip n len) := by
  unfold State.closeClip; dsimp only
  have h1 := State.deliverFree_sound _ s.pool.freeCount (State.mapPool_sound s (·.close n len) h (by simp [h.2]))
  split <;> simp (maxDischargeDepth := 30) [h1]

theorem State.captureOpen_sound {s t : State} {c : Nat} (h : Sound s) (ho : s.captureOpen = some (c, t)) : Sound t := by
  unfold State.captureOpen at ho
  (repeat' split at ho) <;> (try cases ho)
  exact State.deliverFree_sound _ _ (State.mapPool_sound _ _ h (Pool.grant_pages _ _ _ _ _ _ _ h.2 ‹_› (by decide)))

theorem State.captureExtend_sound {s t : State} {n : Nat} (h : Sound s) (ho : s.captureExtend n = some t) : Sound t := by
  unfold State.captureExtend at ho
  dsimp only at ho
  split at ho
  · cases ho
  · rename_i hg
    obtain rfl := Option.some.inj ho
    exact State.deliverFree_sound _ _ (State.mapPool_sound _ _ h (Pool.extend_pages _ _ _ rfl (by
      by_contra hs; exact hg (.inl hs)) h.2))

@[simp] theorem State.beginCapture_sound (s : State) (p : Path) (h : Sound s) : Sound (s.beginCapture p) := by
  unfold State.beginCapture; split
  · rename_i ho; simp [State.captureOpen_sound h ho]
  · simp (maxDischargeDepth := 30) [h]

@[simp] theorem State.captureFor_sound (s : State) (p : Path) (h : Sound s) : Sound (s.captureFor p) := by
  unfold State.captureFor; (try dsimp only); (repeat' split) <;> simp (maxDischargeDepth := 30) [h]

@[simp] theorem State.tryCapture_sound (s : State) (h : Sound s) : Sound (s.tryCapture) := by
  unfold State.tryCapture; (try dsimp only); (repeat' split) <;> simp (maxDischargeDepth := 30) [h]

@[simp] theorem State.captureAfter_sound (s base : State) (h : Sound s) : Sound (s.captureAfter base) := by
  unfold State.captureAfter; (try dsimp only); (repeat' split) <;> simp (maxDischargeDepth := 30) [h]

@[simp] theorem State.reports_sound (s : State) (h : Sound s) : Sound (s.reports) := by
  unfold State.reports; (try dsimp only); (repeat' split) <;> simp (maxDischargeDepth := 30) [h]

@[simp] theorem State.evaluateTold_sound (s : State) (z : Zone) (fresh : List Source) (filed : Bool) (h : Sound s) :
    Sound (s.evaluateTold z fresh filed) := by
  unfold State.evaluateTold; dsimp only
  have hz := h.zone z
  have h1 := State.setZone_sound s z _ h (ZoneState.evaluate_claims (s.arb.policy.get z) (s.profile z).yieldTime fresh _ hz)
  simp (maxDischargeDepth := 30) [h1]

@[simp] theorem State.evaluateAfter_sound (s base : State) (z : Zone) (fresh : List Source) (filed : Bool) (h : Sound s) :
    Sound (s.evaluateAfter base z fresh filed) := by
  unfold State.evaluateAfter; simp (maxDischargeDepth := 30) [h]

@[simp] theorem State.evaluate_sound (s : State) (z : Zone) (fresh : List Source) (h : Sound s) : Sound (s.evaluate z fresh) :=
  s.evaluateAfter_sound s z fresh false h

@[simp] theorem State.yieldExpired_sound (s : State) (z : Zone) (h : Sound s) : Sound (s.yieldExpired z) := by
  have hz := h.zone z
  have h1 : ClaimsOk { s.zone z with
      claims := (admitWaiting (s.zone z).claims (naturals (s.arb.policy.get z) Above.none (s.zone z).claims)).map
        (fun c => { c with yielding := false })
      yieldTimer := none
      leading := leadingOf (s.arb.policy.get z)
        ((admitWaiting (s.zone z).claims (naturals (s.arb.policy.get z) Above.none (s.zone z).claims)).map
          (fun c => { c with yielding := false })) } := by
    rw [claimsOk_iff] at *
    dsimp only
    have e : ∀ l : List Claim, (l.map (fun c => { c with yielding := false })).map Claim.key = l.map Claim.key := by
      intro l; simp [Claim.key, List.map_map, Function.comp_def]
    rw [e, admitWaiting_key _ _ (naturals_length _ _ _)]
    exact hz
  unfold State.yieldExpired; dsimp only
  have h2 := State.setZone_sound s z _ h h1
  simp (maxDischargeDepth := 30) [h2]

theorem State.claim_none {s : State} {z : Zone} {src : Source} (h : s.claim z src = none) :
    src ∉ (s.zone z).claims.map Claim.source := by
  intro hm
  obtain ⟨c, hc, rfl⟩ := List.mem_map.mp hm
  have := List.find?_eq_none.mp h c hc
  simp at this

theorem State.entClaim_some {s : State} {z : Zone} {c : Claim} (h : s.entClaim z = some c) :
    c ∈ (s.zone z).claims ∧ c.cls = .entertainment := by
  exact ⟨List.mem_of_find?_eq_some h, by simpa using List.find?_some h⟩

theorem State.entClaim_none {s : State} {z : Zone} (h : s.entClaim z = none) :
    ∀ c ∈ (s.zone z).claims, c.cls ≠ .entertainment := by
  intro c hc
  have := List.find?_eq_none.mp h c hc
  simpa using this

theorem State.replaceTold_sound (s : State) (z : Zone) (c : Claim) (new : Source) (h : Sound s)
    (hc : s.entClaim z = some c) (hn : new ∉ (s.zone z).claims.map Claim.source) (he : classOf new = .entertainment) :
    Sound (s.replaceTold z c.source new) := by
  have hz := h.zone z
  obtain ⟨hm, hcl⟩ := State.entClaim_some hc
  have h1 : ClaimsOk ((s.zone z).replace c.source new) := by
    refine ZoneState.replace_claims _ _ _ hz hn ?_ he
    intro d hd hs
    have h3 := hz.2.2.1
    rw [(h3 d hd).1, hs, ← (h3 c hm).1, hcl]
  unfold State.replaceTold
  have h2 := State.setZone_sound s z _ h h1
  simp (maxDischargeDepth := 30) [h2]

theorem State.replaceEnt_sound (s : State) (z : Zone) (c : Claim) (new : Source) (h : Sound s)
    (hc : s.entClaim z = some c) (hn : new ∉ (s.zone z).claims.map Claim.source) (he : classOf new = .entertainment) :
    Sound (s.replaceEnt z c.source new) :=
  State.captureAfter_sound _ _ (State.replaceTold_sound s z c new h hc hn he)

@[simp] theorem State.fileTold_sound (s : State) (z : Zone) (src : Source) (shadow : Bool) (h : Sound s) :
    Sound (s.fileTold z src shadow) := by
  have hz := h.zone z
  unfold State.fileTold
  split
  · have h2 := State.setZone_sound s z _ h (ZoneState.refile_claims _ src shadow hz)
    simp (maxDischargeDepth := 30) [h2]
  · rename_i hn
    have hn := State.claim_none hn
    split
    · rename_i c he hc
      exact State.replaceTold_sound s z c src h hc hn he
    · rename_i hcase
      have h2 := State.setZone_sound s z _ h (ZoneState.insert_claims _ src shadow hz hn (by
        intro hs
        refine State.entClaim_none ?_
        cases hcl : s.entClaim z with
        | none => rfl
        | some c => exact absurd hcl (hcase c hs)))
      simp (maxDischargeDepth := 30) [h2]

@[simp] theorem State.file_sound (s : State) (z : Zone) (src : Source) (shadow : Bool) (h : Sound s) : Sound (s.file z src shadow) := by
  unfold State.file; simp (maxDischargeDepth := 30) [h]

@[simp] theorem State.withdrawTold_sound (s : State) (z : Zone) (src : Source) (h : Sound s) : Sound (s.withdrawTold z src) := by
  have hz := h.zone z
  unfold State.withdrawTold
  split
  · exact h
  · have h2 := State.setZone_sound s z _ h (ZoneState.remove_claims _ src hz)
    simp (maxDischargeDepth := 30) [h2]

@[simp] theorem State.withdraw_sound (s : State) (z : Zone) (src : Source) (h : Sound s) : Sound (s.withdraw z src) := by
  unfold State.withdraw; (try dsimp only); (repeat' split) <;> simp (maxDischargeDepth := 30) [h]

@[simp] theorem State.withdrawAll_sound (s : State) (src : Source) (h : Sound s) : Sound (s.withdrawAll src) := by
  unfold State.withdrawAll; (try dsimp only); (repeat' split) <;> simp (maxDischargeDepth := 30) [h]

@[simp] theorem State.takeZone_sound (s : State) (p : Path) (was now : ZoneSet) (z : Zone) (h : Sound s) : Sound (s.takeZone p was now z) := by
  unfold State.takeZone; (try dsimp only); (repeat' split) <;> simp (maxDischargeDepth := 30) [h]

@[simp] theorem State.takingPath_sound (s : State) (p : Path) (h : Sound s) : Sound (s.takingPath p) := by
  unfold State.takingPath; (try dsimp only); (repeat' split) <;> simp (maxDischargeDepth := 30) [h]

@[simp] theorem State.takingUpdate_sound (s : State) (h : Sound s) : Sound (s.takingUpdate) := by
  unfold State.takingUpdate; (try dsimp only); (repeat' split) <;> simp (maxDischargeDepth := 30) [h]

/-- R4, R19: the entertainment source of a zone is set. -/
theorem State.setEnt_sound (s : State) (z : Zone) (src : Option Source) (h : Sound s)
    (he : ∀ x, src = some x → classOf x = .entertainment) : Sound (s.setEnt z src) := by
  have hz := h.zone z
  unfold State.setEnt
  split
  · rename_i c x hc
    split
    · exact h
    · rename_i hne
      refine State.takingUpdate_sound _ (State.replaceEnt_sound s z c x h hc ?_ (he x rfl))
      intro hm
      obtain ⟨d, hd, rfl⟩ := List.mem_map.mp hm
      obtain ⟨hcm, hcl⟩ := State.entClaim_some hc
      have := hz.2.2.2 c hcm d hd hcl ((hz.2.2.1 d hd).1.trans (he _ rfl))
      exact hne this
  · simp (maxDischargeDepth := 30) [h]
  · simp (maxDischargeDepth := 30) [h]
  · exact h

@[simp] theorem State.setEnt_radio1_sound (s : State) (z : Zone) (h : Sound s) : Sound (s.setEnt z (some .radio1)) :=
  State.setEnt_sound s z _ h (by rintro x ⟨⟩; rfl)

@[simp] theorem State.setEnt_radio2_sound (s : State) (z : Zone) (h : Sound s) : Sound (s.setEnt z (some .radio2)) :=
  State.setEnt_sound s z _ h (by rintro x ⟨⟩; rfl)

@[simp] theorem State.startFade_sound (s : State) (v : Voice) (h : Sound s) : Sound (s.startFade v) := by
  unfold State.startFade; (try dsimp only); (repeat' split) <;> simp (maxDischargeDepth := 30) [h]

@[simp] theorem State.bringClaim_sound (s : State) (v : Voice) (mask : ZoneSet) (z : Zone) (h : Sound s) : Sound (s.bringClaim v mask z) := by
  unfold State.bringClaim; (try dsimp only); (repeat' split) <;> simp (maxDischargeDepth := 30) [h]

@[simp] theorem State.becomeCurrent_sound (s : State) (v : Voice) (e : Entry) (h : Sound s) : Sound (s.becomeCurrent v e) := by
  unfold State.becomeCurrent; (try dsimp only); (repeat' split) <;> simp (maxDischargeDepth := 30) [h]

@[simp] theorem State.goIdle_sound (s : State) (v : Voice) (h : Sound s) : Sound (s.goIdle v) := by
  unfold State.goIdle; (try dsimp only); (repeat' split) <;> simp (maxDischargeDepth := 30) [h]

@[simp] theorem State.nextEntry_sound (s : State) (v : Voice) (h : Sound s) : Sound (s.nextEntry v) := by
  unfold State.nextEntry; (try dsimp only); (repeat' split) <;> simp (maxDischargeDepth := 30) [h]

@[simp] theorem State.accept_sound (s : State) (v : Voice) (e : Entry) (h : Sound s) : Sound (s.accept v e) := by
  unfold State.accept; (try dsimp only); (repeat' split) <;> simp (maxDischargeDepth := 30) [h]

theorem State.place_sound {s t : State} {v : Voice} {p : Placing} (h : Sound s) (ho : s.place v p = .ok t) : Sound t := by
  unfold State.place at ho
  split at ho
  · cases ho
  · obtain rfl := Except.ok.inj ho
    simp (maxDischargeDepth := 30) [h]

@[simp] theorem State.buildChimeDone_sound (s : State) (h : Sound s) : Sound (s.buildChimeDone) := by
  unfold State.buildChimeDone; (try dsimp only); (repeat' split) <;> simp (maxDischargeDepth := 30) [h]

@[simp] theorem State.append_sound (s : State) (control : Bool) (c : Completion) (h : Sound s) : Sound (s.append control c) := by
  unfold State.append; (try dsimp only); (repeat' split) <;> simp (maxDischargeDepth := 30) [h]

@[simp] theorem State.setWaiters_sound (s : State) (control : Bool) (l : List Waiter) (h : Sound s) : Sound (s.setWaiters control l) := by
  unfold State.setWaiters; (try dsimp only); (repeat' split) <;> simp (maxDischargeDepth := 30) [h]

@[simp] theorem State.retireHead_sound (s : State) (v : Voice) (h : Sound s) : Sound (s.retireHead v) := by
  unfold State.retireHead; (try dsimp only); (repeat' split) <;> simp (maxDischargeDepth := 30) [h]

@[simp] theorem State.stall_sound (s : State) (v : Voice) (h : Sound s) : Sound (s.stall v) := by
  unfold State.stall; (try dsimp only); (repeat' split) <;> simp (maxDischargeDepth := 30) [h]

@[simp] theorem State.retire_sound (s : State) (v : Voice) (h : Sound s) : Sound (s.retire v) := by
  unfold State.retire; (try dsimp only); (repeat' split) <;> simp (maxDischargeDepth := 30) [h]

@[simp] theorem State.conclude_sound (s : State) (v : Voice) (o : CompStatus) (h : Sound s) : Sound (s.conclude v o) := by
  unfold State.conclude; (try dsimp only); (repeat' split) <;> simp (maxDischargeDepth := 30) [h]

@[simp] theorem State.serveMonitor_sound (s : State) (h : Sound s) : Sound (s.serveMonitor) := by
  unfold State.serveMonitor; (try dsimp only); (repeat' split) <;> simp (maxDischargeDepth := 30) [h]

@[simp] theorem State.serveWaiter_sound (s : State) (w : Waiter) (h : Sound s) : Sound (s.serveWaiter w) := by
  unfold State.serveWaiter; (repeat' split) <;> simp (maxDischargeDepth := 30) [h]

@[simp] theorem State.serveList_sound (b : Bool) (l : List Waiter) (s : State) (h : Sound s) : Sound (State.serveList b l s) := by
  induction l generalizing s with
  | nil => exact h
  | cons w ws ih =>
    unfold State.serveList
    split
    · exact h
    · exact ih _ (by simp (maxDischargeDepth := 30) [h])

@[simp] theorem State.serveWaiters_sound (s : State) (b : Bool) (h : Sound s) : Sound (s.serveWaiters b) := by
  unfold State.serveWaiters; simp (maxDischargeDepth := 30) [h]

@[simp] theorem State.flushEntries_sound (v : Voice) (l : List Entry) (s : State) (a f : Nat) (h : Sound s) :
    Sound (State.flushEntries v l s a f).1 := by
  induction l generalizing s a f with
  | nil => exact h
  | cons e es ih =>
    unfold State.flushEntries
    split <;> exact ih _ _ _ (by simp (maxDischargeDepth := 30) [h])

theorem State.flush_sound {s : State} {v : Voice} {r : State × Nat × Nat × Nat} (h : Sound s) (ho : s.flush v = .ok r) :
    Sound r.1 := by
  unfold State.flush at ho
  dsimp only at ho
  split at ho
  · cases ho
  · obtain rfl := Except.ok.inj ho
    dsimp only
    (repeat' split) <;> simp (maxDischargeDepth := 30) [h]

@[simp] theorem State.cutPass_sound (s : State) (v : Voice) (e : Entry) (h : Sound s) : Sound (s.cutPass v e) := by
  unfold State.cutPass; (try dsimp only); (repeat' split) <;> simp (maxDischargeDepth := 30) [h]

@[simp] theorem State.leaveFill_sound (s : State) (v : Voice) (h : Sound s) : Sound (s.leaveFill v) := by
  unfold State.leaveFill; (try dsimp only); (repeat' split) <;> simp (maxDischargeDepth := 30) [h]

@[simp] theorem State.fillReport_sound (s : State) (clip : Nat) (h : Sound s) : Sound (s.fillReport clip) := by
  unfold State.fillReport; (try dsimp only); (repeat' split) <;> simp (maxDischargeDepth := 30) [h]

@[simp] theorem State.sealReport_sound (s : State) (clip : Nat) (h : Sound s) : Sound (s.sealReport clip) := by
  unfold State.sealReport; (try dsimp only); (repeat' split) <;> simp (maxDischargeDepth := 30) [h]

@[simp] theorem State.setCapture_sound (s : State) (c : Capture) (h : Sound s) : Sound (s.setCapture c) := by
  unfold State.setCapture; (try dsimp only); (repeat' split) <;> simp (maxDischargeDepth := 30) [h]

@[simp] theorem State.placeReplay_sound (s : State) (p : Path) (n : Nat) (h : Sound s) : Sound (s.placeReplay p n) := by
  unfold State.placeReplay
  split
  · rename_i ho; exact State.place_sound h ho
  · exact h

@[simp] theorem State.oweCapture_sound (s : State) (n : Nat) (st : CompStatus) (h : Sound s) : Sound (s.oweCapture n st) := by
  unfold State.oweCapture; (try dsimp only); (repeat' split) <;> simp (maxDischargeDepth := 30) [h]

@[simp] theorem State.closeCapture_sound (s : State) (p : Path) (n : Nat) (st : CompStatus) (h : Sound s) : Sound (s.closeCapture p n st) := by
  unfold State.closeCapture; (try dsimp only); (repeat' split) <;> simp (maxDischargeDepth := 30) [h]

@[simp] theorem State.closeOwn_sound (s : State) (p : Path) (h : Sound s) : Sound (s.closeOwn p) := by
  unfold State.closeOwn; (try dsimp only); (repeat' split) <;> simp (maxDischargeDepth := 30) [h]

@[simp] theorem State.endAnn_sound (s : State) (p : Path) (h : Sound s) : Sound (s.endAnn p) := by
  unfold State.endAnn; (try dsimp only); (repeat' split) <;> simp (maxDischargeDepth := 30) [h]

@[simp] theorem State.beginAnn_sound (s : State) (p : Path) (h : Sound s) : Sound (s.beginAnn p) := by
  unfold State.beginAnn; (try dsimp only); (repeat' split) <;> simp (maxDischargeDepth := 30) [h]

@[simp] theorem State.annSync_sound (s : State) (p : Path) (h : Sound s) : Sound (s.annSync p) := by
  unfold State.annSync; (try dsimp only); (repeat' split) <;> simp (maxDischargeDepth := 30) [h]

@[simp] theorem State.truncate_sound (s : State) (p : Path) (n : Nat) (h : Sound s) : Sound (s.truncate p n) := by
  unfold State.truncate; (try dsimp only); (repeat' split) <;> simp (maxDischargeDepth := 30) [h]

@[simp] theorem State.countDevice_sound (old s : State) (h : Sound s) : Sound (State.countDevice old s) := by
  unfold State.countDevice; (try dsimp only); (repeat' split) <;> simp (maxDischargeDepth := 30) [h]

@[simp] theorem State.countHost_sound (old s : State) (h : Sound s) : Sound (State.countHost old s) := by
  unfold State.countHost; (try dsimp only); (repeat' split) <;> simp (maxDischargeDepth := 30) [h]

@[simp] theorem State.setPath_sound (s : State) (p : Path) (x : PathRec) (h : Sound s) : Sound (s.setPath p x) := by
  unfold State.setPath; (try dsimp only); (repeat' split) <;> simp (maxDischargeDepth := 30) [h]

@[simp] theorem State.dropAssoc_sound (s : State) (p : Path) (h : Sound s) : Sound (s.dropAssoc p) := by
  unfold State.dropAssoc; (try dsimp only); (repeat' split) <;> simp (maxDischargeDepth := 30) [h]

@[simp] theorem State.beginTune_sound (s : State) (p : Path) (st : Station) (h : Sound s) : Sound (s.beginTune p st) := by
  unfold State.beginTune; (try dsimp only); (repeat' split) <;> simp (maxDischargeDepth := 30) [h]

@[simp] theorem State.startTune_sound (s : State) (p : Path) (st : Station) (h : Sound s) : Sound (s.startTune p st) := by
  unfold State.startTune; (try dsimp only); (repeat' split) <;> simp (maxDischargeDepth := 30) [h]

@[simp] theorem State.startInterval_sound (s : State) (h : Sound s) : Sound (s.startInterval) := by
  unfold State.startInterval; (try dsimp only); (repeat' split) <;> simp (maxDischargeDepth := 30) [h]

@[simp] theorem State.endWindow_sound (s : State) (h : Sound s) : Sound (s.endWindow) := by
  unfold State.endWindow; (try dsimp only); (repeat' split) <;> simp (maxDischargeDepth := 30) [h]

@[simp] theorem State.cancelTrial_sound (s : State) (h : Sound s) : Sound (s.cancelTrial) := by
  unfold State.cancelTrial; (try dsimp only); (repeat' split) <;> simp (maxDischargeDepth := 30) [h]

@[simp] theorem State.enterRear_sound (s : State) (st : Station) (h : Sound s) : Sound (s.enterRear st) := by
  unfold State.enterRear; (try dsimp only); (repeat' split) <;> simp (maxDischargeDepth := 30) [h]

@[simp] theorem State.setRole_sound (s : State) (r : Role) (st : Option Station) (h : Sound s) : Sound (s.setRole r st) := by
  unfold State.setRole; (try dsimp only); (repeat' split) <;> simp (maxDischargeDepth := 30) [h]

@[simp] theorem State.sendP2_sound (s : State) (st : Option Station) (h : Sound s) : Sound (s.sendP2 st) := by
  unfold State.sendP2; (try dsimp only); (repeat' split) <;> simp (maxDischargeDepth := 30) [h]

@[simp] theorem State.planP2_sound (s : State) (h : Sound s) : Sound (s.planP2) := by
  unfold State.planP2; (try dsimp only); (repeat' split) <;> simp (maxDischargeDepth := 30) [h]

@[simp] theorem State.nameVisit_sound (s : State) (h : Sound s) : Sound (s.nameVisit) := by
  unfold State.nameVisit; (try dsimp only); (repeat' split) <;> simp (maxDischargeDepth := 30) [h]

@[simp] theorem State.beginWindow_sound (s : State) (h : Sound s) : Sound (s.beginWindow) := by
  unfold State.beginWindow; (try dsimp only); (repeat' split) <;> simp (maxDischargeDepth := 30) [h]

@[simp] theorem State.scanAfterAf_sound (s : State) (h : Sound s) : Sound (s.scanAfterAf) := by
  unfold State.scanAfterAf; (try dsimp only); (repeat' split) <;> simp (maxDischargeDepth := 30) [h]

@[simp] theorem State.setWish_sound (s : State) (z : Zone) (w : Wish) (h : Sound s) : Sound (s.setWish z w) := by
  unfold State.setWish; (try dsimp only); (repeat' split) <;> simp (maxDischargeDepth := 30) [h]

@[simp] theorem State.followCabin_sound (s : State) (z : Zone) (h : Sound s) : Sound (s.followCabin z) := by
  unfold State.followCabin; (try dsimp only); (repeat' split) <;> simp (maxDischargeDepth := 30) [h]

@[simp] theorem State.joinP1_sound (s : State) (z : Zone) (h : Sound s) : Sound (s.joinP1 z) := by
  unfold State.joinP1; (try dsimp only); (repeat' split) <;> simp (maxDischargeDepth := 30) [h]

@[simp] theorem State.takeP2_sound (s : State) (z : Zone) (h : Sound s) : Sound (s.takeP2 z) := by
  unfold State.takeP2; (try dsimp only); (repeat' split) <;> simp (maxDischargeDepth := 30) [h]

@[simp] theorem State.resolveWishes_sound (s : State) (h : Sound s) : Sound (s.resolveWishes) := by
  unfold State.resolveWishes; (try dsimp only); (repeat' split) <;> simp (maxDischargeDepth := 30) [h]

@[simp] theorem State.finishCheck_sound (s : State) (h : Sound s) : Sound (s.finishCheck) := by
  unfold State.finishCheck; (try dsimp only); (repeat' split) <;> simp (maxDischargeDepth := 30) [h]

@[simp] theorem State.abandonCheck_sound (s : State) (h : Sound s) : Sound (s.abandonCheck) := by
  unfold State.abandonCheck; (try dsimp only); (repeat' split) <;> simp (maxDischargeDepth := 30) [h]

@[simp] theorem State.switchTo_sound (s : State) (f : Nat) (h : Sound s) : Sound (s.switchTo f) := by
  unfold State.switchTo; (try dsimp only); (repeat' split) <;> simp (maxDischargeDepth := 30) [h]

@[simp] theorem State.judge_sound (s : State) (c : AfCheck) (f q : Nat) (code : Option Nat) (h : Sound s) :
    Sound (s.judge c f q code).1 := by
  unfold State.judge; (try dsimp only); (repeat' split) <;> simp (maxDischargeDepth := 30) [h]

@[simp] theorem State.beginTrial_sound (s : State) (c : AfCheck) (f : Nat) (h : Sound s) : Sound (s.beginTrial c f) := by
  unfold State.beginTrial; (try dsimp only); (repeat' split) <;> simp (maxDischargeDepth := 30) [h]

@[simp] theorem State.afTry_sound (l : List Nat) (s : State) (h : Sound s) : Sound (State.afTry l s) := by
  induction l generalizing s with
  | nil => unfold State.afTry; split <;> simp (maxDischargeDepth := 30) [h]
  | cons f fs ih =>
    unfold State.afTry
    dsimp only
    (repeat' split) <;> first | (simp (maxDischargeDepth := 30) [h]; done) | exact ih _ (by simp (maxDischargeDepth := 30) [h])

@[simp] theorem State.afAdvance_sound (s : State) (h : Sound s) : Sound (s.afAdvance) := by
  unfold State.afAdvance; (try dsimp only); (repeat' split) <;> simp (maxDischargeDepth := 30) [h]

@[simp] theorem State.replan_sound (s : State) (h : Sound s) : Sound (s.replan) := by
  unfold State.replan; (try dsimp only); (repeat' split) <;> simp (maxDischargeDepth := 30) [h]

@[simp] theorem State.enterLocked_sound (s : State) (p : Path) (h : Sound s) : Sound (s.enterLocked p) := by
  unfold State.enterLocked; (try dsimp only); (repeat' split) <;> simp (maxDischargeDepth := 30) [h]

@[simp] theorem State.failFront_sound (s : State) (h : Sound s) : Sound (s.failFront) := by
  unfold State.failFront; (try dsimp only); (repeat' split) <;> simp (maxDischargeDepth := 30) [h]

@[simp] theorem State.strand_sound (s : State) (z : Zone) (h : Sound s) : Sound (s.strand z) := by
  unfold State.strand; (try dsimp only); (repeat' split) <;> simp (maxDischargeDepth := 30) [h]

@[simp] theorem State.failPath_sound (s : State) (p : Path) (h : Sound s) : Sound (s.failPath p) := by
  unfold State.failPath; (try dsimp only); (repeat' split) <;> simp (maxDischargeDepth := 30) [h]

@[simp] theorem State.seekStep_sound (s : State) (k : Seek) (h : Sound s) : Sound (s.seekStep k) := by
  unfold State.seekStep; (try dsimp only); (repeat' split) <;> simp (maxDischargeDepth := 30) [h]

@[simp] theorem State.seekStop_sound (s : State) (h : Sound s) : Sound (s.seekStop) := by
  unfold State.seekStop; (try dsimp only); (repeat' split) <;> simp (maxDischargeDepth := 30) [h]

@[simp] theorem State.endVisit_sound (s : State) (h : Sound s) : Sound (s.endVisit) := by
  unfold State.endVisit; (try dsimp only); (repeat' split) <;> simp (maxDischargeDepth := 30) [h]

@[simp] theorem State.frontTune_sound (s : State) (st : Station) (h : Sound s) : Sound (s.frontTune st) := by
  unfold State.frontTune; (try dsimp only); (repeat' split) <;> simp (maxDischargeDepth := 30) [h]

@[simp] theorem State.afCleared_sound (s : State) (h : Sound s) : Sound (s.afCleared) := by
  unfold State.afCleared; (try dsimp only); (repeat' split) <;> simp (maxDischargeDepth := 30) [h]

@[simp] theorem State.scanCleared_sound (s : State) (h : Sound s) : Sound (s.scanCleared) := by
  unfold State.scanCleared; (try dsimp only); (repeat' split) <;> simp (maxDischargeDepth := 30) [h]

@[simp] theorem State.scanSet_sound (s : State) (h : Sound s) : Sound (s.scanSet) := by
  unfold State.scanSet; (try dsimp only); (repeat' split) <;> simp (maxDischargeDepth := 30) [h]

@[simp] theorem State.setFlags_sound (s : State) (f : TunerFlags) (h : Sound s) : Sound (s.setFlags f) := by
  unfold State.setFlags; (try dsimp only); (repeat' split) <;> simp (maxDischargeDepth := 30) [h]

@[simp] theorem State.enterSeek_sound (s : State) (d : SeekDir) (h : Sound s) : Sound (s.enterSeek d) := by
  unfold State.enterSeek; (try dsimp only); (repeat' split) <;> simp (maxDischargeDepth := 30) [h]

@[simp] theorem State.fadeDone_sound (s : State) (p : Path) (h : Sound s) : Sound (s.fadeDone p) := by
  unfold State.fadeDone; (try dsimp only); (repeat' split) <;> simp (maxDischargeDepth := 30) [h]

@[simp] theorem State.confirmed_sound (s : State) (p : Path) (atx : Station) (h : Sound s) : Sound (s.confirmed p at_) := by
  unfold State.confirmed; (try dsimp only); (repeat' split) <;> simp (maxDischargeDepth := 30) [h]

@[simp] theorem State.unconfirmed_sound (s : State) (p : Path) (h : Sound s) : Sound (s.unconfirmed p) := by
  unfold State.unconfirmed; (try dsimp only); (repeat' split) <;> simp (maxDischargeDepth := 30) [h]

@[simp] theorem State.settled_sound (s : State) (p : Path) (h : Sound s) : Sound (s.settled p) := by
  unfold State.settled; (try dsimp only); (repeat' split) <;> simp (maxDischargeDepth := 30) [h]

@[simp] theorem State.retryTune_sound (s : State) (p : Path) (h : Sound s) : Sound (s.retryTune p) := by
  unfold State.retryTune; (try dsimp only); (repeat' split) <;> simp (maxDischargeDepth := 30) [h]

@[simp] theorem State.holdStep_sound (s : State) (h : Sound s) : Sound (s.holdStep) := by
  unfold State.holdStep; (try dsimp only); (repeat' split) <;> simp (maxDischargeDepth := 30) [h]

@[simp] theorem State.trialStep_sound (s : State) (q : Nat) (h : Sound s) : Sound (s.trialStep q) := by
  unfold State.trialStep; (try dsimp only); (repeat' split) <;> simp (maxDischargeDepth := 30) [h]

@[simp] theorem State.assocStep_sound (s : State) (p : Path) (h : Sound s) : Sound (s.assocStep p) := by
  unfold State.assocStep; (try dsimp only); (repeat' split) <;> simp (maxDischargeDepth := 30) [h]

@[simp] theorem State.measure_sound (s : State) (p : Path) (fs mp adj : Nat) (h : Sound s) : Sound (s.measure p fs mp adj) := by
  unfold State.measure; (try dsimp only); (repeat' split) <;> simp (maxDischargeDepth := 30) [h]

@[simp] theorem State.tableItem_sound (s : State) (p : Path) (item : DecodedItem) (h : Sound s) : Sound (s.tableItem p item) := by
  unfold State.tableItem; (try dsimp only); (repeat' split) <;> simp (maxDischargeDepth := 30) [h]

@[simp] theorem State.decodeItem_sound (s : State) (p : Path) (item : DecodedItem) (h : Sound s) : Sound (s.decodeItem p item) := by
  unfold State.decodeItem; (try dsimp only); (repeat' split) <;> simp (maxDischargeDepth := 30) [h]

@[simp] theorem State.seekMeasure_sound (s : State) (fs mp adj : Nat) (h : Sound s) : Sound (s.seekMeasure fs mp adj) := by
  unfold State.seekMeasure; (try dsimp only); (repeat' split) <;> simp (maxDischargeDepth := 30) [h]

@[simp] theorem State.checkBegin_sound (s : State) (h : Sound s) : Sound (s.checkBegin) := by
  unfold State.checkBegin; (try dsimp only); (repeat' split) <;> simp (maxDischargeDepth := 30) [h]

@[simp] theorem State.trialEnd_sound (s : State) (h : Sound s) : Sound (s.trialEnd) := by
  unfold State.trialEnd; (try dsimp only); (repeat' split) <;> simp (maxDischargeDepth := 30) [h]

@[simp] theorem State.peekBegin_sound (s : State) (h : Sound s) : Sound (s.peekBegin) := by
  unfold State.peekBegin; (try dsimp only); (repeat' split) <;> simp (maxDischargeDepth := 30) [h]

@[simp] theorem State.peekCommand_sound (s : State) (h : Sound s) : Sound (s.peekCommand) := by
  unfold State.peekCommand; (try dsimp only); (repeat' split) <;> simp (maxDischargeDepth := 30) [h]

@[simp] theorem State.peekMeasure_sound (s : State) (fs mp adj : Nat) (h : Sound s) : Sound (s.peekMeasure fs mp adj) := by
  unfold State.peekMeasure; (try dsimp only); (repeat' split) <;> simp (maxDischargeDepth := 30) [h]

@[simp] theorem State.peekEnd_sound (s : State) (h : Sound s) : Sound (s.peekEnd) := by
  unfold State.peekEnd; (try dsimp only); (repeat' split) <;> simp (maxDischargeDepth := 30) [h]

@[simp] theorem State.writeRecord_sound (s : State) (slot : Nat) (r : StationRec) (enters : Bool) (h : Sound s) : Sound (s.writeRecord slot r enters) := by
  unfold State.writeRecord; (try dsimp only); (repeat' split) <;> simp (maxDischargeDepth := 30) [h]

@[simp] theorem State.dropReservation_sound (s : State) (h : Sound s) : Sound (s.dropReservation) := by
  unfold State.dropReservation; (try dsimp only); (repeat' split) <;> simp (maxDischargeDepth := 30) [h]

@[simp] theorem State.agesRise_sound (s : State) (h : Sound s) : Sound (s.agesRise) := by
  unfold State.agesRise; (try dsimp only); (repeat' split) <;> simp (maxDischargeDepth := 30) [h]

@[simp] theorem State.scanDue_sound (s : State) (h : Sound s) : Sound (s.scanDue) := by
  unfold State.scanDue; (try dsimp only); (repeat' split) <;> simp (maxDischargeDepth := 30) [h]

@[simp] theorem State.visitMeasure_sound (s : State) (fs mp adj : Nat) (h : Sound s) : Sound (s.visitMeasure fs mp adj) := by
  unfold State.visitMeasure; (try dsimp only); (repeat' split) <;> simp (maxDischargeDepth := 30) [h]

@[simp] theorem State.dwellEnd_sound (s : State) (h : Sound s) : Sound (s.dwellEnd) := by
  unfold State.dwellEnd; (try dsimp only); (repeat' split) <;> simp (maxDischargeDepth := 30) [h]

@[simp] theorem State.windowEnd_sound (s : State) (h : Sound s) : Sound (s.windowEnd) := by
  unfold State.windowEnd; (try dsimp only); (repeat' split) <;> simp (maxDischargeDepth := 30) [h]

theorem State.rearTune_sound {s t : State} {z : Zone} {st : Station} (h : Sound s) (ho : s.rearTune z st = .ok t) : Sound t := by
  unfold State.rearTune at ho
  (repeat' split at ho) <;> cases ho <;> simp (maxDischargeDepth := 30) [h]

@[simp] theorem State.setEcho_sound (s : State) (e : Echo) (h : Sound s) : Sound (s.setEcho e) := by
  unfold State.setEcho; (try dsimp only); (repeat' split) <;> simp (maxDischargeDepth := 30) [h]

@[simp] theorem State.reconverge_sound (s : State) (h : Sound s) : Sound (s.reconverge) := by
  unfold State.reconverge; (try dsimp only); (repeat' split) <;> simp (maxDischargeDepth := 30) [h]

@[simp] theorem State.applyNotice_sound (s : State) (h : Sound s) : Sound (s.applyNotice) := by
  unfold State.applyNotice; (try dsimp only); (repeat' split) <;> simp (maxDischargeDepth := 30) [h]

@[simp] theorem State.setRoute_sound (s : State) (r : Route) (set : MicSet) (h : Sound s) : Sound (s.setRoute r set) := by
  unfold State.setRoute; (try dsimp only); (repeat' split) <;> simp (maxDischargeDepth := 30) [h]

@[simp] theorem State.changeSet_sound (s : State) (set : MicSet) (h : Sound s) : Sound (s.changeSet set) := by
  unfold State.changeSet; (try dsimp only); (repeat' split) <;> simp (maxDischargeDepth := 30) [h]

@[simp] theorem State.setTake_sound (s : State) (z : Zone) (t : TakeState) (h : Sound s) : Sound (s.setTake z t) := by
  unfold State.setTake; (try dsimp only); (repeat' split) <;> simp (maxDischargeDepth := 30) [h]

@[simp] theorem State.takeMemories_sound (s : State) (z : Zone) (old new : Profile) (h : Sound s) : Sound (s.takeMemories z old new) := by
  unfold State.takeMemories; (try dsimp only); (repeat' split) <;> simp (maxDischargeDepth := 30) [h]

@[simp] theorem State.takeCopyFrom_sound (s base : State) (z : Zone) (h : Sound s) : Sound (s.takeCopyFrom base z) := by
  unfold State.takeCopyFrom; (try dsimp only); (repeat' split) <;> simp (maxDischargeDepth := 30) [h]

@[simp] theorem State.takeCopy_sound (s : State) (z : Zone) (h : Sound s) : Sound (s.takeCopy z) := s.takeCopyFrom_sound s z h

@[simp] theorem State.watchOrder_sound (s : State) (z : Zone) (release : Bool) (h : Sound s) : Sound (s.watchOrder z release) := by
  unfold State.watchOrder; (try dsimp only); (repeat' split) <;> simp (maxDischargeDepth := 30) [h]

@[simp] theorem State.checkDeferred_sound (s : State) (z : Zone) (h : Sound s) : Sound (s.checkDeferred z) := by
  unfold State.checkDeferred; (try dsimp only); (repeat' split) <;> simp (maxDischargeDepth := 30) [h]

@[simp] theorem State.deferredCheck_sound (s : State) (h : Sound s) : Sound (s.deferredCheck) := by
  unfold State.deferredCheck; (try dsimp only); (repeat' split) <;> simp (maxDischargeDepth := 30) [h]

@[simp] theorem State.callZone_sound (s : State) (mode z : Zone) (h : Sound s) : Sound (s.callZone mode z) := by
  unfold State.callZone; (try dsimp only); (repeat' split) <;> simp (maxDischargeDepth := 30) [h]

@[simp] theorem State.callClaims_sound (s : State) (mode : Zone) (h : Sound s) : Sound (s.callClaims mode) := by
  unfold State.callClaims; (try dsimp only); (repeat' split) <;> simp (maxDischargeDepth := 30) [h]

@[simp] theorem State.callEnter_sound (s : State) (h : Sound s) : Sound (s.callEnter) := by
  unfold State.callEnter; (try dsimp only); (repeat' split) <;> simp (maxDischargeDepth := 30) [h]

@[simp] theorem State.callLeave_sound (s : State) (dest : CallState) (h : Sound s) : Sound (s.callLeave dest) := by
  unfold State.callLeave; (try dsimp only); (repeat' split) <;> simp (maxDischargeDepth := 30) [h]

@[simp] theorem State.callHeld_sound (s : State) (h : Sound s) : Sound (s.callHeld) := by
  unfold State.callHeld; (try dsimp only); (repeat' split) <;> simp (maxDischargeDepth := 30) [h]

@[simp] theorem State.forceHold_sound (s : State) (h : Sound s) : Sound (s.forceHold) := by
  unfold State.forceHold; (try dsimp only); (repeat' split) <;> simp (maxDischargeDepth := 30) [h]

@[simp] theorem State.resumeCall_sound (s : State) (h : Sound s) : Sound (s.resumeCall) := by
  unfold State.resumeCall; (try dsimp only); (repeat' split) <;> simp (maxDischargeDepth := 30) [h]

@[simp] theorem State.dropCall_sound (s : State) (h : Sound s) : Sound s.dropCall := by
  unfold State.dropCall
  dsimp only
  split
  · rename_i r ho; simp [State.flush_sound h ho]
  · simp (maxDischargeDepth := 30) [h]

@[simp] theorem State.startRinging_sound (s : State) (mode : Zone) (clip : Nat) (h : Sound s) : Sound (s.startRinging mode clip) := by
  unfold State.startRinging; (try dsimp only); (repeat' split) <;> simp (maxDischargeDepth := 30) [h]

@[simp] theorem State.answer_sound (s : State) (h : Sound s) : Sound (s.answer) := by
  unfold State.answer; (try dsimp only); (repeat' split) <;> simp (maxDischargeDepth := 30) [h]

@[simp] theorem State.endCall_sound (s : State) (h : Sound s) : Sound (s.endCall) := by
  unfold State.endCall; (try dsimp only); (repeat' split) <;> simp (maxDischargeDepth := 30) [h]

@[simp] theorem State.moveCall_sound (s : State) (mode : Zone) (h : Sound s) : Sound (s.moveCall mode) := by
  unfold State.moveCall; (try dsimp only); (repeat' split) <;> simp (maxDischargeDepth := 30) [h]

@[simp] theorem State.fire_sound (s : State) (n : Nat) (a : WatchAction) (h : Sound s) : Sound (s.fire n a) := by
  unfold State.fire; dsimp only; (repeat' split) <;> simp (maxDischargeDepth := 30) [h]

@[simp] theorem State.watchFire_sound (s : State) (n : Nat) (h : Sound s) : Sound (s.watchFire n) := by
  unfold State.watchFire; (repeat' split) <;> simp (maxDischargeDepth := 30) [h]

@[simp] theorem State.speedRecord_sound (s : State) (v : Nat) (h : Sound s) : Sound (s.speedRecord v) := by
  unfold State.speedRecord; (try dsimp only); (repeat' split) <;> simp (maxDischargeDepth := 30) [h]

@[simp] theorem State.setRefusal_sound (s : State) (r : Option ChimeRefusal) (h : Sound s) : Sound (s.setRefusal r) := by
  unfold State.setRefusal; (try dsimp only); (repeat' split) <;> simp (maxDischargeDepth := 30) [h]

@[simp] theorem State.chimeRecord_sound (s : State) (clip mask repeats gap : Nat) (h : Sound s) : Sound (s.chimeRecord clip mask repeats gap) := by
  unfold State.chimeRecord; split
  · rename_i ho; simp [State.place_sound h ho]
  · simp (maxDischargeDepth := 30) [h]

@[simp] theorem State.chimeStopRecord_sound (s : State) (h : Sound s) : Sound (s.chimeStopRecord) := by
  unfold State.chimeStopRecord; split
  · rename_i ho; simp [State.flush_sound h ho]
  · simp (maxDischargeDepth := 30) [h]

@[simp] theorem State.setCallStep_sound (s : State) (step : Nat) (h : Sound s) : Sound (s.setCallStep step) := by
  unfold State.setCallStep; (try dsimp only); (repeat' split) <;> simp (maxDischargeDepth := 30) [h]

@[simp] theorem State.overrideEnterRecord_sound (s : State) (h : Sound s) : Sound (s.overrideEnterRecord) := by
  unfold State.overrideEnterRecord; (try dsimp only); (repeat' split) <;> simp (maxDischargeDepth := 30) [h]

@[simp] theorem State.exitCheck_sound (s base : State) (h : Sound s) : Sound (s.exitCheck base) := by
  unfold State.exitCheck; (try dsimp only); (repeat' split) <;> simp (maxDischargeDepth := 30) [h]

@[simp] theorem State.overrideExitRecord_sound (s : State) (drop : Bool) (h : Sound s) : Sound (s.overrideExitRecord drop) := by
  unfold State.overrideExitRecord; (try dsimp only); (repeat' split) <;> simp (maxDischargeDepth := 30) [h]

@[simp] theorem State.buildStatus_sound (s : State) (h : Sound s) : Sound (s.buildStatus) := by
  unfold State.buildStatus; (try dsimp only); (repeat' split) <;> simp (maxDischargeDepth := 30) [h]

@[simp] theorem State.vehicleRecord_sound (s : State) (r : VehicleRecord) (h : Sound s) : Sound (s.vehicleRecord r) := by
  cases r <;> simp [State.vehicleRecord, h]

@[simp] theorem State.goStale_sound (s : State) (h : Sound s) : Sound (s.goStale) := by
  unfold State.goStale; (try dsimp only); (repeat' split) <;> simp (maxDischargeDepth := 30) [h]

@[simp] theorem State.busFrame_sound (s : State) (f : VehicleFrame) (h : Sound s) : Sound (s.busFrame f) := by
  unfold State.busFrame; (try dsimp only); (repeat' split) <;> simp (maxDischargeDepth := 30) [h]

@[simp] theorem State.sendStatus_sound (s : State) (h : Sound s) : Sound (s.sendStatus) := by
  unfold State.sendStatus; (try dsimp only); (repeat' split) <;> simp (maxDischargeDepth := 30) [h]

@[simp] theorem State.sendChimeDone_sound (s : State) (h : Sound s) : Sound (s.sendChimeDone) := by
  unfold State.sendChimeDone; (try dsimp only); (repeat' split) <;> simp (maxDischargeDepth := 30) [h]

theorem ZoneState.tick_claims (zs : ZoneState) : ClaimsOk zs.tick ↔ ClaimsOk zs := Iff.rfl

@[simp] theorem State.tick_sound (s : State) (h : Sound s) : Sound s.tick := by
  refine ⟨?_, h.2⟩
  intro z
  have := h.1 z
  cases z <;> exact this

@[simp] theorem State.deliverThermal_sound (s : State) (old : Nat) (h : Sound s) : Sound (s.deliverThermal old) := by
  unfold State.deliverThermal; (try dsimp only); (repeat' split) <;> simp (maxDischargeDepth := 30) [h]

@[simp] theorem State.thermalStep_sound (s : State) (h : Sound s) : Sound (s.thermalStep) := by
  unfold State.thermalStep; (try dsimp only); (repeat' split) <;> simp (maxDischargeDepth := 30) [h]

@[simp] theorem State.ramps_sound (s : State) (h : Sound s) : Sound (s.ramps) := by
  unfold State.ramps; simpa using h

@[simp] theorem State.thermalFalls_sound (s : State) (h : Sound s) : Sound (s.thermalFalls) := by
  unfold State.thermalFalls; (try dsimp only); (repeat' split) <;> simp (maxDischargeDepth := 30) [h]

@[simp] theorem State.leaveStarting_sound (s : State) (v : Voice) (h : Sound s) : Sound (s.leaveStarting v) := by
  unfold State.leaveStarting; (try dsimp only); (repeat' split) <;> simp (maxDischargeDepth := 30) [h]

@[simp] theorem State.endPass_sound (s : State) (v : Voice) (e : Entry) (h : Sound s) : Sound (s.endPass v e) := by
  unfold State.endPass; (try dsimp only); (repeat' split) <;> simp (maxDischargeDepth := 30) [h]

@[simp] theorem State.output_sound (s : State) (v : Voice) (out : List Int) (h : Sound s) : Sound (s.output v out) := by
  unfold State.output; (try dsimp only); (repeat' split) <;> simp (maxDischargeDepth := 30) [h]

@[simp] theorem State.playFrame_sound (s : State) (v : Voice) (e : Entry) (h : Sound s) : Sound (s.playFrame v e).state := by
  unfold State.playFrame; dsimp only; (repeat' split) <;> simp (maxDischargeDepth := 30) [h]

@[simp] theorem State.voiceFrame_sound (s : State) (v : Voice) (h : Sound s) : Sound (s.voiceFrame v).state := by
  unfold State.voiceFrame; dsimp only; (repeat' split) <;> simp (maxDischargeDepth := 30) [h]

@[simp] theorem State.clipZone_sound (s : State) (z : Zone) (positions : List Nat) (h : Sound s) : Sound (s.clipZone z positions) := by
  unfold State.clipZone; (try dsimp only); (repeat' split) <;> simp (maxDischargeDepth := 30) [h]

@[simp] theorem State.mixdown_sound (s : State) (snd : PerSource (List (Int × Int))) (h : Sound s) : Sound (s.mixdown snd) := by
  unfold State.mixdown; simp (maxDischargeDepth := 30) [h]

theorem State.captureSample_sound {s t : State} {n : Nat} {v : Sample} (h : Sound s) (ho : s.captureSample n v = some t) :
    Sound t := by
  have put : ∀ u : State, Sound u → Sound (u.mapPool (fun p =>
      { p.setClip n { p.clip n with fill := (p.clip n).fill + 1 } with
        mem := Memory.write p.mem (sampleAddress (p.clip n).pages (p.clip n).fill) v })) := by
    intro u hu
    refine State.mapPool_sound _ _ hu ?_
    exact Pool.setClip_pages u.pool n _ rfl rfl hu.2
  unfold State.captureSample at ho
  dsimp only at ho
  obtain ⟨u, hu, rfl⟩ := Option.map_eq_some_iff.mp ho
  split at hu
  · obtain rfl := Option.some.inj hu; exact put _ h
  · exact put _ (State.captureExtend_sound h hu)

@[simp] theorem State.captureSamples_sound (p : Path) (n : Nat) (l : List Sample) (s : State) (h : Sound s) :
    Sound (State.captureSamples p n l s) := by
  induction l generalizing s with
  | nil => exact h
  | cons v vs ih =>
    unfold State.captureSamples
    split
    · rename_i ho; exact ih _ (State.captureSample_sound h ho)
    · simp (maxDischargeDepth := 30) [h]

@[simp] theorem State.endFrame_sound (s : State) (v : Voice) (e : Option FrameEnd) (h : Sound s) : Sound (s.endFrame v e) := by
  unfold State.endFrame; (try dsimp only); (repeat' split) <;> simp (maxDischargeDepth := 30) [h]

@[simp] theorem State.captureFrame_sound (s : State) (was : Capture) (snd : PerSource (List (Int × Int))) (h : Sound s) :
    Sound (s.captureFrame was snd) := by
  unfold State.captureFrame; dsimp only; (repeat' split) <;> simp (maxDischargeDepth := 30) [h]

@[simp] theorem State.farFrame_sound (s : State) (inp : FrameInput) (h : Sound s) : Sound (s.farFrame inp) := by
  unfold State.farFrame; (try dsimp only); (repeat' split) <;> simp (maxDischargeDepth := 30) [h]

@[simp] theorem State.uplinkFrame_sound (s : State) (inp : FrameInput) (h : Sound s) : Sound (s.uplinkFrame inp) := by
  unfold State.uplinkFrame; (try dsimp only); (repeat' split) <;> simp (maxDischargeDepth := 30) [h]

@[simp] theorem State.adapt_sound (s : State) (h : Sound s) : Sound (s.adapt) := by
  unfold State.adapt; split
  · exact h
  · exact h

@[simp] theorem State.renderStep_sound (s : State) (inp : FrameInput) (h : Sound s) : Sound (s.renderStep inp) := by
  unfold State.renderStep; simp (maxDischargeDepth := 30) [h]

@[simp] theorem State.setStep_sound (s : State) (z : Zone) (k : Kind) (step : Nat) (h : Sound s) : Sound (s.setStep z k step) := by
  unfold State.setStep; (try dsimp only); (repeat' split) <;> simp (maxDischargeDepth := 30) [h]

@[simp] theorem State.setTrim_sound (s : State) (z : Zone) (src : Source) (v : Int) (h : Sound s) : Sound (s.setTrim z src v) := by
  unfold State.setTrim; (try dsimp only); (repeat' split) <;> simp (maxDischargeDepth := 30) [h]

@[simp] theorem State.coolFall_sound (s : State) (k : Nat) (h : Sound s) : Sound (s.coolFall k) := by
  unfold State.coolFall; (try dsimp only); (repeat' split) <;> simp (maxDischargeDepth := 30) [h]

@[simp] theorem State.stage_sound (s : State) (z : Zone) (l : List (ProfileField × Int)) (h : Sound s) : Sound (s.stage z l) := by
  unfold State.stage; (try dsimp only); (repeat' split) <;> simp (maxDischargeDepth := 30) [h]

@[simp] theorem State.discard_sound (s : State) (z : Zone) (h : Sound s) : Sound (s.discard z) := by
  unfold State.discard; (try dsimp only); (repeat' split) <;> simp (maxDischargeDepth := 30) [h]

@[simp] theorem State.setRow_sound (s : State) (z : Zone) (row : Nat) (e : Effect) (h : Sound s) : Sound (s.setRow z row e) := by
  unfold State.setRow
  exact State.evaluate_sound _ _ _ h

@[simp] theorem State.loadPolicy_sound (s : State) (t : PerZone PolicyRows) (h : Sound s) : Sound (s.loadPolicy t) := by
  unfold State.loadPolicy; dsimp only
  have h1 : Sound (s.mapArb (fun a => { a with policy := t, policyLoaded := true })) := h
  split <;> simp (maxDischargeDepth := 30) [h1]

end Sys2Proof.Machine
end

