-- ==== Sys2Proof/Laws/Station.lean ====
section
/-! SUPPORT. What the station table's shared operations do, once for all: a frequency joins a list (R124), a record takes a slot (R123,
R126), and the changes of a step are counted (R120, R132). -/

namespace Sys2Proof.Machine

/-! ## A frequency joins a list (R124) -/

/-- What is displaced of a list whose places count from `n` on: the largest age, nearer the tail between equal ages. -/
theorem oldestEntry_spec : ∀ (l : List FreqEntry) (n : Nat), (l = [] → oldestEntry n l = none) ∧
    (l ≠ [] → ∃ (k : Nat) (x : FreqEntry), l[k]? = some x ∧ oldestEntry n l = some (n + k, x.age) ∧
      ∀ (j : Nat) (y : FreqEntry), j ≠ k → l[j]? = some y → y.age < x.age ∨ (y.age = x.age ∧ j < k))
  | [], n => ⟨fun _ => rfl, fun h => absurd rfl h⟩
  | e :: es, n => by
    refine ⟨fun h => absurd h (by simp), fun _ => ?_⟩
    by_cases hs : es = []
    · subst hs
      refine ⟨0, e, rfl, rfl, fun j y hj hy => ?_⟩
      obtain ⟨i, rfl⟩ : ∃ i, j = i + 1 := ⟨j - 1, by omega⟩
      simp at hy
    · obtain ⟨k, x, hx, ho, hl⟩ := (oldestEntry_spec es (n + 1)).2 hs
      by_cases ha : x.age < e.age
      · refine ⟨0, e, rfl, by simp [oldestEntry, ho, ha], fun j y hj hy => ?_⟩
        obtain ⟨i, rfl⟩ : ∃ i, j = i + 1 := ⟨j - 1, by omega⟩
        by_cases hi : i = k
        · subst hi
          have : y = x := by simpa [hx] using hy.symm
          exact .inl (this ▸ ha)
        · have := hl i y hi (by simpa using hy)
          omega
      · refine ⟨k + 1, x, by simpa using hx, by simp [oldestEntry, ho, ha]; omega, fun j y hj hy => ?_⟩
        cases j with
        | zero =>
          have : y = e := by simpa using hy.symm
          subst this
          omega
        | succ i =>
          have := hl i y (by omega) (by simpa using hy)
          omega

/-- R124: the list after a join. -/
theorem StationRec.join_spec (r : StationRec) (e : FreqEntry) :
    Joined r.freqs e (r.join e).freqs ∧ r.join e = { r with freqs := (r.join e).freqs } := by
  have hl : r.lists e.freq = true ↔ e.freq ∈ r.freqs.map FreqEntry.freq := by
    simp only [StationRec.lists, List.any_eq_true, beq_iff_eq, List.mem_map]
  unfold StationRec.join
  by_cases h : r.lists e.freq = true
  · rw [if_pos h]
    exact ⟨⟨fun _ => rfl, fun hn => absurd (hl.1 h) hn, fun hn => absurd (hl.1 h) hn⟩, rfl⟩
  · rw [if_neg h]
    have hm : e.freq ∉ r.freqs.map FreqEntry.freq := fun hn => h (hl.2 hn)
    by_cases h8 : r.freqs.length < 8
    · rw [if_pos h8]
      exact ⟨⟨fun hn => absurd hn hm, fun _ _ => rfl, fun _ hg => absurd hg (by omega)⟩, rfl⟩
    · rw [if_neg h8]
      cases hf : r.freqs with
      | nil => exact absurd (by rw [hf]; simp) h8
      | cons p t =>
        have ht : t ≠ [] := by
          rintro rfl
          exact h8 (by rw [hf]; simp)
        obtain ⟨k, x, hx, ho, hy⟩ := (oldestEntry_spec t 1).2 ht
        simp only [List.tail_cons, ho]
        refine ⟨⟨fun hn => absurd (by rwa [← hf] at hn) hm, fun _ hg => absurd (by rwa [← hf] at hg) h8, fun _ _ => ?_⟩, trivial⟩
        refine ⟨1 + k, x, by omega, by simpa [Nat.add_comm] using hx, rfl, fun j y hj hne hjy => ?_⟩
        obtain ⟨i, rfl⟩ : ∃ i, j = i + 1 := ⟨j - 1, by omega⟩
        have := hy i y (by omega) (by simpa using hjy)
        omega

/-! ## The slot of a new record (R123, R126) -/

theorem emptySlot_spec : ∀ (l : List StaSlot) (n : Nat),
    (emptySlot n l = none → ∀ (j : Nat) (x : StaSlot), l[j]? = some x → x.record.isSome = true) ∧
    ∀ i, emptySlot n l = some i → ∃ (j : Nat) (x : StaSlot), i = n + j ∧ l[j]? = some x ∧ x.record = none ∧
      ∀ (m : Nat) (y : StaSlot), m < j → l[m]? = some y → y.record.isSome = true
  | [], n => ⟨fun _ j x h => by simp at h, fun i h => by simp [emptySlot] at h⟩
  | s :: ss, n => by
    have ih := emptySlot_spec ss (n + 1)
    cases hs : s.record with
    | none =>
      refine ⟨fun h => by simp [emptySlot, hs] at h, fun i h => ?_⟩
      refine ⟨0, s, by simpa [emptySlot, hs] using h.symm, rfl, hs, fun m y hm => absurd hm (by omega)⟩
    | some r =>
      have he : emptySlot n (s :: ss) = emptySlot (n + 1) ss := by simp [emptySlot, hs]
      rw [he]
      refine ⟨fun h j x hx => ?_, fun i h => ?_⟩
      · cases j with
        | zero =>
          have : x = s := by simpa using hx.symm
          subst this
          simp [hs]
        | succ j => exact ih.1 h j x (by simpa using hx)
      · obtain ⟨j, x, hi, hx, hn, hm⟩ := ih.2 i h
        refine ⟨j + 1, x, by omega, by simpa using hx, hn, fun m y hlt hy => ?_⟩
        cases m with
        | zero =>
          have : y = s := by simpa using hy.symm
          subst this
          simp [hs]
        | succ m => exact hm m y (by omega) (by simpa using hy)

/-- R126: whether a record may be evicted. -/
def Evictable (r : StationRec) : Prop := r.origin = .scan ∧ r.preset = none

theorem evictable_spec : ∀ (l : List StaSlot) (n : Nat),
    (evictable n l = none → ∀ (j : Nat) (x : StaSlot) (r : StationRec), l[j]? = some x → x.record = some r → ¬ Evictable r) ∧
    ∀ i a, evictable n l = some (i, a) → ∃ (j : Nat) (x : StaSlot) (r : StationRec), i = n + j ∧ l[j]? = some x ∧ x.record = some r ∧ Evictable r ∧
      r.age = a ∧ ∀ (m : Nat) (y : StaSlot) (p : StationRec), m ≠ j → l[m]? = some y → y.record = some p → Evictable p → p.age < a ∨ (p.age = a ∧ j < m)
  | [], n => ⟨fun _ j x r h => by simp at h, fun i a h => by simp [evictable] at h⟩
  | s :: ss, n => by
    have ih := evictable_spec ss (n + 1)
    by_cases hs : ∃ r, s.record = some r ∧ Evictable r
    · obtain ⟨r, hr, he⟩ := hs
      have hcons : evictable n (s :: ss) = match evictable (n + 1) ss with
          | some (m, a) => if r.age < a then some (m, a) else some (n, r.age)
          | none => some (n, r.age) := by
        simp only [evictable, hr]
        refine (if_pos (show r.origin = Origin.scan ∧ r.preset = none from he)).trans ?_
        cases evictable (n + 1) ss <;> rfl
      rw [hcons]
      cases ht : evictable (n + 1) ss with
      | none =>
        refine ⟨fun h => by simp at h, fun i a h => ?_⟩
        obtain ⟨rfl, rfl⟩ : n = i ∧ r.age = a := by simpa using h
        refine ⟨0, s, r, rfl, rfl, hr, he, rfl, fun m y p hm hy hp hpe => ?_⟩
        obtain ⟨m, rfl⟩ : ∃ k, m = k + 1 := ⟨m - 1, by omega⟩
        exact absurd hpe (ih.1 ht m y p (by simpa using hy) hp)
      | some b =>
        obtain ⟨m0, a0⟩ := b
        obtain ⟨j, x, r0, hi, hx, hr0, he0, ha0, hmax⟩ := ih.2 m0 a0 ht
        by_cases hlt : r.age < a0
        · simp only [if_pos hlt]
          refine ⟨fun h => by simp at h, fun i a h => ?_⟩
          obtain ⟨rfl, rfl⟩ : m0 = i ∧ a0 = a := by simpa using h
          refine ⟨j + 1, x, r0, by omega, by simpa using hx, hr0, he0, ha0, fun m y p hm hy hp hpe => ?_⟩
          cases m with
          | zero =>
            have hys : y = s := by simpa using hy.symm
            subst hys
            have hpr : p = r := by simpa [hr] using hp.symm
            subst hpr
            exact .inl hlt
          | succ m =>
            have := hmax m y p (by omega) (by simpa using hy) hp hpe
            omega
        · simp only [if_neg hlt]
          refine ⟨fun h => by simp at h, fun i a h => ?_⟩
          obtain ⟨rfl, rfl⟩ : n = i ∧ r.age = a := by simpa using h
          refine ⟨0, s, r, rfl, rfl, hr, he, rfl, fun m y p hm hy hp hpe => ?_⟩
          obtain ⟨m, rfl⟩ : ∃ k, m = k + 1 := ⟨m - 1, by omega⟩
          have hy' : ss[m]? = some y := by simpa using hy
          by_cases hmj : m = j
          · subst hmj
            obtain rfl : x = y := by simpa [hx] using hy'
            obtain rfl : r0 = p := by simpa [hr0] using hp
            omega
          · have := hmax m y p hmj hy' hp hpe
            omega
    · have hcons : evictable n (s :: ss) = evictable (n + 1) ss := by
        cases hr : s.record with
        | none => simp [evictable, hr]
        | some r =>
          have : ¬ (r.origin = Origin.scan ∧ r.preset = none) := fun he => hs ⟨r, hr, he⟩
          simp [evictable, hr, this]
      rw [hcons]
      refine ⟨fun h j x r hx hr he => ?_, fun i a h => ?_⟩
      · cases j with
        | zero =>
          obtain rfl : s = x := by simpa using hx
          exact hs ⟨r, hr, he⟩
        | succ j => exact ih.1 h j x r (by simpa using hx) hr he
      · obtain ⟨j, x, r, hi, hx, hr, he, ha, hmax⟩ := ih.2 i a h
        refine ⟨j + 1, x, r, by omega, by simpa using hx, hr, he, ha, fun m y p hm hy hp hpe => ?_⟩
        cases m with
        | zero =>
          obtain rfl : s = y := by simpa using hy
          exact absurd ⟨p, hp, hpe⟩ hs
        | succ m =>
          have := hmax m y p (by omega) (by simpa using hy) hp hpe
          omega

theorem Table.recAt_of_slot {t : Table} {n : Nat} {x : StaSlot} (h : t.slots[n]? = some x) : t.recAt n = x.record := by
  simp [Table.recAt, h]

/-- R123, R126: a record is created in the slot that the rules name, and not at all where they name none. -/
theorem Table.create_takes (t : Table) (r : StationRec) :
    (∀ n u, t.create r = some (n, u) → TakesSlot t n) ∧ (t.create r = none → ∀ i, ¬ TakesSlot t i) := by
  have slot : ∀ {j : Nat}, j < t.slots.length → ∃ x, t.slots[j]? = some x := fun h => ⟨_, List.getElem?_eq_getElem h⟩
  unfold Table.create
  cases he : emptySlot 0 t.slots with
  | some n =>
    refine ⟨fun m u h => ?_, fun h => by simp at h⟩
    obtain ⟨rfl, -⟩ : n = m ∧ t.enter n r = u := by simpa using h
    obtain ⟨j, x, hj, hx, hn, hall⟩ := (emptySlot_spec t.slots 0).2 n he
    obtain rfl : j = n := by omega
    refine .inl ⟨(List.getElem?_eq_some_iff.1 hx).1, by rw [Table.recAt_of_slot hx, hn], fun m hm => ?_⟩
    obtain ⟨y, hy⟩ := slot (hm.trans (List.getElem?_eq_some_iff.1 hx).1)
    rw [Table.recAt_of_slot hy]
    exact hall m y hm hy
  | none =>
    have full : ∀ j, j < t.slots.length → (t.recAt j).isSome = true := fun j hj => by
      obtain ⟨y, hy⟩ := slot hj
      rw [Table.recAt_of_slot hy]
      exact (emptySlot_spec t.slots 0).1 he j y hy
    have held : ∀ {m : Nat} {p : StationRec}, t.recAt m = some p → ∃ y, t.slots[m]? = some y ∧ y.record = some p := fun {m p} h => by
      cases hy : t.slots[m]? with
      | none => simp [Table.recAt, hy] at h
      | some y => exact ⟨y, rfl, by rwa [Table.recAt_of_slot hy] at h⟩
    cases hv : evictable 0 t.slots with
    | some b =>
      obtain ⟨n, a⟩ := b
      refine ⟨fun m u h => ?_, fun h => by simp at h⟩
      obtain ⟨rfl, -⟩ : n = m ∧ (t.leave n).enter n r = u := by simpa using h
      obtain ⟨j, x, o, hj, hx, ho, hev, ha, hmax⟩ := (evictable_spec t.slots 0).2 n a hv
      obtain rfl : j = n := by omega
      refine .inr ⟨full, o, by rw [Table.recAt_of_slot hx, ho], hev.1, hev.2, fun m p hm hp h1 h2 => ?_⟩
      obtain ⟨y, hy, hyp⟩ := held hp
      exact ha ▸ hmax m y p hm hy hyp ⟨h1, h2⟩
    | none =>
      refine ⟨fun m u h => by simp at h, fun _ i hi => ?_⟩
      rcases hi with ⟨hlt, hnone, -⟩ | ⟨-, o, ho, h1, h2, -⟩
      · have := full i hlt
        simp [hnone] at this
      · obtain ⟨y, hy, hyo⟩ := held ho
        exact (evictable_spec t.slots 0).1 hv i y o hy hyo ⟨h1, h2⟩

/-! ## The changes of a step (R120, R132) -/

theorem countSlots_get : ∀ (os ns : List StaSlot) (n : Nat), os.length = ns.length → ∀ (o x : StaSlot), os[n]? = some o → ns[n]? = some x →
    (countSlots os ns)[n]? = some { x with revision := if StaSlot.changed o x then o.revision + 1 else o.revision }
  | [], _, n, _, o, x, h, _ => by simp at h
  | _ :: _, [], n, h, _, _, _, _ => by simp at h
  | a :: os, b :: ns, 0, _, o, x, h1, h2 => by
    obtain rfl : a = o := by simpa using h1
    obtain rfl : b = x := by simpa using h2
    rfl
  | a :: os, b :: ns, n + 1, h, o, x, h1, h2 => by
    simpa [countSlots] using countSlots_get os ns n (by simpa using h) o x (by simpa using h1) (by simpa using h2)

/-- R120: a change of no slot is none, and a change of one is one. -/
theorem anyChanged_spec : ∀ (os ns : List StaSlot), os.length = ns.length →
    (anyChanged os ns = true ↔ ∃ (n : Nat) (o x : StaSlot), os[n]? = some o ∧ ns[n]? = some x ∧ StaSlot.changed o x = true)
  | [], _, _ => by simp [anyChanged]
  | _ :: _, [], h => by simp at h
  | a :: os, b :: ns, h => by
    simp only [anyChanged, Bool.or_eq_true, anyChanged_spec os ns (by simpa using h)]
    constructor
    · rintro (hc | ⟨n, o, x, ho, hx, hc⟩)
      · exact ⟨0, a, b, rfl, rfl, hc⟩
      · exact ⟨n + 1, o, x, by simpa using ho, by simpa using hx, hc⟩
    · rintro ⟨n, o, x, ho, hx, hc⟩
      cases n with
      | zero =>
        obtain rfl : a = o := by simpa using ho
        obtain rfl : b = x := by simpa using hx
        exact .inl hc
      | succ n => exact .inr ⟨n, o, x, by simpa using ho, by simpa using hx, hc⟩

/-- R120, R132: the changes that a step makes in the table, no revision and no reservation touched, are counted at its end, and no record
differs by it. -/
theorem State.countHost_counted {s u : State} (hl : s.sta.slots.length = u.sta.slots.length)
    (hv : ∀ (m : Nat) (o x : StaSlot), s.sta.slots[m]? = some o → u.sta.slots[m]? = some x → x.revision = o.revision)
    (hr : u.sta.reservation = s.sta.reservation) :
    Counted s (State.countHost s u) ∧ ∀ m, (State.countHost s u).sta.recAt m = u.sta.recAt m := by
  have changed : ∀ {m : Nat} {o x : StaSlot}, s.sta.slots[m]? = some o → u.sta.slots[m]? = some x →
      (StaSlot.changed o x = true ↔ (u.sta.recAt m).map StationRec.content ≠ (s.sta.recAt m).map StationRec.content) := by
    intro m o x ho hx
    rw [Table.recAt_of_slot ho, Table.recAt_of_slot hx]
    simp only [StaSlot.changed, hv m o x ho hx, ne_eq, not_true_eq_false, or_false, decide_eq_true_eq]
    exact ⟨fun h he => h he.symm, fun h he => h he.symm⟩
  have slot : ∀ (m : Nat), (∃ o x, s.sta.slots[m]? = some o ∧ u.sta.slots[m]? = some x ∧
      (State.countHost s u).sta.slots[m]? = some { x with revision := if StaSlot.changed o x then o.revision + 1 else o.revision }) ∨
      (s.sta.slots[m]? = none ∧ u.sta.slots[m]? = none ∧ (State.countHost s u).sta.slots[m]? = none) := by
    intro m
    by_cases hm : m < s.sta.slots.length
    · exact .inl ⟨_, _, List.getElem?_eq_getElem hm, List.getElem?_eq_getElem (hl ▸ hm),
        countSlots_get s.sta.slots u.sta.slots m hl _ _ (List.getElem?_eq_getElem hm) (List.getElem?_eq_getElem (hl ▸ hm))⟩
    · refine .inr ⟨List.getElem?_eq_none (by omega), List.getElem?_eq_none (by omega), List.getElem?_eq_none ?_⟩
      show (countSlots s.sta.slots u.sta.slots).length ≤ m
      rw [countSlots_length]
      omega
  have rec_same : ∀ m, (State.countHost s u).sta.recAt m = u.sta.recAt m := by
    intro m
    rcases slot m with ⟨o, x, -, hx, ht⟩ | ⟨-, hx, ht⟩
    · rw [Table.recAt_of_slot hx, Table.recAt_of_slot ht]
    · simp [Table.recAt, hx, ht]
  have kept : (State.countHost s u).sta.reservation = keepReservation s.sta.slots u.sta.slots s.sta.reservation := by
    rw [← hr]
    rfl
  refine ⟨⟨fun m => ?_, fun h => by rw [kept, h]; rfl, fun m v h => ?_⟩, rec_same⟩
  · beta_reduce
    rw [rec_same]
    rcases slot m with ⟨o, x, ho, hx, ht⟩ | ⟨ho, hx, ht⟩
    · have hc := changed ho hx
      simp only [State.revisionOf, ho, ht]
      exact ⟨fun hs => by rw [if_neg (fun h => hc.1 h hs)], fun hs => by rw [if_pos (hc.2 hs)]⟩
    · simp [State.revisionOf, Table.recAt, ho, hx, ht]
  · beta_reduce
    rw [kept, rec_same, h]
    rcases slot m with ⟨o, x, ho, hx, ht⟩ | ⟨ho, hx, ht⟩
    · have hc := changed ho hx
      simp only [keepReservation, ho, hx]
      exact ⟨fun hs => by rw [if_neg (fun h => hc.1 h hs)], fun hs => by rw [if_pos (hc.2 hs)]⟩
    · simp [keepReservation, Table.recAt, ho, hx]

/-- R120: where the block itself has made the changes, STATION_CHANGED is raised with them. -/
theorem State.countDevice_counted {s u : State} (hl : s.sta.slots.length = u.sta.slots.length)
    (hv : ∀ (m : Nat) (o x : StaSlot), s.sta.slots[m]? = some o → u.sta.slots[m]? = some x → x.revision = o.revision)
    (hr : u.sta.reservation = s.sta.reservation) :
    CountedByDevice s (State.countDevice s u) ∧ ∀ m, (State.countDevice s u).sta.recAt m = u.sta.recAt m := by
  obtain ⟨hc, hrec⟩ := State.countHost_counted hl hv hr
  have sta : (State.countDevice s u).sta = (State.countHost s u).sta := by
    unfold State.countDevice State.countHost
    split <;> rfl
  have rec_same : ∀ m, (State.countDevice s u).sta.recAt m = u.sta.recAt m := fun m => by rw [sta]; exact hrec m
  refine ⟨⟨?_, ?_⟩, rec_same⟩
  · simpa only [Counted, State.revisionOf, sta] using hc
  · rintro ⟨m, hm⟩
    rw [rec_same] at hm
    have hany : anyChanged s.sta.slots u.sta.slots = true := by
      refine (anyChanged_spec _ _ hl).2 ?_
      by_cases hlt : m < s.sta.slots.length
      · refine ⟨m, _, _, List.getElem?_eq_getElem hlt, List.getElem?_eq_getElem (hl ▸ hlt), ?_⟩
        rw [Table.recAt_of_slot (List.getElem?_eq_getElem hlt), Table.recAt_of_slot (List.getElem?_eq_getElem (hl ▸ hlt))] at hm
        exact decide_eq_true (.inl (Ne.symm hm))
      · exact absurd (by simp [Table.recAt, List.getElem?_eq_none (show s.sta.slots.length ≤ m by omega),
          List.getElem?_eq_none (show u.sta.slots.length ≤ m by omega)]) hm
    show (if anyChanged s.sta.slots u.sta.slots then _ else _ : State).port.flags.getLsbD 21 = true
    rw [if_pos hany]
    exact Port.raise_sets _ .stationChanged (by decide)

end Sys2Proof.Machine
end

