-- ==== Sys2Proof/WellFormed.lean ====
section
/-! DEFINITION. Which commands the part can meet: the ranges that a link's bytes, a front end, an estimator or an audio input can
carry. A request's parameter may lie outside the range of its rule (the rule then refuses or clamps it); it may not lie outside its
field. No check of the model's meanings rests on it. -/

namespace Sys2Proof

/-- A one-byte field. -/
def byteField (n : Nat) : Bool := decide (n < 256)

/-- R190: a two-byte field. -/
def wordField (n : Nat) : Bool := decide (n < 65536)

/-- A signed two-byte field. -/
def signedField (v : Int) : Bool := decide (-32768 ≤ v ∧ v ≤ 32767)

/-- R190: bytes of one payload. -/
def payloadField (l : List Byte) : Bool := decide (l.length ≤ 250)

/-- R100: FS 0..120, MP 0..100, ADJ 0..100. -/
def measured (fs mp adj : Nat) : Bool := decide (fs ≤ 120 ∧ mp ≤ 100 ∧ adj ≤ 100)

/-- R100: a frequency on its band's grid. -/
def Station.onGrid (s : Station) : Bool :=
  match s.band with
  | .fm => decide (8750 ≤ s.freq ∧ s.freq ≤ 10800 ∧ s.freq % 5 = 0)
  | .am => decide (522 ≤ s.freq ∧ s.freq ≤ 1710 ∧ s.freq % 9 = 0)

/-- R100: what the data decoder can read. -/
def DecodedItem.wellFormed : DecodedItem → Bool
  | .sync _ => true
  | .code c => decide (c ≤ 65535)
  | .name n => decide (n.length ≤ 8)
  | .pty p => decide (p ≤ 31)
  | .af f => wordField f
  | .tp _ => true
  | .ta _ => true

/-- R160: a level in -480..0, or mute. -/
def levelField : Gain → Bool
  | none => true
  | some g => decide (-480 ≤ g ∧ g ≤ 0)

def PerMic.every {α : Type} (f : α → Bool) (p : PerMic α) : Bool := f p.m1 && f p.m2 && f p.m3 && f p.m4

/-- 00_scope.md: a sample of an audio input, in units of 2^-23. -/
def sampleField (v : Int) : Bool := decide (-8388608 ≤ v ∧ v ≤ 8388607)

/-- 48 stereo samples. -/
def stereoField (l : List (Int × Int)) : Bool := l.length == 48 && l.all (fun x => sampleField x.1 && sampleField x.2)

/-- 16 samples of 16 kHz. -/
def narrowField (l : List Int) : Bool := l.length == 16 && l.all sampleField

/-- R34: one frame's worth of every input. -/
def FrameInput.wellFormed (f : FrameInput) : Bool :=
  stereoField f.mediaA && stereoField f.mediaB && stereoField f.programme.p1 && stereoField f.programme.p2 &&
    narrowField f.callDown && narrowField f.telemDown && f.cancelled.every narrowField

/-- R168: an identifier of its format and at most eight data bytes. -/
def VehicleFrame.wellFormed (f : VehicleFrame) : Bool :=
  decide (f.id < (if f.extended then 2 ^ 29 else 2 ^ 11)) && decide (f.data.length ≤ 8)

/-- R190, R192: the fields of a station write. -/
def StationFields.wellFormed (f : StationFields) : Bool :=
  (match f.band with | some b => byteField b | none => true) &&
  (match f.code with | some c => wordField c | none => true) &&
  (match f.name with | some n => payloadField n | none => true) &&
  (match f.pty with | some p => byteField p | none => true) &&
  (match f.freqs with | some l => l.all wordField | none => true)

def QuantityField.wellFormed : QuantityField → Bool
  | .volume z k => byteField z && byteField k
  | .speed => true
  | .q1 => true
  | .q2 => true
  | .freePages => true
  | .maxThermalL => true
  | .erle => true
  | .noise => true

def ActionField.wellFormed : ActionField → Bool
  | .notify => true
  | .take z => byteField z
  | .release z => byteField z

/-- A command that can arrive. -/
def Instr.wellFormed : Instr → Bool
  | .coldReset => true
  | .warmReset => true
  | .frameReceived _ => true
  | .frameGapTimeout => true
  | .unknownRequest _ _ n => decide (n ≤ 250)
  | .sysIdentify _ => true
  | .sysLoadTableOnly _ t l => byteField t && payloadField l
  | .sysLoadTableFirst _ t l => byteField t && payloadField l
  | .sysLoadTableMore _ t l => byteField t && payloadField l
  | .sysLoadTableLast _ t l => byteField t && payloadField l
  | .sysStart _ => true
  | .sysReset _ => true
  | .sysNoticeMask _ _ _ => true
  | .sysNoticeAck _ _ => true
  | .noticeFrameSent => true
  | .zoneSelect _ z src => byteField z && byteField src
  | .zonePolicy _ z r _ d => byteField z && byteField r && byteField d
  | .zoneStatus _ z => byteField z
  | .zoneVolume _ z k n => byteField z && byteField k && byteField n
  | .zoneTrim _ z src t => byteField z && byteField src && signedField t
  | .zoneLevels _ z src => byteField z && byteField src
  | .yieldExpiry _ => true
  | .renderFrame f => f.wellFormed
  | .coolCountExpiry k => decide (k ≤ 21)
  | .profileStage _ z l => byteField z && l.all (fun x => signedField x.2)
  | .profileRead _ z _ => byteField z
  | .profileTakeNow _ z _ => byteField z
  | .profileTakeHold _ z => byteField z
  | .profileRelease _ z => byteField z
  | .profileDiscard _ z => byteField z
  | .poolAlloc _ n r _ _ => wordField n && wordField r
  | .poolPending _ => true
  | .poolCancel _ _ => true
  | .poolSeek _ c p _ => byteField c && decide (p < 2 ^ 32)
  | .poolWrite _ l => decide (l.length ≤ 125)
  | .poolRead _ n => byteField n
  | .poolSeal _ c n => byteField c && decide (n < 2 ^ 32)
  | .poolRelease _ c => byteField c
  | .poolStatus _ => true
  | .poolClip _ c => byteField c
  | .voiceEnqueue _ v c m r g t k w =>
    byteField v && byteField c && byteField m && byteField r && wordField g && decide (t < 2 ^ 32) && signedField k && byteField w
  | .voiceCompletions _ => true
  | .voiceFlush _ v => byteField v
  | .voiceSkip _ v => byteField v
  | .voiceStatus _ v => byteField v
  | .maxWaitExpiry _ => true
  | .gapExpiry _ => true
  | .fadeComplete _ => true
  | .tunerFront _ _ f => wordField f
  | .tunerRear _ z _ f => byteField z && wordField f
  | .tunerFlags _ _ _ => true
  | .tunerConfig _ a b c d => byteField a && wordField b && byteField c && byteField d
  | .tunerSeek _ _ => true
  | .tunerStatus _ => true
  | .tuneFadeDone _ => true
  | .tuneConfirmation _ st => st.onGrid
  | .confirmTimeout _ => true
  | .settleDone _ => true
  | .failureRetry _ => true
  | .pathMeasurement _ a b c => measured a b c
  | .decodedField _ x => x.wellFormed
  | .seekStepMeasurement a b c => measured a b c
  | .afCheckBegin => true
  | .afTrialEnd => true
  | .peekStart => true
  | .peekCandidateCommand => true
  | .peekMeasurement a b c => measured a b c
  | .peekReturn => true
  | .stationList _ n => byteField n
  | .stationRead _ n _ => byteField n
  | .stationWrite _ n f => byteField n && f.wellFormed
  | .stationWriteCond _ n f => byteField n && f.wellFormed
  | .stationDelete _ n => byteField n
  | .stationPresetAssign _ p n => byteField p && byteField n
  | .stationPresetClear _ p => byteField p
  | .stationPresetQuery _ p _ => byteField p
  | .stationAdmit _ _ _ => true
  | .stationAgeTick => true
  | .scanConfig _ a b c => byteField a && byteField b && byteField c
  | .scanIntervalExpiry => true
  | .scanVisitMeasurement a b c => measured a b c
  | .codeDwellEnd => true
  | .scanWindowTimeout => true
  | .trafficStatus _ => true
  | .tailExpiry _ => true
  | .announcementAgeLimit _ => true
  | .callRing _ m c g => byteField m && byteField c && wordField g
  | .callAnswer _ => true
  | .callHold _ => true
  | .callResume _ => true
  | .callEnd _ => true
  | .callMode _ m => byteField m
  | .callTrim _ a b => signedField a && signedField b
  | .callEchoConfig _ a b => wordField a && wordField b
  | .callStatus _ => true
  | .micLevelDelivery a b => a.every levelField && b.every levelField
  | .noiseForming => true
  | .echoEstimate e _ => wordField e
  | .echoConverged => true
  | .frozenHangEnd => true
  | .vehicleSpeed _ l => payloadField l
  | .vehicleChime _ l => payloadField l
  | .vehicleChimeStop _ l => payloadField l
  | .vehicleOverride _ l => payloadField l
  | .vehicleStatus _ => true
  | .speed v => wordField v
  | .speedStale => true
  | .chime c m r g => byteField c && byteField m && byteField r && wordField g
  | .chimeStop => true
  | .overrideEnter => true
  | .overrideExitResume => true
  | .overrideExitDrop => true
  | .vehicleFrameIgnored f => f.wellFormed
  | .statusPeriod => true
  | .statusSent => true
  | .chimeDoneSent => true
  | .watchSet _ n q t _ h _ a =>
    byteField n && (match q with | some x => x.wellFormed | none => true) && signedField t && byteField h &&
      (match a with | some x => x.wellFormed | none => true)
  | .watchClear _ n => byteField n
  | .watchQuery _ n => byteField n
  | .watchFire n => decide (n ≤ 15)
  | .replyFrameSent => true

end Sys2Proof
end

