-- ==== Sys2Proof/Tests/Slice0.lean ====
section
/-! SUPPORT. Tests: an ill-formed command for each check of WellFormed, the manual's worked cases, and for each statement with
hypotheses a state and operands that meet them. -/

namespace Sys2Proof.Tests

open Sys2Proof.Machine

/-! ## WellFormed refuses -/

theorem test_wf_bytes :
    (Instr.wellFormed (.zoneSelect 0 256 0) || Instr.wellFormed (.zoneVolume 0 0 0 256) || Instr.wellFormed (.zonePolicy 0 0 0 none 256) ||
      Instr.wellFormed (.poolRead 0 256) || Instr.wellFormed (.voiceFlush 0 256) || Instr.wellFormed (.stationList 0 256) ||
      Instr.wellFormed (.callMode 0 256) || Instr.wellFormed (.watchClear 0 256) || Instr.wellFormed (.profileRead 0 256 none) ||
      Instr.wellFormed (.chime 1 256 0 0)) = false := by decide

theorem test_wf_words :
    (Instr.wellFormed (.poolAlloc 0 65536 48000 none false) || Instr.wellFormed (.tunerFront 0 (some .fm) 65536) ||
      Instr.wellFormed (.callRing 0 0 1 65536) || Instr.wellFormed (.speed 65536) || Instr.wellFormed (.echoEstimate 65536 false) ||
      Instr.wellFormed (.callEchoConfig 0 65536 0)) = false := by decide

theorem test_wf_signed :
    (Instr.wellFormed (.zoneTrim 0 0 0 32768) || Instr.wellFormed (.callTrim 0 0 (-32769)) ||
      Instr.wellFormed (.profileStage 0 0 [(some .balance, 32768)]) ||
      Instr.wellFormed (.watchSet 0 0 none 32768 none 1 none none)) = false := by decide

theorem test_wf_lengths :
    (Instr.wellFormed (.vehicleSpeed 0 (List.replicate 251 0)) || Instr.wellFormed (.sysLoadTableOnly 0 0 (List.replicate 251 0)) ||
      Instr.wellFormed (.unknownRequest 0 0 251) || Instr.wellFormed (.poolWrite 0 (List.replicate 126 0)) ||
      Instr.wellFormed (.poolSeek 0 1 4294967296 none) || Instr.wellFormed (.poolSeal 0 1 4294967296)) = false := by decide +kernel

theorem test_wf_measurements :
    (Instr.wellFormed (.pathMeasurement .p1 121 0 0) || Instr.wellFormed (.seekStepMeasurement 0 101 0) ||
      Instr.wellFormed (.peekMeasurement 0 0 101) || Instr.wellFormed (.scanVisitMeasurement 121 0 0)) = false := by decide

theorem test_wf_stations :
    (Instr.wellFormed (.tuneConfirmation .p1 ⟨.fm, 8751⟩) || Instr.wellFormed (.tuneConfirmation .p2 ⟨.am, 1719⟩)) = false := by
  decide

theorem test_wf_decoded :
    (Instr.wellFormed (.decodedField .p1 (.code 65536)) || Instr.wellFormed (.decodedField .p1 (.name (List.replicate 9 65))) ||
      Instr.wellFormed (.decodedField .p1 (.pty 32)) || Instr.wellFormed (.decodedField .p1 (.af 65536))) = false := by decide

theorem test_wf_levels :
    (Instr.wellFormed (.micLevelDelivery ⟨some 1, none, none, none⟩ ⟨none, none, none, none⟩) ||
      Instr.wellFormed (.micLevelDelivery ⟨none, none, none, none⟩ ⟨none, none, none, some (-481)⟩)) = false := by decide

/-- One frame of zero samples. -/
def quietFrame : FrameInput :=
  let s := List.replicate 48 (0, 0)
  let n := List.replicate 16 0
  ⟨s, s, ⟨s, s⟩, ⟨false, false⟩, n, n, ⟨n, n, n, n⟩⟩

theorem test_wf_frames :
    Instr.wellFormed (.renderFrame quietFrame) = true ∧
    (Instr.wellFormed (.renderFrame { quietFrame with mediaA := [] }) ||
      Instr.wellFormed (.renderFrame { quietFrame with mediaB := List.replicate 48 (8388608, 0) }) ||
      Instr.wellFormed (.renderFrame { quietFrame with telemDown := List.replicate 16 (-8388609) })) = false := by decide

theorem test_wf_vehicle_frames :
    (Instr.wellFormed (.vehicleFrameIgnored ⟨2048, false, false, []⟩) ||
      Instr.wellFormed (.vehicleFrameIgnored ⟨536870912, true, false, []⟩) ||
      Instr.wellFormed (.vehicleFrameIgnored ⟨0, false, false, List.replicate 9 0⟩)) = false := by decide

theorem test_wf_numbers :
    (Instr.wellFormed (.coolCountExpiry 22) || Instr.wellFormed (.watchFire 16)) = false := by decide

theorem test_wf_fields :
    (Instr.wellFormed (.stationWrite 0 0 ⟨none, none, none, none, none, some [65536]⟩) ||
      Instr.wellFormed (.stationWriteCond 0 0 ⟨some 256, none, none, none, none, none⟩) ||
      Instr.wellFormed (.watchSet 0 0 (some (.volume 256 0)) 0 none 1 none none) ||
      Instr.wellFormed (.watchSet 0 0 none 0 none 1 none (some (.take 256)))) = false := by decide

/-! ## The manual's worked cases -/

/-- A channel map whose channel 3 is that of section 2.10 and whose channel 14 that of section 2.4. -/
def testMap : List ChannelEntry :=
  (List.replicate 22 (⟨.f, .l, -6, 4096, 1024, 0⟩ : ChannelEntry)).set 14 ⟨.r, .l, -6, 4096, 1024, 0⟩

/-- Section 2.4: RADIO_1 in CABIN, DUCKED 40. -/
def ducked : State :=
  let p : Profile := { State.reset.bank.current.cabin with fade := 3, slope := 4, v0 := 60, smax := 32, privacy := 200 }
  let r := State.reset.rend
  { State.reset with
    port := { State.reset.port with op := .run }
    arb := { State.reset.arb with
      zones := State.reset.arb.zones.set .cabin ⟨[⟨.radio1, .entertainment, .ducked 40, 1, false, false⟩], 2, none, none, false⟩ }
    bank := { State.reset.bank with
      current := State.reset.bank.current.set .cabin p
      map := testMap
      curves := [List.replicate 64 (-120)] }
    rend := { r with
      volume := r.volume.set .cabin ⟨30, 0, 0⟩
      trims := r.trims.set .cabin ((r.trims.get .cabin).set .radio1 (-8))
      thermal := r.thermal.set 14 ⟨0, 2, 0⟩ }
    veh := { State.reset.veh with speed := 130 } }

/-- Section 2.4; on channel 0, of row F and with no reduction, the sum is 24 + 2 above it. -/
theorem test_target_of_2_4 :
    ducked.target .cabin .radio1 14 = some (-172) ∧ ducked.target .cabin .radio1 0 = some (-146) := by decide

/-- Section 2.6: the two multipliers. -/
theorem test_multiplier_of_2_6 : multiplier (some (-172)) = 7423 ∧ multiplier (some (-132)) = 23475 := by decide +kernel

/-- Section 2.6: ten frames to the target; the floor, and mute after it; the way back. -/
theorem test_ramp_of_2_6 :
    rampGain 4 (some (-172)) (some (-132)) = some (-168) ∧ rampGain 4 (some (-136)) (some (-132)) = some (-132) ∧
    rampGain 8 (some (-476)) none = some (-480) ∧ rampGain 8 (some (-480)) none = none ∧
    rampGain 8 none (some (-120)) = some (-472) := by decide

/-- Section 2.7: both sums stand at the cap of -100. -/
theorem test_cap_of_2_7 : resolveGain (-80) (some (-60)) = some (-80) ∧ resolveGain (-80) (some (-92)) = some (-92) ∧
    capGain (-100) (some (-80)) = some (-100) ∧ resolveGain (-100) (some (-92)) = some (-100) := by decide

/-- Section 2.10: the first four frames. -/
theorem test_limiter_of_2_10 :
    let e : ChannelEntry := ⟨.f, .l, 0, 512, 1024, 0⟩
    (Thermal.frame ⟨524000, 0, 0⟩ e 700) = ⟨524189, 0, 0⟩ ∧ (Thermal.frame ⟨524189, 0, 0⟩ e 700) = ⟨524378, 1, 0⟩ ∧
    (Thermal.frame ⟨524378, 1, 0⟩ e 700) = ⟨524566, 2, 0⟩ ∧ (Thermal.frame ⟨524566, 2, 0⟩ e 0) = ⟨524054, 2, 0⟩ := by decide

/-- R102's example, and the rounding of R106 on both grids. -/
theorem test_quality_and_grid :
    quality 45 20 10 = 45 ∧ quality 10 0 0 = 0 ∧ Band.round .fm 8757 = 8755 ∧ Band.round .fm 8758 = 8760 ∧
    Band.round .am 530 = 531 ∧ Band.round .am 1706 = 1710 := by decide

/-- R180: the muted MEDIA volume against the two thresholds. -/
theorem test_conditions_of_R180 :
    condHolds .lt (-32768) (-200) = true ∧ condHolds .ge (-32768) (-200) = false ∧ condHolds .lo (-32768) (-200) = true ∧
    condHolds .hs (-32768) (-200) = false ∧ condHolds .lt (-32768) 100 = true ∧ condHolds .ge (-32768) 100 = false ∧
    condHolds .lo (-32768) 100 = false ∧ condHolds .hs (-32768) 100 = true := by decide

/-- Section 11.6: the watch and the count, the mark and the fire after each record. -/
theorem test_watch_of_11_6 :
    let w : Watch := ⟨.speed, 100, .ge, 3, .edge, .take .cabin, 0, true, none, none⟩
    let after := fun (l : List Int) => l.foldl (fun (x : Watch × Bool) v => evalWatch v x.1) (w, false)
    let seen := fun (x : Watch × Bool) => (x.1.count, x.1.armed, x.2)
    seen (after [98]) = (0, true, false) ∧ seen (after [98, 101, 103]) = (2, true, false) ∧
    seen (after [98, 101, 103, 99]) = (0, true, false) ∧ seen (after [98, 101, 103, 99, 104, 105, 106]) = (0, false, true) ∧
    seen (after [98, 101, 103, 99, 104, 105, 106, 107]) = (0, false, false) ∧
    seen (after [98, 101, 103, 99, 104, 105, 106, 107, 95]) = (0, true, false) := by decide

/-- Section 9.9: 18 frames down, 36 frames up. -/
theorem test_suppression_of_9_9 :
    (moveSuppression (-36))^[17] 0 = -272 ∧ (moveSuppression (-36))^[18] 0 = -288 ∧
    (moveSuppression (-18))^[35] (-288) = -148 ∧ (moveSuppression (-18))^[36] (-288) = -144 := by decide +kernel

/-- The check value of the CRC of R183, 29B1 for the characters 1 to 9 (from outside the manual). -/
theorem test_crc : crc16 [0x31, 0x32, 0x33, 0x34, 0x35, 0x36, 0x37, 0x38, 0x39] = 0x29B1 := by decide +kernel

/-- Section 7.9: the code merges the record of slot 1 into that of slot 2. -/
theorem test_merge_of_7_9 :
    let e := fun f => (⟨f, 0, 65535⟩ : FreqEntry)
    let old : StationRec := ⟨0, .fm, none, none, [⟨9930, 47, 0⟩], false, none, .tuned, 0⟩
    let new : StationRec := ⟨24613, .fm, none, none, [e 9430, e 10120], false, some 2, .host, 9⟩
    let x : PathRec := { PathRec.reset .front with
      state := .locked, station := ⟨.fm, 9930⟩, q := 47, measured := true, decoded := { Decoded.absent with code := some 24613 } }
    let t : Table := { Table.reset with
      slots := [⟨none, 0⟩, ⟨some old, 0⟩, ⟨some new, 0⟩]
      presets := [none, none, some ⟨⟨.fm, 9430, 24613⟩, some 2⟩]
      assoc := ⟨⟨some 1, false⟩, ⟨none, false⟩⟩ }
    let u := t.count (t.codeArrives .p1 x true 24613)
    u.recAt 1 = none ∧ u.recAt 2 = some { new with freqs := [e 9430, e 10120, ⟨9930, 47, 0⟩], age := 0 } ∧
    u.assoc.p1.slot = some 2 ∧ u.slots.map StaSlot.revision = [0, 1, 1] ∧
    u.presets = [none, none, some ⟨⟨.fm, 9430, 24613⟩, some 2⟩] := by decide

/-! ## States that the witnesses share -/

/-- In RUN, everything else as a cold reset leaves it. -/
def run : State := { State.reset with port := { State.reset.port with op := .run } }

/-- In RUN and in override. -/
def overriding : State := { run with veh := { run.veh with override := true } }

/-- After an accepted SYS.RESET. -/
def leaving : State := { run with port := { run.port with resetPending := true } }

/-- In STARTUP with the five tables loaded. -/
def loaded : State :=
  { State.reset with
    bank := { State.reset.bank with mapLoaded := true, curvesLoaded := true, eqLoaded := true }
    arb := { State.reset.arb with policyLoaded := true }
    veh := { State.reset.veh with loaded := true } }

/-- `run` with the receiver in a state. -/
def receiving (rx : Rx) : State := { run with port := { run.port with rx := rx } }

/-- `run` with a path's record edited. -/
def onPath (p : Path) (f : PathRec → PathRec) (s : State) : State :=
  { s with tun := { s.tun with path := s.tun.path.set p (f (s.path p)) } }

/-- `run` with clip 1 edited. -/
def onClip (f : Clip → Clip) (s : State) : State :=
  { s with pool := s.pool.setClip 1 (f (s.pool.clip 1)) }

/-- `run` with a voice's record edited. -/
def onVoice (v : Voice) (f : VoiceRec → VoiceRec) (s : State) : State := s.setVoice v (f (s.voice v))

def someEntry : Entry := ⟨1, ⟨true, false, false, false⟩, 0, 0, 1, 0, 1, none⟩

theorem run_serves : Serves run := ⟨rfl, rfl⟩

theorem run_unlocked : Unlocked run := ⟨run_serves, rfl⟩

theorem overriding_serves : Serves overriding := ⟨rfl, rfl⟩

theorem empty_claims_ok (s : State) (h : s.arb.zones = PerZone.all ZoneState.empty) (z : Zone) : ClaimsOk (s.zone z) := by
  have e : s.zone z = ZoneState.empty := by unfold State.zone; rw [h]; cases z <;> rfl
  rw [e]
  exact ⟨List.Pairwise.nil, List.nodup_nil, by simp [ZoneState.empty], by simp [ZoneState.empty]⟩

/-- Three claims in order, one of them an ENTERTAINMENT claim. -/
theorem full_claims_ok :
    ClaimsOk ⟨[⟨.telem, .emergency, .audible, 3, false, false⟩, ⟨.call, .call, .held, 2, true, false⟩,
      ⟨.mediaA, .entertainment, .held, 1, false, false⟩], 4, none, none, false⟩ := by
  unfold ClaimsOk
  decide

/-! ## Witnesses: the queue, the replies and the gates -/

theorem witness_StepTakesTheFrontCommand : run.pending = [] ∧ { run with pending := [.warmReset] }.pending = .warmReset :: [] := by
  decide

/-- A held frame that spells TUNER.STATUS, without and with a reply that waits; and one without a layout, which spells no request or a free
one. -/
theorem witness_StepTakesTheFrontCommand_held :
    let s : List TxFrame → State := fun tx => { run with port := { run.port with held := some ⟨0x55, 1, []⟩, tx := tx } }
    (s []).pending = [] ∧ (s []).port.held = some ⟨0x55, 1, []⟩ ∧ (s []).port.tx.any TxFrame.isReply = false ∧
    HeldFrame.request ⟨0x55, 1, []⟩ = some (.tunerStatus 1) ∧
    (s [.reply ⟨0x55, 0, .pending⟩]).port.tx.any TxFrame.isReply = true ∧
    (HeldFrame.request ⟨0x12, 1, [0]⟩ = none ∨ ∃ c, HeldFrame.request ⟨0x12, 1, [0]⟩ = some c) :=
  ⟨rfl, rfl, rfl, by decide +kernel, rfl, by cases HeldFrame.request ⟨0x12, 1, [0]⟩ <;> simp⟩

/-- A held frame of the request's own code and sequence byte, and one of another sequence byte. -/
theorem witness_EveryRequestGetsOneReply_held :
    let s : Byte → State := fun q => { run with port := { run.port with held := some ⟨0xB2, q, [15]⟩ } }
    requestOf (.watchQuery 255 15) = some (0xB2, 255) ∧ (s 255).port.resetPending = false ∧
    (∀ f, (s 255).port.held = some f → f.code = 0xB2 ∧ f.seq = 255) ∧ (s 254).port.held = some ⟨0xB2, 254, [15]⟩ ∧
    (254 : Byte) ≠ 255 :=
  ⟨rfl, rfl, fun f h => by cases h; exact ⟨rfl, rfl⟩, rfl, by decide⟩

theorem witness_EveryRequestGetsOneReply :
    requestOf (.watchQuery 255 15) = some (0xB2, 255) ∧ run.port.resetPending = false ∧ run.port.rx = .hunt ∧
    (List.replicate 250 (0 : Byte)).length ≤ 250 ∧
    (receiving (.behind (frameBytes 0x00 7 (List.replicate 250 0)))).port.rx = .behind (frameBytes 0x00 7 (List.replicate 250 0)) :=
  ⟨rfl, rfl, rfl, by rw [List.length_replicate], rfl⟩

theorem witness_StartupRefusesOtherRequests :
    State.reset.port.op = .startup ∧ State.reset.port.resetPending = false ∧ formed (.sysReset 0) = true ∧
    requestOf (.sysReset 0) = some (0x03, 0) ∧ 0x03 ∉ startupCodes := by decide

theorem witness_StartupRefusesOtherRequests_override :
    Serves overriding ∧ overriding.veh.override = true ∧ requestOf (.callMode 7 0) = some (0x95, 7) ∧ 0x95 ∈ lockedCodes :=
  ⟨overriding_serves, by decide, by decide, by decide⟩

theorem witness_SysResetOrdersTheWarmReset_waits :
    leaving.port.resetPending = true ∧ requestOf (.sysIdentify 0) = some (0x00, 0) := by decide

theorem witness_StartupRefusesOtherRequests_events :
    State.reset.port.op = .startup ∧ requestOf (.stationAgeTick) = none ∧ Instr.stationAgeTick ≠ .coldReset ∧
    Instr.stationAgeTick ≠ .warmReset ∧ (∀ l, Instr.stationAgeTick ≠ .frameReceived l) ∧
    Instr.stationAgeTick ≠ .frameGapTimeout ∧ (∀ code q n, Instr.stationAgeTick ≠ .unknownRequest code q n) ∧
    Instr.stationAgeTick ≠ .noticeFrameSent ∧ Instr.stationAgeTick ≠ .replyFrameSent := by
  refine ⟨rfl, rfl, ?_, ?_, ?_, ?_, ?_, ?_, ?_⟩ <;> simp

/-! ## Witnesses: what every step keeps -/

theorem witness_PagesOnce : PagesOnce run.pool := by
  have e : run.pool.freePages ++ run.pool.clips.flatMap Clip.pages = List.range 1024 := by decide +kernel
  unfold PagesOnce
  rw [e]
  exact ⟨List.nodup_range, fun n => List.mem_range, by decide +kernel⟩

/-- Clip 1 is FILLING on two pages, its fill count 8 below their end, and the cursor is at the fill count. -/
def filling : State :=
  { run with pool := { run.pool with
      clips := run.pool.clips.set 0 ⟨.filling, some .control, some 48000, [5, 7], 2040, 0, false, .unused⟩
      freePages := [0, 1023]
      cursor := ⟨1, 2040, .write⟩ } }

/-- `filling` with every other page free. -/
def fillingWhole : State :=
  { filling with pool := { filling.pool with freePages := (List.range 1024).filter (fun n => n != 5 && n != 7) } }

/-- Two pages held by a clip, and the rest free. -/
theorem witness_PagesOnce_held : PagesOnce fillingWhole.pool := by
  have e : fillingWhole.pool.clips.flatMap Clip.pages = [5, 7] := by decide +kernel
  have f : fillingWhole.pool.freePages = (List.range 1024).filter (fun n => n != 5 && n != 7) := by decide +kernel
  unfold PagesOnce
  rw [e, f]
  refine ⟨?_, fun n => ?_, by decide +kernel⟩
  · simp [List.nodup_append, List.nodup_range.filter]
  · by_cases h : n = 5 <;> by_cases h' : n = 7 <;> simp [h, h']

theorem witness_StepsKeepClaimListsAndPages :
    (∀ z, ClaimsOk (run.zone z)) ∧ PagesOnce run.pool ∧ step run = .next run :=
  ⟨empty_claims_ok run rfl, witness_PagesOnce, rfl⟩

/-- The five tables' sizes and those of the pool and the station table, with both tables loaded. -/
theorem witness_StepsKeepClaimListsAndPages_sizes :
    let s : State := { run with bank := { run.bank with
      mapLoaded := true, map := testMap, curvesLoaded := true, curves := List.replicate 4 (List.replicate 64 (-120)) } }
    SizesOk s ∧ step s = .next s := ⟨by unfold SizesOk; decide, rfl⟩

theorem witness_StepsKeepTheSampleMemoryCanonical :
    Memory.wf run.pool.mem = true ∧ Memory.wf [(0, 1), (1048575, 0xFFFF)] = true ∧ step run = .next run := ⟨by decide, by decide, rfl⟩

theorem renderer_in_range : RendererInRange run.rend := by
  unfold RendererInRange
  refine ⟨fun z k => ?_, fun z src => ?_, by decide, by decide⟩
  · cases z <;> cases k <;> decide
  · cases z <;> cases src <;> decide

theorem settings_in_range : SettingsInRange run := by
  unfold SettingsInRange
  constructorm* _ ∧ _ <;> decide

theorem profiles_in_range (z : Zone) : ProfileInRange (run.bank.staged.get z) ∧ ProfileInRange (run.bank.current.get z) := by
  unfold ProfileInRange
  cases z <;> decide

/-- Every field of a profile at one end of its range. -/
theorem profile_at_the_ends :
    ProfileInRange ⟨3, 0, 3, 15, true, -15, 15, 15, 250, 48, 64, 250, -480, 480, .off⟩ := by
  unfold ProfileInRange
  decide

theorem witness_StepsKeepRegistersInRange :
    RendererInRange run.rend ∧ SettingsInRange run ∧
    (∀ z, ProfileInRange (run.bank.staged.get z) ∧ ProfileInRange (run.bank.current.get z)) ∧ step run = .next run :=
  ⟨renderer_in_range, settings_in_range, profiles_in_range, rfl⟩

theorem witness_StepsKeepTheRoute : RouteOk run ∧ step run = .next run := by
  refine ⟨?_, rfl⟩
  unfold RouteOk
  decide

/-! ## Witnesses: the control port -/

theorem witness_SysResetOrdersTheWarmReset :
    Unlocked run ∧ run.port.resetPending = false ∧ leaving.port.resetPending = true ∧
    leaving.port.tx.any TxFrame.isReply = false ∧
    ({ leaving with port := { leaving.port with tx := [.reply ⟨0x03, 0, .done .ok⟩] } } : State).port.tx.any TxFrame.isReply = true :=
  ⟨run_unlocked, rfl, rfl, rfl, rfl⟩

theorem witness_FramesAreHeldOrDropped :
    (List.replicate 250 (0 : Byte)).length ≤ 250 ∧ run.port.rx = .hunt ∧ run.port.held = none ∧ (0xC5 : Byte) ∉ [0x00, 0xFF] ∧
    250 < (251 : Byte).toNat ∧ [(0x41 : Byte)].length = (1 : Byte).toNat ∧ (1 : Byte).toNat ≤ 250 ∧
    (0xC5 : Byte) ∉ (1 : Byte) :: 0x12 :: 0 :: [0x41] ++ 0 :: 0 :: [7] ∧
    ((crc16 ((1 : Byte) :: 0x12 :: 0 :: [0x41])).extractLsb' 8 8 ≠ 0 ∨
      (crc16 ((1 : Byte) :: 0x12 :: 0 :: [0x41])).extractLsb' 0 8 ≠ 0) := by decide +kernel

/-- An unfinished frame of six bytes behind the marker, with and without a marker among them. -/
theorem witness_FramesAreHeldOrDropped_gap (b : Byte) :
    (receiving (.frame (0xC5 :: [4, 1, 2, 3, b, 9]))).port.rx = .frame (0xC5 :: [4, 1, 2, 3, b, 9]) ∧
    (∀ len rest, [4, 1, 2, 3, b, 9] = len :: rest → len.toNat ≤ 250 ∧ rest.length < len.toNat + 4) ∧
    (0xC5 : Byte) ∉ [(4 : Byte), 1, 2, 3, 8, 9] ∧ (0xC5 : Byte) ∈ [(4 : Byte), 1, 2, 3, 0xC5, 9] := by
  refine ⟨rfl, fun len rest h => ?_, by decide, by decide⟩
  cases h
  exact ⟨by decide, (by decide : 5 < 8)⟩

/-- A frame is held, and bytes have or have not come behind it. -/
theorem witness_FramesAreHeldOrDropped_behind :
    let held : Rx → State := fun rx => { run with port := { run.port with rx := rx, held := some ⟨0x00, 1, []⟩ } }
    (held .hunt).port.held = some ⟨0x00, 1, []⟩ ∧ (held .hunt).port.rx = .hunt ∧
    (held (.behind [0xC5])).port.rx = .behind (0xC5 :: []) := ⟨rfl, rfl, rfl⟩

theorem witness_UnknownAndLengthAreRefused :
    run.port.resetPending = false ∧ ¬ namesRequest 0xF0 ∧ ¬ namesRequest 0x06 ∧ ¬ namesRequest 0xC0 ∧ namesRequest 0xB2 ∧
    (0xB2 : Byte) ≠ 0x05 ∧ (Config.payloadLengthAllowed 0xB2 1 = false ∨ Config.payloadLengthAllowed 0xB2 1 = true) ∧ 7 ≠ 8 := by
  unfold namesRequest
  exact ⟨rfl, by decide, by decide, by decide, by decide, by decide, by cases Config.payloadLengthAllowed 0xB2 1 <;> simp, by decide⟩

/-- R190: bit j of byte k is flag 8k + j: flag 1 and flag 42. -/
theorem test_notice_ack_frame :
    HeldFrame.request ⟨0x05, 3, [2, 0, 0, 0, 0, 4, 0, 0]⟩ = some (.sysNoticeAck 3 (2 ||| (1 <<< 42))) ∧
    HeldFrame.request ⟨0x05, 3, [2]⟩ = some (.unknownRequest 0x05 3 1) ∧
    HeldFrame.request ⟨0x02, 3, []⟩ = some (.sysStart 3) ∧ HeldFrame.request ⟨0x02, 3, [0]⟩ = some (.unknownRequest 0x02 3 1) ∧
    HeldFrame.request ⟨0xF0, 3, []⟩ = some (.unknownRequest 0xF0 3 0) := by decide +kernel

/-- R190: the flag set of a SYS.NOTICE_MASK is the last 8 of its bytes; fewer make a wrong length. -/
theorem test_notice_mask_frame :
    maskOperands [9, 2, 0, 0, 0, 0, 4, 0, 0] = (Config.maskOperation [9], (2 ||| (1 <<< 42) : BitVec 64)) ∧
    HeldFrame.request ⟨0x04, 3, [2, 0, 0, 0, 0, 4, 0]⟩ = some (.unknownRequest 0x04 3 7) := by
  refine ⟨?_, by decide⟩
  simp only [maskOperands, List.length_cons, List.length_nil, List.take, List.drop, Prod.mk.injEq, true_and]
  decide

theorem witness_IdentifyAndTables :
    run.port.resetPending = false ∧ 4 ≤ 4 ∧ (List.replicate 24576 (0 : Byte)).length ≤ 24576 ∧
    24576 < (List.replicate 24577 (0 : Byte)).length ∧
    { run with port := { run.port with assembly := some (4, [0x07]) } }.port.assembly = some (4, [0x07]) ∧
    [(0x07 : Byte)] ++ [0xF6, 0x3F] = [0x07, 0xF6, 0x3F] ∧ (0x07 : Byte).toNat * 256 + (0xF6 : Byte).toNat ≤ 2038 ∧
    1 ≤ (0x3F : Byte).toNat ∧ (0x3F : Byte).toNat ≤ 63 ∧ 2038 < (0x07 : Byte).toNat * 256 + (0xF7 : Byte).toNat ∧
    [(0x07 : Byte)] ++ [0xF6] = [0x07, 0xF6] ∧ [(0x07 : Byte), 0xF6].length ≠ 3 :=
  ⟨rfl, Nat.le_refl 4, by rw [List.length_replicate], by rw [List.length_replicate]; omega, rfl, rfl, by decide, by decide,
    by decide, by decide, rfl, by decide⟩

/-- Three cabin curves and the call curve, each at an end of the range. -/
theorem witness_IdentifyAndTables_curves :
    let good : List (List Int) := List.replicate 3 (List.replicate 64 (-480)) ++ [List.replicate 64 0]
    let bad : Nat → Int → List (List Int) := fun i v => List.replicate 4 ((List.replicate 64 0).set i v)
    good.length = 4 ∧ (∀ c ∈ good, c.length = 64) ∧ (∀ c ∈ good, ∀ v ∈ c, -32768 ≤ v ∧ v ≤ 32767) ∧
    (∀ c ∈ good, ∀ i, i < 64 → -480 ≤ c.getD i 0 ∧ c.getD i 0 ≤ 0 ∧ (2 ≤ i → c.getD (i - 1) 0 ≤ c.getD i 0)) ∧
    (∃ c ∈ bad 1 (-481), c.getD 1 0 < -480) ∧ (∃ c ∈ bad 63 1, 0 < c.getD 63 0) ∧
    (∃ c ∈ bad 63 (-1), c.getD 63 0 < c.getD 62 0) := by decide +kernel

/-- A watch of a volume whose figure the curves of `witness_IdentifyAndTables_curves` change, and a watch of another quantity; CABIN's
voices and channels that a table in RUN reaches. -/
theorem witness_IdentifyAndTables_reach :
    let w : Quantity → Watch := fun y => ⟨y, -100, .lt, 1, .edge, .notify, 0, true, none, none⟩
    let s : State := { run with
      wat := { run.wat with slots := (run.wat.slots.set 15 (some (w (.volume .rearR .voice)))).set 0 (some (w .speed)) }
      rend := { run.rend with volume := run.rend.volume.set .rearR { run.rend.volume.rearR with voice := 5 } } }
    let v : State := { s with bank := { s.bank with curves := List.replicate 3 (List.replicate 64 (-480)) ++ [List.replicate 64 0] } }
    s.wat.slots[15]? = some (some (w (.volume .rearR .voice))) ∧ s.wat.slots[0]? = some (some (w .speed)) ∧
    s.volFigure .rearR .voice ≠ v.volFigure .rearR .voice ∧
    ((onVoice .ring (fun r => { r with state := .playing }) run).voice .ring).state = .playing ∧
    ((onVoice .ring (fun r => { r with state := .waitingZone }) run).voice .ring).state = .waitingZone ∧
    (run.voice .ring).state = .idle ∧ (run.bank.channels .rearR)[1]? = some 1 ∧ (run.bank.channels .cabin)[0]? = some 0 := by
  decide +kernel

/-- A map of 22 channels, its fields at the ends of their ranges, two of row H. -/
def mapRecords : List MapRecord :=
  (List.range 22).map (fun k => if k < 2 then ⟨k, 3, k, -96, 1, 256, 0⟩ else ⟨k, k % 3, 2, 24, 4096, 32768, 7⟩)

theorem witness_IdentifyAndTables_map :
    let fine : MapRecord → Bool := fun x => decide (x.row ≤ 3 ∧ x.side ≤ 2 ∧ -96 ≤ x.trim ∧ x.trim ≤ 24 ∧ 1 ≤ x.rated ∧
      x.rated ≤ 4096 ∧ 256 ≤ x.tau ∧ x.tau ≤ 32768 ∧ x.group ≤ 7)
    (∀ x ∈ mapRecords, x.fits) ∧ mapRecords.length = 22 ∧ (∀ k, k < 22 → ∃ x ∈ mapRecords, x.channel = k) ∧
    (mapRecords.filter (fun x => x.row == 3)).length = 2 ∧ mapRecords.all fine = true ∧
    mapRecords.tail.length ≠ 22 ∧ (mapRecords.tail.filter (fun x => x.row == 3)).length ≠ 2 ∧
    (∀ x ∈ (⟨22, 0, 0, 0, 1, 256, 0⟩ : MapRecord) :: mapRecords.tail, x.fits ∧ x.channel ≠ 0) ∧
    fine ⟨0, 4, 0, 0, 1, 256, 0⟩ = false ∧ fine ⟨0, 0, 3, 0, 1, 256, 0⟩ = false ∧ fine ⟨0, 0, 0, -97, 1, 256, 0⟩ = false ∧
    fine ⟨0, 0, 0, 25, 1, 256, 0⟩ = false ∧ fine ⟨0, 0, 0, 0, 0, 256, 0⟩ = false ∧ fine ⟨0, 0, 0, 0, 4097, 256, 0⟩ = false ∧
    fine ⟨0, 0, 0, 0, 1, 255, 0⟩ = false ∧ fine ⟨0, 0, 0, 0, 1, 32769, 0⟩ = false ∧ fine ⟨0, 0, 0, 0, 1, 256, 8⟩ = false := by
  unfold MapRecord.fits
  decide +kernel

/-- EQ groups at the corners of the stability triangle, and outside it. -/
theorem witness_IdentifyAndTables_eq :
    let c : Int → Int → Biquad := fun a1 a2 => ⟨2147483647, -2147483648, 0, a1, a2⟩
    let good : List GroupRecord := [⟨15, 8, List.replicate 8 (c 2147483646 1073741823)⟩, ⟨0, 0, []⟩]
    (∀ x ∈ good, x.fits) ∧ run.bank.eq.length = 16 ∧ (∀ p ∈ run.bank.eq, p.length = 9) ∧ (eqBytes good).length ≤ 24576 ∧
    (∀ x ∈ good, x.preset ≤ 15 ∧ x.group ≤ 8 ∧ x.sections.length ≤ 8 ∧
      ∀ y ∈ x.sections, |y.a2| < 2 ^ 30 ∧ |y.a1| < 2 ^ 30 + y.a2) ∧ (good.map (fun x => (x.preset, x.group))).Nodup ∧
    2 ^ 30 ≤ |(c 0 (-1073741824)).a2| ∧ 2 ^ 30 + (c 2147483647 1073741823).a2 ≤ |(c 2147483647 1073741823).a1| ∧
    (⟨16, 9, List.replicate 9 (c 0 0)⟩ : GroupRecord).fits := by
  unfold GroupRecord.fits
  decide +kernel

theorem witness_IdentifyAndTables_policy :
    let good : List PolicyRecord := [⟨3, 7, 1, 160⟩, ⟨0, 0, 2, 255⟩, ⟨3, 6, 0, 255⟩]
    (∀ x ∈ good, x.zone < 256 ∧ x.row < 256 ∧ x.effect < 256 ∧ x.depth < 256) ∧
    (∀ x ∈ good, x.zone ≤ 3 ∧ x.row ≤ 7 ∧ x.effect ≤ 2 ∧ (x.effect = 1 → x.depth ≤ 160) ∧ (x.row = 0 → x.effect = 2)) ∧
    (good.map (fun x => (x.zone, x.row))).Nodup ∧ Zone.rearR.num = 3 ∧ 4 < 5 ∧ (∀ l, run.port.assembly ≠ some (4, l)) ∧
    ¬ (([⟨3, 7, 2, 0⟩, ⟨3, 7, 0, 0⟩] : List PolicyRecord).map (fun x => (x.zone, x.row))).Nodup :=
  ⟨by decide, by decide, by decide, rfl, by decide, fun l h => by simp [run, State.reset, Port.reset] at h, by decide⟩

theorem witness_StartChecksTheTables :
    Serves run ∧ State.reset.port.op = .startup ∧ State.reset.port.resetPending = false ∧
    (State.reset.bank.mapLoaded && State.reset.bank.curvesLoaded && State.reset.bank.eqLoaded && State.reset.arb.policyLoaded &&
      State.reset.veh.loaded) = false ∧ loaded.port.op = .startup ∧ loaded.port.resetPending = false ∧
    (loaded.bank.mapLoaded && loaded.bank.curvesLoaded && loaded.bank.eqLoaded && loaded.arb.policyLoaded &&
      loaded.veh.loaded) = true ∧ loaded.tun.path.p1.state = .idle :=
  ⟨run_serves, by decide⟩

theorem witness_NoticeMaskAndAcknowledgement :
    Serves run ∧ (0x7FFFFFFFFFF : BitVec 64) &&& ~~~ (0x7FFFFFFFFFF : BitVec 64) = 0 ∧
    (0x80000000000 : BitVec 64) &&& ~~~ (0x7FFFFFFFFFF : BitVec 64) ≠ 0 := ⟨run_serves, by decide⟩

/-- R185: the flag 15 visible in a NOTICE that waits behind a reply, at the last notice count, and then none that waits. -/
theorem witness_NoticeMaskAndAcknowledgement_waiting :
    let s : State := { run with port := { run.port with
      flags := 0x8002, mask := 0x8000, noticeCount := 255, tx := [.reply ⟨0, 0, .pending⟩, .notice 255 0x8000] } }
    let e : State := { s with port := { s.port with tx := [] }, voc := { s.voc with control := [⟨2, some .ring, .played⟩] } }
    Serves s ∧ Serves e ∧ s.port.tx = .reply ⟨0, 0, .pending⟩ :: [.notice 255 0x8000] ∧ e.port.tx = [] ∧
    s.port.flags.getLsbD 15 = true ∧ s.port.flags.getLsbD 16 = false ∧ s.port.mask.getLsbD 16 = false ∧
    (run.port.flags.getLsbD 15 = false ∧ s.port.mask.getLsbD 15 = true ∧ ∀ f ∈ run.port.tx, f.isReply = true) ∧
    (∃ t, exec (.sysNoticeAck 7 0x8000) s = .next t ∧ t.port.noticeCount = 255 ∧
      t.port.tx = [.notice 255 0, .reply ⟨0x05, 7, .done (.setFlags 2)⟩]) ∧
    (∃ t, exec (.sysNoticeMask 7 (some .clear) 0x8000) s = .next t ∧
      t.port.tx = [.notice 255 0, .reply ⟨0x04, 7, .done (.notices 0 0x8002)⟩]) ∧
    ∃ t, exec (.sysNoticeMask 7 (some .set) 2) e = .next t ∧ t.port.noticeCount = 0 ∧
      t.port.tx = [.notice 0 0x8002, .reply ⟨0x04, 7, .done (.notices 0x8002 0x8002)⟩] :=
  ⟨⟨rfl, rfl⟩, ⟨rfl, rfl⟩, rfl, rfl, by decide, by decide, by decide, by decide, ⟨_, rfl, by decide, by decide⟩, ⟨_, rfl, by decide⟩,
    ⟨_, rfl, by decide, by decide⟩⟩

theorem witness_WaitingFramesLeave :
    { run with port := { run.port with tx := [.notice 1 3, .reply ⟨0, 0, .pending⟩] } }.port.tx =
      .notice 1 3 :: [.reply ⟨0, 0, .pending⟩] ∧ [TxFrame.reply ⟨0, 0, .pending⟩].all TxFrame.isReply = true ∧
    { run with port := { run.port with tx := [.reply ⟨0, 0, .pending⟩, .notice 1 3] } }.port.tx =
      .reply ⟨0, 0, .pending⟩ :: [.notice 1 3] ∧ [TxFrame.notice 1 3].any TxFrame.isReply = false := by decide

/-! ## Witnesses: zones, renderer, profiles -/

theorem witness_ZoneSelectSetsTheEntertainment :
    Unlocked run ∧ (∀ y, ClaimsOk (run.zone y)) ∧ zoneOf 3 = some .rearR ∧ Zone.rearR ≠ .driver ∧ run.tun.check = none ∧
    zoneOf 1 = some .driver ∧ 3 < 4 ∧ (2 < 3 ∧ 3 ≠ 255) := by
  refine ⟨run_unlocked, empty_claims_ok run rfl, ?_⟩
  decide

theorem witness_ZonePolicyReplacesOneRow :
    Serves run ∧ zoneOf 0 = some .cabin ∧ 7 ≤ 7 ∧ (0 = 0 → EffectName.mix = .mix) ∧
    (run.arb.policy.get .cabin).get 0 = some .mix ∧ (run.arb.policy.get .cabin).get 7 ≠ some (.duck 160) ∧ 7 < 8 :=
  ⟨run_serves, by decide⟩

theorem witness_VolumeAndTrimEdits :
    Unlocked run ∧ zoneOf 0 = some .cabin ∧ kindOf 2 = some .call ∧ Serves run ∧ sourceOf 11 = some .telem ∧ 3 < 4 ∧ 2 < 3 ∧
    11 < 12 := ⟨run_unlocked, by decide, by decide, run_serves, by decide⟩

/-- `run` with the yield timer of CABIN at 0 above a waiting claim. -/
def yielded : State :=
  run.setZone .cabin ⟨[⟨.voicePrompt, .prompt, .waiting, 1, false, false⟩], 2, some 0, none, false⟩

theorem witness_YieldTimerExpires :
    yielded.port.op = .run ∧ (yielded.zone .cabin).yieldTimer = some 0 ∧ (run.zone .cabin).yieldTimer ≠ some 0 := by decide

/-- An expiry that leaves the entertainment HELD under TELEM, and one that lets it sound again. -/
theorem witness_YieldTimerExpires_reports :
    let s : List Claim → Bool → State := fun l held => run.setZone .cabin ⟨l, 3, some 0, none, held⟩
    let ent : Claim := ⟨.mediaA, .entertainment, .waiting, 1, false, false⟩
    (∃ t, exec (.yieldExpiry .cabin) (s [⟨.telem, .emergency, .waiting, 2, false, false⟩, ent] false) = .next t ∧
      (t.zone .cabin).entHeld = true) ∧
    ∃ t, exec (.yieldExpiry .cabin) (s [ent] true) = .next t ∧ (t.zone .cabin).entHeld = false ∧
      (t.entState .cabin).isSome = true := ⟨⟨_, rfl, by decide⟩, ⟨_, rfl, by decide, by decide⟩⟩

/-- Voices in PLAYING and WAITING_ZONE at an expiry: PROMPT's claim sounds, and CHIME has none. -/
theorem witness_YieldTimerExpires_voices :
    let s := onVoice .prompt (fun r => { r with state := .waitingZone }) (onVoice .chime (fun r => { r with state := .playing }) yielded)
    ∃ t, exec (.yieldExpiry .cabin) s = .next t ∧ (t.voice .prompt).state = .playing ∧ (t.voice .chime).state = .waitingZone :=
  ⟨_, rfl, by decide⟩

/-- R11 to R13: a PROMPT is filed above an AUDIBLE RADIO_1 with Y = 50: RADIO_1 is DUCKED 40 with the mark and the rate
ceil((-172 + 480)/50) = 7, and the PROMPT waits. -/
theorem test_yield_begins :
    let r := run.rend.mapMix .cabin .radio1 (fun m => { m with applied := some (-172) })
    let s : State := { run.setZone .cabin ⟨[⟨.radio1, .entertainment, .audible, 1, false, false⟩], 2, none, none, false⟩ with
      rend := r
      bank := { run.bank with current := run.bank.current.set .cabin { run.bank.current.cabin with yieldTime := 50 } } }
    let t := s.file .cabin .voicePrompt false
    t.zone .cabin = ⟨[⟨.voicePrompt, .prompt, .waiting, 2, false, false⟩, ⟨.radio1, .entertainment, .ducked 40, 1, false, true⟩], 3,
      some 50, some .voicePrompt, false⟩ ∧
    ((t.rend.mix.get .cabin).get .radio1)[21]?.bind MixPoint.yieldRate = some 7 := by decide +kernel

theorem witness_EvaluationTreatsEachClaim :
    ClaimsOk (yielded.zone .cabin) ∧ (yielded.claim .cabin .voicePrompt).isSome = true ∧ run.claim .cabin .call = none ∧
    classOf .call ≠ .entertainment ∧ run.entClaim .cabin = none ∧
    ((run.rend.mix.get .cabin).get .mediaB)[21]? = some MixPoint.mute := by
  unfold ClaimsOk
  decide

/-- A RADIO_1 claim of CABIN on a channel of the map; a headphone channel needs none. -/
theorem witness_TargetsSumTheNineTerms :
    (ducked.bank.map[14]? = some ⟨.r, .l, -6, 4096, 1024, 0⟩ ∧ ducked.rend.thermal[14]? = some ⟨0, 2, 0⟩) ∧ Zone.rearL.rear = true ∧
    ducked.claim .cabin .radio1 = some ⟨.radio1, .entertainment, .ducked 40, 1, false, false⟩ ∧
    ducked.rend.hush.get .radio1 = false ∧ ducked.rend.hush.get .radio2 = false ∧ ducked.claim .cabin .radio2 = none := by decide

theorem witness_ZonesMixIntoTheChannels :
    run.port.op = .run ∧ (run.path .p1).state ≠ .locked ∧ (run.voice .prompt).state = .idle ∧ (run.voice .prompt).fade = none ∧
    (onPath .p1 (fun x => { x with state := .locked }) run |>.path .p1).state = .locked ∧ (run.path .p2).role ≠ .partner ∧
    (run.path .p1).station.band = .fm ∧ quietFrame.mono.p1 = false ∧
    (onPath .p2 (fun x => { x with state := .locked, station := ⟨.am, 522⟩ }) run |>.path .p2).station.band = .am ∧
    (run.bank.channels .cabin)[21]? = some 21 ∧ (run.bank.channels .rearR)[1]? = some 1 := by decide

theorem witness_RenderFrameSaturates : run.port.op = .run := rfl

/-- `run` with the map of the worked cases and one mix point of CABIN. -/
def mixed : State :=
  { run with
    bank := { run.bank with map := testMap }
    rend := run.rend.mapMix .cabin .mediaA id }

theorem witness_RampsReachTheirTargets :
    1 ≤ 64 ∧ 529 ≤ 529 ∧ (∀ x, some (-480) = some x → -480 ≤ x ∧ x ≤ (48 : Int)) ∧
    (∀ x, some 48 = some x → -480 ≤ x ∧ x ≤ (48 : Int)) ∧ Zone.cabin.rear = false ∧
    (mixed.bank.channels .cabin)[21]? = some 21 ∧ ((mixed.rend.mix.get .cabin).get .mediaA)[21]? = some MixPoint.mute ∧
    MixPoint.mute.jump = false ∧ mixed.rend.hush.get .mediaA = false ∧
    (∀ c, mixed.claim .cabin .mediaA = some c → c.yielding = false) := by
  refine ⟨by decide, by decide, by simp, by simp, by decide, by decide, by decide, by decide, by decide, fun c h => ?_⟩
  have e : mixed.claim .cabin .mediaA = none := by decide
  rw [e] at h
  cases h

/-- `mixed` with a mix point of MEDIA_A edited, and the claim and the hush that its rate asks for. -/
def mixedAs (z : Zone) (m : MixPoint) (hushed yielding : Bool) : State :=
  let s := mixed.setZone z ⟨[⟨.mediaA, .entertainment, .held, 1, false, yielding⟩], 2, none, some .mediaA, false⟩
  { s with rend := { s.rend.mapMix z .mediaA (fun _ => m) with hush := s.rend.hush.set .mediaA hushed } }

/-- R13, R16: with Y = 0, MEDIA_A is ordered to jump to mute under TELEM and sounds again before a frame is made: it ramps in from
mute. -/
theorem test_a_jump_not_made_starts_from_mute :
    let s := run.setZone .cabin ⟨[⟨.mediaA, .entertainment, .audible, 1, false, false⟩], 2, none, some .mediaA, false⟩
    let s := { s with rend := s.rend.mapMix .cabin .mediaA (fun m => { m with applied := some (-80) }) }
    let t := s.file .cabin .telem false
    let u := t.withdraw .cabin .telem
    ((t.rend.mix.get .cabin).get .mediaA)[21]?.map MixPoint.jump = some true ∧
    ((u.rend.mix.get .cabin).get .mediaA)[21]?.map (fun m => (m.jump, m.restart, m.applied)) = some (false, true, some (-80)) := by
  decide +kernel

/-- A point of REAR_R that starts again, one with a jump ordered, a hushed one and a yielding one; a fall that is due. -/
theorem witness_RampsReachTheirTargets_rates :
    let point := fun (s : State) (z : Zone) (i : Nat) => (s.bank.channels z)[i]?.bind (fun k => ((s.rend.mix.get z).get .mediaA)[i]?.map (k, ·))
    point (mixedAs .rearR ⟨some (-120), some (-40), none, none, false, true⟩ false false) .rearR 1 =
      some (1, ⟨some (-120), some (-40), none, none, false, true⟩) ∧
    point (mixedAs .cabin ⟨none, some 48, none, none, true, false⟩ false false) .cabin 21 =
      some (21, ⟨none, some 48, none, none, true, false⟩) ∧
    (mixedAs .cabin ⟨none, some 0, none, some 80, false, false⟩ true false).rend.hush.get .mediaA = true ∧
    ((mixedAs .cabin ⟨none, some 0, some 12, none, false, false⟩ false true).claim .cabin .mediaA).map Claim.yielding = some true ∧
    (∀ x, mixed.rend.thermal[21]? = some x → x.cool < 16) ∧ Zone.rearR.rear = true := by
  refine ⟨by decide, by decide, by decide, by decide, fun x h => ?_, rfl⟩
  have e : mixed.rend.thermal[21]? = some ⟨0, 0, 0⟩ := by decide
  rw [e] at h
  cases h
  decide

theorem witness_CoolCountLowersTheReduction :
    run.port.op = .run ∧ { run with rend := { run.rend with thermal := [⟨9, 96, 16⟩] } }.rend.thermal[0]? = some ⟨9, 96, 16⟩ ∧
    16 ≤ 16 ∧ (∀ x, run.rend.thermal[22]? = some x → x.cool < 16) := by
  refine ⟨rfl, rfl, Nat.le_refl 16, fun x h => ?_⟩
  have e : run.rend.thermal[22]? = none := by decide
  rw [e] at h
  cases h

/-- Every channel cool, a map loaded, and a watch of MAX_THERMAL_L. -/
theorem witness_CoolCountLowersTheReduction_rises :
    let w : Watch := ⟨.maxThermalL, 1, .ge, 1, .edge, .notify, 0, true, none, none⟩
    let s : State := { run with
      bank := { run.bank with map := testMap }
      wat := { run.wat with slots := run.wat.slots.set 15 (some w) } }
    s.port.op = .run ∧ s.rend.thermal.length = 22 ∧ s.bank.map.length = 22 ∧ (∀ x ∈ s.rend.thermal, x.cool < 16) ∧
    s.rend.thermal[21]? = some ⟨0, 0, 0⟩ ∧ s.bank.map[21]? = some ⟨.f, .l, -6, 4096, 1024, 0⟩ ∧ s.wat.slots[15]? = some (some w) := by
  decide

theorem witness_ProfileStageWritesTheNamedFields :
    Serves run ∧ zoneOf 0 = some .cabin ∧
    ([(.trafficMode, 2), (.loudness, 1), (.cap, 1)] : List (ProfileField × Int)) ≠ [] ∧
    (([(.trafficMode, 2), (.loudness, 1), (.cap, 1)] : List (ProfileField × Int)).map Prod.fst).Nodup ∧
    (∀ v, ((.loudness, v) : ProfileField × Int) ∈ [(.trafficMode, 2), (.loudness, 1), (.cap, 1)] → v = 0 ∨ v = 1) ∧
    (∀ v, ((.trafficMode, v) : ProfileField × Int) ∈ [(.trafficMode, 2), (.loudness, 1), (.cap, 1)] → 0 ≤ v ∧ v ≤ 2) ∧
    ¬ (([(some .cap, 0), (some .cap, 0)] : List (Option ProfileField × Int)).map Prod.fst).Nodup := by
  refine ⟨run_serves, by decide, by decide, by decide, ?_, ?_, by decide⟩
  · intro v h
    have e : v = 1 := by simpa using h
    exact .inr e
  · intro v h
    have e : v = 2 := by simpa using h
    omega

theorem witness_TakesCopyStagedIntoCurrent :
    Serves run ∧ zoneOf 3 = some .rearR ∧ (run.bank.take.get .rearR) ≠ .holding ∧
    { run with bank := { run.bank with take := run.bank.take.set .rearR .holding } }.bank.take.get .rearR = .holding ∧ 3 < 4 :=
  ⟨run_serves, by decide⟩

theorem witness_TakesCopyStagedIntoCurrent_discard :
    Serves overriding ∧ zoneOf 3 = some .rearR ∧ 3 < 4 ∧ State.reset.port.op = .startup ∧ State.reset.port.resetPending = false :=
  ⟨overriding_serves, by decide⟩

/-! ## Witnesses: the clip pool -/

/-- No clip is FREE. -/
def noClip : State := { run with pool := { run.pool with clips := List.replicate 63 { Clip.empty with state := .ready } } }

/-- The control slot waits and the vehicle slot is granted. -/
def slotted : State :=
  { run with pool := { run.pool with controlSlot := .waiting 256 48000 true, vehicleSlot := .granted 63 } }

theorem witness_AllocationGrantsWaitsOrRefuses :
    Serves run ∧ 1 ≤ 256 ∧ 256 ≤ 256 ∧ (16000 = 48000 ∨ 16000 = 24000 ∨ 16000 = 16000) ∧ noClip.pool.lowestFree = none ∧
    Serves noClip ∧ run.pool.lowestFree = some 1 ∧ 256 ≤ run.pool.freePages.length ∧ run.pool.otherHeld + 256 ≤ 928 ∧
    { run with pool := { run.pool with freePages := [] } }.pool.freePages.length < 1 ∧ run.pool.slot .control = .empty ∧
    slotted.pool.slot .control ≠ .empty ∧ 256 < 257 ∧ (47999 ≠ 48000 ∧ 47999 ≠ 24000 ∧ 47999 ≠ 16000) := by
  refine ⟨run_serves, by decide, by decide, by decide, by decide +kernel, ⟨rfl, rfl⟩, by decide +kernel, by decide +kernel,
    by decide +kernel, by decide, by decide, by decide, by decide, by decide⟩

theorem witness_PendingAndCancelFollowTheSlots :
    Serves slotted ∧ slotted.pool.vehicleSlot = .granted 63 ∧ (∀ n, slotted.pool.controlSlot ≠ .granted n) ∧
    slotted.pool.slot .control = .waiting 256 48000 true ∧ slotted.pool.slot .vehicle = .granted 63 ∧
    run.pool.slot .vehicle = .empty ∧ State.reset.port.op = .startup ∧ State.reset.port.resetPending = false := by
  refine ⟨⟨rfl, rfl⟩, rfl, fun n => ?_, rfl, rfl, rfl, rfl, rfl⟩
  simp [slotted]

/-- Clip 1 is READY and the cursor is three samples from its end. -/
def readyClip : State :=
  { run with pool := { run.pool with
      clips := run.pool.clips.set 0 ⟨.ready, some .control, some 48000, [5, 7], 2048, 2048, false, .unused⟩
      freePages := [0, 1023]
      cursor := ⟨1, 2045, .read⟩ } }

theorem witness_WriteStoresAtTheCursor_seek :
    Serves filling ∧ 1 ≤ 1 ∧ 63 ≤ 63 ∧ ((filling.pool.clip 1).state = .filling ∧ 2040 ≤ (filling.pool.clip 1).fill) ∧
    (filling.pool.clip 1).fill < 2041 ∧ ((readyClip.pool.clip 1).state = .ready ∧ 2048 ≤ (readyClip.pool.clip 1).sealedLen) ∧
    (readyClip.pool.clip 1).sealedLen < 2049 ∧ (run.pool.clip 63).state = .free ∧ 63 < 64 :=
  ⟨⟨rfl, rfl⟩, by decide⟩

theorem witness_WriteStoresAtTheCursor :
    let s := fillingWhole
    Serves s ∧ Memory.wf s.pool.mem = true ∧ PagesOnce s.pool ∧ s.pool.clips.length = 63 ∧ s.pool.cursor.clip ≠ 0 ∧
    s.pool.cursor.dir = .write ∧ (s.pool.clip s.pool.cursor.clip).state = .filling ∧ run.pool.cursor.clip = 0 :=
  ⟨⟨rfl, rfl⟩, by decide, witness_PagesOnce_held, by decide, by decide, by decide, by decide, by decide⟩

/-- PROMPT stands on clip 1 of `filling`, waits for its fill, plays beyond sample 100, or does so held in WAITING_ZONE. -/
def sealable (st : VoiceState) : State :=
  onClip (fun c => { c with use := .playing .prompt })
    (onVoice .prompt (fun r => { r with
      queue := [{ someEntry with threshold := 2041 }], state := st, position := 101, first := true, passes := 2 }) filling)

theorem witness_WriteStoresAtTheCursor_leaves :
    let s := sealable .waitingFill
    (s.pool.clip 1).use = .playing .prompt ∧ (s.voice .prompt).state = .waitingFill ∧ (s.pool.clip 1).fill < 2040 + 1 ∧
    (s.voice .prompt).queue = { someEntry with threshold := 2041 } :: [] ∧ 2041 ≠ 0 ∧ 2041 ≤ 2040 + 1 := by decide +kernel

theorem witness_ReadReturnsSamplesAtTheCursor :
    Serves readyClip ∧ 1 ≤ 120 ∧ 120 ≤ 120 ∧ readyClip.pool.cursor.clip ≠ 0 ∧ readyClip.pool.cursor.dir = .read ∧
    (readyClip.pool.clip readyClip.pool.cursor.clip).state = .ready ∧ 120 < 121 ∧ Serves filling ∧
    filling.pool.cursor.dir = .write :=
  ⟨⟨rfl, rfl⟩, by decide, by decide, by decide, by decide, by decide, by decide, ⟨rfl, rfl⟩, by decide⟩

/-- `filling` with a vehicle request waiting for what clip 1 and the free pages make together. -/
def queuedRequest : State := { filling with pool := { filling.pool with vehicleSlot := .waiting 4 48000 false } }

theorem witness_SealAndRelease :
    Serves filling ∧ filling.pool.clips.length = 63 ∧ (filling.pool.clip 1).state = .filling ∧ 1 ≤ 1 ∧
    2040 ≤ (filling.pool.clip 1).fill ∧ (filling.pool.clip 1).fill < 2041 ∧ (readyClip.pool.clip 1).state ≠ .filling ∧
    (filling.pool.clip 1).state ≠ .free ∧ (filling.pool.clip 1).state ≠ .capturing ∧ (filling.pool.clip 1).use = .unused ∧
    (∀ a b c, filling.pool.vehicleSlot ≠ .waiting a b c) ∧ (∀ a b c, filling.pool.controlSlot ≠ .waiting a b c) ∧
    queuedRequest.pool.vehicleSlot = .waiting 4 48000 false ∧
    4 ≤ queuedRequest.pool.freePages.length + (queuedRequest.pool.clip 1).pages.length ∧ (run.pool.clip 63).state = .free ∧
    (onClip (fun c => { c with use := .queued .ring }) filling |>.pool.clip 1).use ≠ .unused := by
  refine ⟨⟨rfl, rfl⟩, by decide, by decide, by decide, by decide, by decide, by decide, by decide, by decide, by decide, ?_, ?_,
    by decide, by decide, by decide, by decide⟩ <;> intro a b c <;> simp [filling, run, State.reset, Pool.reset]

/-- `filling` with the control slot waiting for what the release makes, up to the last page of the other owners' 928. -/
theorem witness_SealAndRelease_control :
    let s : State := { filling with pool := { filling.pool with controlSlot := .waiting 4 48000 true } }
    let full : State := { s with pool := { s.pool with
      clips := s.pool.clips.set 62 ⟨.ready, some .control, some 48000, List.range' 100 924, 0, 0, false, .unused⟩ } }
    s.pool.controlSlot = .waiting 4 48000 true ∧ (∀ a b c, s.pool.vehicleSlot ≠ .waiting a b c) ∧
    4 ≤ s.pool.freePages.length + (s.pool.clip 1).pages.length ∧ (s.pool.clip 1).owner = some .control ∧
    pagesHeldBy .control full.pool.clips + pagesHeldBy .capture full.pool.clips - 2 + 4 ≤ 928 := by
  refine ⟨rfl, fun a b c => ?_, by decide, by decide, by decide +kernel⟩
  simp [filling, run, State.reset, Pool.reset]

/-- A seal of `sealable` at sample 100, which returns a page: a voice in WAITING_FILL, one beyond the new length in PLAYING and in
WAITING_ZONE, with and without another pass, and waiting requests that then fit. -/
theorem witness_SealAndRelease_seal :
    let s := sealable .waitingZone
    let waits : State := { s with pool := { s.pool with vehicleSlot := .waiting 3 48000 false, controlSlot := .waiting 4 16000 true } }
    ((sealable .waitingFill).voice .prompt).state = .waitingFill ∧ ((sealable .playing).voice .prompt).state = .playing ∧
    (s.pool.clip 1).use = .playing .prompt ∧ (s.voice .prompt).state = .waitingZone ∧ (s.voice .prompt).first = true ∧
    100 < (s.voice .prompt).position ∧ (s.voice .prompt).queue = { someEntry with threshold := 2041 } :: [] ∧
    1 < (s.voice .prompt).passes ∧ (s.pool.clip 1).pages.length - (100 + 1023) / 1024 = 1 ∧
    s.pool.lowestFree = some 2 ∧ waits.pool.vehicleSlot = .waiting 3 48000 false ∧ 3 ≤ s.pool.freePages.length + 1 ∧
    waits.pool.controlSlot = .waiting 4 16000 true ∧ s.pool.freePages.length + 1 < 4 := by decide +kernel

/-! ## Witnesses: voices and announcements -/

/-- `readyClip` without an entry on any voice: clip 1 is READY and unused. -/
def chimeable : State := onClip (fun c => { c with owner := some .vehicle }) readyClip

/-- PROMPT is PLAYING its one entry. -/
def prompting : State := onVoice .prompt (fun r => { r with queue := [someEntry], state := .playing }) run

theorem witness_EnqueuePlacesAnEntry :
    Unlocked readyClip ∧ voiceOf 3 = some .ring ∧ Voice.ring ≠ .chime ∧
    readyClip.placeRefusal .ring ⟨1, 15, 16, 5000, 1, 1, 60⟩ = none ∧ (readyClip.voice .ring).state = .idle ∧
    (prompting.voice .prompt).state ≠ .idle ∧ readyClip.placeRefusal .ring ⟨1, 16, 0, 0, 0, 0, 0⟩ = some .range ∧ 3 < 4 :=
  ⟨⟨⟨rfl, rfl⟩, rfl⟩, by decide⟩

/-- PROMPT as `prompting` leaves it, and the control queue full of completions. -/
def noRoom : State := { prompting with voc := { prompting.voc with control := List.replicate 16 ⟨2, some .ring, .played⟩ } }

theorem witness_CompletionsFlushAndSkip :
    Serves run ∧ run.voc.controlWaiters = [] ∧ Unlocked prompting ∧ voiceOf 1 = some .prompt ∧ Voice.prompt ≠ .chime ∧
    prompting.flushOwes .prompt ≤ prompting.room true ∧ (prompting.voice .prompt).queue = someEntry :: [] ∧
    (prompting.voice .prompt).state ≠ .idle ∧ (prompting.voice .prompt).state ≠ .retiring ∧
    noRoom.room true < noRoom.flushOwes .prompt ∧ 3 < 4 ∧
    (onVoice .prompt (fun r => { r with state := .retiring }) prompting |>.voice .prompt).state = .retiring ∧
    (run.voice .prompt).state = .idle ∧ (run.voice .prompt).queue = [] :=
  ⟨run_serves, rfl, ⟨⟨rfl, rfl⟩, rfl⟩, by decide +kernel⟩

/-- R96: PROMPT stalls with an entry that was UNDERRUN, and holds two that have no outcome, of a clip with auto-release and of one without:
clips 1 to 3, of one page each, no request waiting. -/
theorem witness_CompletionsFlushAndSkip_entries :
    let clip : Nat → Bool → Clip := fun page auto => ⟨.ready, some .control, some 48000, [page], 9, 9, auto, .queued .prompt⟩
    let s : State := onVoice .prompt (fun r => { r with state := .retiring, queue :=
        [{ someEntry with outcome := some .underrun }, { someEntry with clip := 2 }, { someEntry with clip := 3 }] })
      { run with pool := { run.pool with clips := [clip 7 true, clip 8 true, clip 9 false] ++ List.replicate 60 Clip.empty, freePages := [5] } }
    Unlocked s ∧ s.flushOwes .prompt ≤ s.room true ∧ ((s.voice .prompt).queue.map Entry.clip).Nodup ∧
    (∀ e ∈ (s.voice .prompt).queue, (s.pool.clip e.clip).state ≠ .free) ∧ s.pool.vehicleSlot = .empty ∧ s.pool.controlSlot = .empty ∧
    ∃ t, exec (.voiceFlush 1 1) s = .next t ∧ t.voc.control = [⟨1, some .prompt, .underrun⟩, ⟨3, some .prompt, .flushed⟩] ∧
      t.pool.clip 2 = Clip.empty ∧ t.pool.freePages = [5, 8] := by
  refine ⟨⟨⟨rfl, rfl⟩, rfl⟩, by decide, by decide, by decide, rfl, rfl, _, rfl, by decide, by decide, by decide⟩

/-- A maximum-wait timer at 0, a gap timer at 0, a flushed voice at the end of its fade, and a retiring one. -/
def waited : State :=
  onVoice .prompt (fun r => { r with queue := [someEntry], state := .waitingFill, maxWait := some 0 })
    (onVoice .traffic (fun r => { r with queue := [someEntry], state := .gap, gap := some 0 })
      (onVoice .ring (fun r => { r with state := .retiring, flushing := true, fade := some 0 })
        (onVoice .chime (fun r => { r with
          queue := [{ someEntry with outcome := some .flushed }], state := .retiring, fade := some 0 }) run)))

theorem witness_VoiceTimersExpire :
    waited.port.op = .run ∧ (waited.voice .prompt).maxWait = some 0 ∧ (waited.voice .prompt).queue = someEntry :: [] ∧
    (waited.voice .prompt).state = .waitingFill ∧ waited.waiters true = [] ∧ 0 < waited.queueRoom true ∧ noRoom.queueRoom true = 0 ∧
    (waited.voice .traffic).state = .gap ∧ (waited.voice .traffic).gap = some 0 ∧ (run.voice .traffic).gap ≠ some 0 ∧
    (waited.voice .ring).fade = some 0 ∧ (waited.voice .ring).state = .retiring ∧ (waited.voice .ring).flushing = true ∧
    (waited.voice .ring).queue = [] ∧ (waited.voice .chime).fade = some 0 ∧ (waited.voice .chime).flushing = false ∧
    (waited.voice .chime).queue = { someEntry with outcome := some .flushed } :: [] ∧ CompStatus.flushed ≠ .played ∧
    (run.voice .chime).maxWait ≠ some 0 ∧
    waited.waiters false = [] ∧ 0 < waited.queueRoom false ∧ (run.voice .ring).fade ≠ some 0 ∧
    (onVoice .ring (fun r => { r with state := .playing, fade := some 0 }) run |>.voice .ring).state ≠ .retiring := by
  decide +kernel

/-- The end of a fade: an entry PLAYED, of a clip with and without auto-release, and one placed behind a flushed one. -/
theorem witness_VoiceTimersExpire_played :
    let s : Bool → Bool → State := fun auto flushing => onClip (fun c => { c with auto := auto })
      (onVoice .prompt (fun r => { r with
        queue := [{ someEntry with outcome := if flushing then none else some .played }], state := .retiring, fade := some 0,
        flushing := flushing }) readyClip)
    ((s true false).voice .prompt).queue = { someEntry with outcome := some .played } :: [] ∧
    ((s true false).pool.clip someEntry.clip).auto = true ∧ ((s false false).pool.clip someEntry.clip).auto = false ∧
    (s true false).pool.clips.length = 63 ∧ (s true false).pool.vehicleSlot = .empty ∧ (s true false).pool.controlSlot = .empty ∧
    ((s true true).voice .prompt).flushing = true ∧ ((s true true).voice .prompt).queue = someEntry :: [] ∧
    (s false false).waiters true = [] ∧ 0 < (s false false).queueRoom true := by decide +kernel

/-- PROMPT alone, in a state and at a position, with clip 1 in a state and of a rate; its claim in CABIN sounds where `heard`. -/
def sounding (st : VoiceState) (pos : Nat) (clip : ClipState) (rate passes : Nat) (heard : Bool) : State :=
  let s := onClip (fun c => { c with state := clip, rate := some rate })
    (onVoice .prompt (fun r => { r with queue := [someEntry], state := st, position := pos, passes := passes }) readyClip)
  if heard then s.setZone .cabin ⟨[⟨.voicePrompt, .prompt, .audible, 1, false, false⟩], 2, none, some .voicePrompt, false⟩ else s

theorem witness_VoicesPlayInAFrame :
    let s := sounding .playing 2000 .ready 48000 1 true
    s.port.op = .run ∧ s.traf.capture = .idle ∧ s.pool.clips.length = 63 ∧ (∀ w, w ≠ .prompt → (s.voice w).state = .idle) ∧
    (s.voice .prompt).queue = someEntry :: [] ∧ (s.voice .prompt).state = .playing ∧ (s.voice .prompt).gap = none ∧
    (s.voice .prompt).fade = none ∧ (s.voice .prompt).first = false ∧ (s.pool.clip 1).state = .ready ∧
    2000 + 24 < (s.pool.clip 1).sealedLen ∧ (s.pool.clip 1).sealedLen ≤ 2000 + 48 ∧ (s.pool.clip 1).rate = some 48000 ∧
    ((sounding .starting 0 .filling 24000 1 true).voice .prompt).state = .starting ∧
    (sounding .starting 0 .filling 24000 1 true).voiceHeard .prompt = true ∧
    (sounding .starting 0 .filling 24000 1 false).voiceHeard .prompt = false ∧
    ((sounding .playing 2040 .filling 16000 1 true).pool.clip 1).fill < 2040 + 16 := by
  refine ⟨rfl, rfl, by decide +kernel, fun w h => ?_, by decide +kernel⟩
  cases w
  · rfl
  · exact absurd rfl h
  · rfl
  · rfl

/-- The output of a FILLING clip at 48000 Hz, and of a voice that leaves STARTING. -/
theorem witness_VoicesPlayInAFrame_output :
    let s := sounding .playing 2040 .filling 48000 1 true
    let u := sounding .starting 0 .filling 48000 1 true
    (s.voice .prompt).queue = someEntry :: [] ∧ (s.voice .prompt).state = .playing ∧ (s.pool.clip 1).rate = some 48000 ∧
    (s.pool.clip 1).state = .filling ∧ (u.voice .prompt).state = .starting ∧ (u.voice .prompt).fade = none ∧
    u.voiceHeard .prompt = true ∧ ¬ ((u.pool.clip 1).fill < 1) ∧ (u.voice .prompt).first = false ∧
    (sounding .starting 0 .filling 48000 1 false).voiceHeard .prompt = false := by decide +kernel

/-- R88, R91: a frame of a clip at 24000 Hz advances the position by 24; the frame that outruns the writer leaves it at the fill
count. -/
theorem test_frames_advance :
    (∃ t, exec (.renderFrame quietFrame) (sounding .playing 0 .ready 24000 1 true) = .next t ∧ (t.voice .prompt).position = 24) ∧
    ∃ t, exec (.renderFrame quietFrame) (sounding .playing 2040 .filling 16000 1 true) = .next t ∧
      (t.voice .prompt).position = 2048 ∧ (t.voice .prompt).fade = some 6 :=
  ⟨⟨_, rfl, by decide +kernel⟩, ⟨_, rfl, by decide +kernel, by decide +kernel⟩⟩

/-- P1's announcement is in its tail, which has run out, at the age limit. -/
def ended : State :=
  run.setAnn .p1 { Announcement.quiet with state := .tail, tail := some 0, age := 90000, eligible := true }

theorem witness_AnnouncementsEnd :
    ended.port.op = .run ∧ (ended.ann .p1).tail = some 0 ∧ (ended.ann .p1).state ≠ .quiet ∧ 90000 ≤ (ended.ann .p1).age ∧
    (∀ n, ended.traf.capture ≠ .recording .p1 n) ∧ (run.ann .p2).tail ≠ some 0 ∧ (run.ann .p2).age < 90000 := by
  refine ⟨rfl, by decide, by decide, by decide, fun n => ?_, by decide, by decide⟩
  have e : ended.traf.capture = .idle := rfl
  rw [e]
  simp

/-- P2 is LOCKED on FM in REAR, and P1 on FM, each with or without TP and TA; TA watch is on; CABIN and REAR_R take announcements. -/
def onAir (tp ta : Bool) : State :=
  let d : Decoded := { Decoded.absent with tp := tp, ta := ta }
  let s := onPath .p1 (fun x => { x with state := .locked, station := ⟨.fm, 10100⟩, decoded := d })
    (onPath .p2 (fun x => { x with state := .locked, role := .rear, station := ⟨.fm, 9000⟩, decoded := d }) run)
  let p : Profile := { run.bank.current.cabin with trafficMode := .liveOrCapture }
  { s.setZone .rearR ⟨[⟨.radio2, .entertainment, .audible, 1, false, false⟩], 2, none, some .radio2, false⟩ with
    bank := { s.bank with current := ⟨p, p, p, p⟩ }
    tun := { s.tun with flags := ⟨false, false, false, true⟩ } }

/-- An announcement may begin on either path; CABIN takes P1's and REAR_R takes P2's, and under TELEM CABIN's is HELD. -/
theorem witness_AnnouncementsEnd_begins :
    let s := onAir true false
    let held := s.setZone .cabin ⟨[⟨.telem, .emergency, .audible, 1, false, false⟩], 2, none, none, false⟩
    s.port.op = .run ∧ (s.path .p1).state = .locked ∧ (s.path .p2).state = .locked ∧ (s.path .p1).station.band = .fm ∧
    (s.path .p2).station.band = .fm ∧ s.tun.flags.ta = true ∧ (s.path .p2).role = .rear ∧ (s.ann .p1).state = .quiet ∧
    (s.ann .p2).state = .quiet ∧ (s.path .p1).decoded.tp = true ∧ (s.path .p1).decoded.ta = false ∧
    (s.profile .cabin).trafficMode = .liveOrCapture ∧ s.entSource .rearR = some .radio2 ∧ held.traf.capture = .idle ∧
    held.pool.capturing = 0 ∧ held.pool.lowestFree = some 1 ∧ 1 ≤ held.pool.freePages.length ∧
    pagesHeldBy .control held.pool.clips + pagesHeldBy .capture held.pool.clips < 928 := by decide +kernel

/-- The claim of P1's announcement is HELD once it has begun under TELEM. -/
theorem witness_AnnouncementsEnd_held :
    ∃ t, exec (.decodedField .p1 (.ta true))
        ((onAir true false).setZone .cabin ⟨[⟨.telem, .emergency, .audible, 1, false, false⟩], 2, none, none, false⟩) = .next t ∧
      (t.claim .cabin .traffic1).map Claim.state = some .held := ⟨_, rfl, by decide +kernel⟩

/-- P1's announcement is captured into clip 63, which has room for one frame more before it is long enough. -/
def capturing (state : AnnState) (capture : Capture) : State :=
  let s := (onAir true (state == .live)).setAnn .p1
    { Announcement.quiet with state := state, tail := if state = .tail then some 0 else none, age := 90000,
                              held := ⟨true, false, false, false⟩, eligible := true }
  { s with
    traf := { s.traf with capture := capture }
    pool := { s.pool with clips := s.pool.clips.set 62 ⟨.capturing, some .capture, some 24000, List.range 47, 47976, 0, true, .unused⟩ } }

theorem witness_AnnouncementsEnd_captures :
    let s := capturing .tail (.recording .p1 63)
    (s.ann .p1).tail = some 0 ∧ (s.ann .p1).state ≠ .quiet ∧ 90000 ≤ (s.ann .p1).age ∧ s.traf.capture = .recording .p1 63 ∧
    Memory.wf s.pool.mem = true ∧
    s.pool.clips.length = 63 ∧ (s.pool.clip 63).state = .capturing ∧ (s.pool.clip 63).owner = some .capture ∧
    (s.pool.clip 63).use = .unused ∧ 0 < (s.pool.clip 63).fill ∧ s.voc.controlWaiters = [] ∧ s.voc.control.length < 16 ∧
    (s.voice .traffic).queue.length < 8 ∧ (s.ann .p1).held.driver = false ∧
    ((s.ann .p1).held.cabin || (s.ann .p1).held.rearL || (s.ann .p1).held.rearR) = true ∧
    (∀ v, (s.voice v).state = .idle) ∧ (s.pool.clip 63).fill + 24 ≤ (s.pool.clip 63).pages.length * 1024 ∧
    (s.pool.clip 63).fill < 48000 ∧ 48000 ≤ (s.pool.clip 63).fill + 24 ∧
    ((onPath .p1 (fun x => { x with state := .tuning }) s).path .p1).state ≠ .locked ∧
    ((capturing .live .idle).ann .p1).state = .live ∧ ((capturing .live .idle).path .p1).decoded.ta = true ∧
    ((capturing .tail .idle).path .p1).decoded.ta = false ∧ (capturing .quiet (.recording .p2 63)).traf.capture ≠ .idle := by
  refine ⟨by decide, by decide, by decide, rfl, by decide, by decide +kernel, by decide +kernel, by decide +kernel, by decide +kernel,
    by decide +kernel, rfl, by decide, by decide, rfl, rfl, fun v => ?_, by decide +kernel⟩
  cases v <;> rfl

/-- R143: the entry of override makes both announcements' claims HELD at one moment, P2's being the older. -/
theorem test_the_older_is_captured :
    let s := (onAir true true).setZone .rearR ⟨[⟨.traffic2, .traffic, .audible, 1, false, false⟩], 2, none, some .traffic2, false⟩
    let s := s.setZone .cabin ⟨[⟨.traffic1, .traffic, .audible, 1, false, false⟩], 2, none, some .traffic1, false⟩
    let live : Nat → ZoneSet → Announcement := fun age z => ⟨.live, z, ⟨false, false, false, false⟩, true, age, none⟩
    ∃ t, exec .overrideEnter ((s.setAnn .p1 (live 10 ⟨true, false, false, false⟩)).setAnn .p2 (live 11 ⟨false, false, false, true⟩)) =
      .next t ∧ t.traf.capture = .recording .p2 1 := ⟨_, rfl, by decide +kernel⟩

/-- Both announcements have waited with a HELD claim, P2's the longer, while the completion of an earlier capture was owed. -/
def bothHeld : State :=
  let s := (onAir true true).setZone .cabin ⟨[⟨.traffic1, .traffic, .held, 1, false, false⟩], 2, none, some .traffic1, false⟩
  let s := s.setZone .rearR ⟨[⟨.traffic2, .traffic, .held, 1, false, false⟩], 2, none, some .traffic2, false⟩
  let live : Nat → ZoneSet → Announcement := fun age z => ⟨.live, z, ZoneSet.empty, true, age, none⟩
  let s := (s.setAnn .p1 (live 10 ⟨true, false, false, false⟩)).setAnn .p2 (live 11 ⟨false, false, false, true⟩)
  { s with
    traf := { s.traf with capture := .owing 63 .captured }
    voc := { s.voc with control := [⟨2, some .ring, .played⟩], controlWaiters := [.monitor] } }

/-- As `bothHeld`, with no page left in the pool. -/
def bothRefused : State := { bothHeld with pool := { bothHeld.pool with freePages := [] } }

theorem witness_AnnouncementsEnd_both :
    Serves bothHeld ∧ Serves bothRefused ∧ bothHeld.voc.control.length ≤ 16 ∧ bothHeld.voc.controlWaiters = [.monitor] ∧
    bothHeld.traf.capture = .owing 63 .captured ∧
    (∀ p, (bothHeld.ann p).state ≠ .quiet ∧ (bothHeld.ann p).eligible = true ∧ (bothHeld.ann p).age < 90000) ∧
    (bothHeld.ann .p1).zones.cabin = true ∧ (bothHeld.profile .cabin).trafficMode = .liveOrCapture ∧
    (bothHeld.claim .cabin .traffic1).map Claim.state = some .held ∧ (bothHeld.ann .p2).zones.rearR = true ∧
    (bothHeld.claim .rearR .traffic2).map Claim.state = some .held ∧ bothHeld.pool.capturing = 0 ∧
    bothHeld.pool.lowestFree = some 1 ∧ bothHeld.pool.freePages ≠ [] ∧
    pagesHeldBy .control bothHeld.pool.clips + pagesHeldBy .capture bothHeld.pool.clips < 928 ∧ bothRefused.pool.freePages = [] := by
  refine ⟨⟨rfl, rfl⟩, ⟨rfl, rfl⟩, by decide, rfl, rfl, fun p => by cases p <;> decide, rfl, rfl, by decide, rfl, by decide, by decide,
    by decide, by decide +kernel, by decide +kernel, rfl⟩

/-- R143: P2's announcement is the older and is captured; where the pool refuses, both lose their marks. -/
theorem test_the_younger_after_a_refusal :
    (∃ t, exec (.voiceCompletions 1) bothHeld = .next t ∧ t.traf.capture = .recording .p2 1 ∧ (t.ann .p1).eligible = true) ∧
    ∃ t, exec (.voiceCompletions 1) bothRefused = .next t ∧ t.traf.capture = .idle ∧ (t.ann .p1).eligible = false ∧
      (t.ann .p2).eligible = false :=
  ⟨⟨_, rfl, by decide +kernel, by decide +kernel⟩, ⟨_, rfl, by decide +kernel, by decide +kernel, by decide +kernel⟩⟩

/-- R143: an evaluation that makes no claim held anew is none of its events: a claim held before it begins no capture. -/
theorem witness_AnnouncementsEnd_no_event :
    let s : State := { bothHeld with traf := { bothHeld.traf with capture := .idle } }
    let u := s.setZone .driver { s.zone .driver with yieldTimer := some 0 }
    ∃ t, exec (.yieldExpiry .driver) u = .next t ∧ u.traf.capture = .idle ∧ (t.zone .driver).yieldTimer = none ∧
      (∀ p y, t.heldForCapture p y = true → u.heldForCapture p y = true) ∧ t.traf.capture = .idle := by
  refine ⟨_, rfl, by decide +kernel, by decide +kernel, fun p y => ?_, by decide +kernel⟩
  cases p <;> cases y <;> decide +kernel

/-- The completion of a closed capture is owed, and the control queue is full. -/
theorem witness_AnnouncementsEnd_owing :
    let s : State := { run with
      traf := { run.traf with capture := .owing 63 .captured }
      voc := { run.voc with control := List.replicate 16 ⟨2, some .ring, .played⟩, controlWaiters := [.monitor] } }
    Serves s ∧ s.voc.control ≠ [] ∧ s.voc.control.length ≤ 16 ∧ s.voc.controlWaiters = [.monitor] ∧
    s.traf.capture = .owing 63 .captured ∧ (s.ann .p1).state = .quiet ∧ (s.ann .p2).state = .quiet := ⟨⟨rfl, rfl⟩, by decide⟩

/-! ## Witnesses: the tuner -/

/-- P1 is LOCKED at FM 10100 with a low quality, and P2 idle at FM 8750. -/
def front : State := onPath .p1 (fun x => { x with state := .locked, station := ⟨.fm, 10100⟩, q := 20, measured := true }) run

theorem witness_FrontTunesTheCabin :
    Unlocked front ∧ Band.lo .fm ≤ 10100 ∧ 10100 ≤ Band.hi .fm ∧ (front.path .p1).station = ⟨.fm, Band.round .fm 10100⟩ ∧
    (front.path .p1).state = .locked ∧ Band.lo .am ≤ 1710 ∧ 1710 ≤ Band.hi .am ∧
    (front.path .p1).station ≠ ⟨.am, Band.round .am 1710⟩ ∧ front.rend.hush.radio1 = false ∧ 521 < Band.lo .am ∧
    Band.hi .fm < 10801 :=
  ⟨⟨⟨rfl, rfl⟩, rfl⟩, by decide⟩

/-- As `front`, with REAR_R on RADIO_2. -/
def rearBusy : State :=
  front.setZone .rearR ⟨[⟨.radio2, .entertainment, .audible, 1, false, false⟩], 2, none, some .radio2, false⟩

theorem witness_RearTakesAStation :
    Unlocked front ∧ (∀ y, ClaimsOk (front.zone y)) ∧ front.tun.check = none ∧ Band.lo .fm ≤ 10100 ∧ 10100 ≤ Band.hi .fm ∧
    (⟨.fm, Band.round .fm 10100⟩ : Station) = (front.path .p1).station ∧ Unlocked rearBusy ∧
    (⟨.fm, Band.round .fm 9000⟩ : Station) ≠ (rearBusy.path .p1).station ∧ rearBusy.entSource .rearR = some .radio2 ∧
    (rearBusy.path .p2).station ≠ ⟨.fm, Band.round .fm 9000⟩ ∧
    (⟨.fm, Band.round .fm 8750⟩ : Station) ≠ (rearBusy.path .p1).station ∧
    (rearBusy.path .p2).station = ⟨.fm, Band.round .fm 8750⟩ ∧ (rearBusy.path .p2).state ≠ .failed ∧
    front.entSource .rearR ≠ some .radio2 ∧
    (onPath .p2 (fun x => { x with state := .failed }) front |>.path .p2).state = .failed ∧ 1 < 2 ∧ 3 < 4 := by
  refine ⟨⟨⟨rfl, rfl⟩, rfl⟩, empty_claims_ok front rfl, rfl, by decide, by decide, by decide, ⟨⟨rfl, rfl⟩, rfl⟩, ?_⟩
  decide

/-- As `front`, with the two rear zones on a source each, each with a wish. -/
def rears (l r : Source) (wl wr : Wish) : State :=
  let zone : Source → ZoneState := fun x => ⟨[⟨x, .entertainment, .audible, 1, false, false⟩], 2, none, some x, false⟩
  let s := (front.setZone .rearL (zone l)).setZone .rearR (zone r)
  { s with tun := { s.tun with wishL := wl, wishR := wr } }

/-- Each pair of wishes that TUNER.FRONT at FM 9500 resolves. -/
theorem witness_FrontTunesTheCabin_wishes :
    let a : Station := ⟨.fm, 9000⟩
    let b : Station := ⟨.am, 522⟩
    let st : Station := ⟨.fm, Band.round .fm 9500⟩
    (front.path .p1).station ≠ st ∧ a ≠ st ∧ b ≠ st ∧ (∀ y, ClaimsOk ((rears .radio2 .radio1 (.station a) (.station b)).zone y)) ∧
    (rears .radio1 .radio2 .cabin (.station st)).wish .rearL = .cabin ∧
    (rears .radio1 .radio2 .cabin (.station st)).entSource .rearL = some .radio1 ∧
    (rears .radio1 .radio2 .cabin (.station st)).wish .rearR = .station st ∧
    (rears .radio1 .radio2 .cabin (.station st)).entSource .rearR = some .radio2 ∧
    (rears .radio2 .radio1 (.station a) .cabin).wish .rearL = .station a ∧
    (rears .radio2 .radio1 (.station a) .cabin).entSource .rearL = some .radio2 ∧
    (rears .radio2 .radio1 (.station a) .cabin).entSource .rearR ≠ some .radio2 ∧
    (rears .radio2 .radio2 (.station a) (.station a)).wish .rearR = .station a ∧
    (rears .radio2 .radio1 (.station a) (.station b)).wish .rearR = .station b ∧
    (rears .radio2 .radio1 (.station a) (.station b)).entSource .rearR = some .radio1 ∧
    (front.path .p2).state ≠ .failed ∧ front.wish .rearL = .none ∧ front.tun.check = none := by
  refine ⟨by decide, by decide, by decide, fun y => ?_, by decide⟩
  cases y <;> unfold ClaimsOk <;> decide

/-- REAR_R holds P2 at FM 9000, where REAR_L asks for it too; an AF check without a candidate there is running. -/
theorem witness_RearTakesAStation_shared :
    let s := onPath .p2 (fun x => { x with role := .rear, station := ⟨.fm, 9000⟩, state := .locked })
      (rears .radio1 .radio2 .cabin (.station ⟨.fm, 9000⟩))
    let u : State := { s with tun := { s.tun with check := some ⟨[], [9500], 20, none⟩ } }
    (∀ c, u.tun.check = some c → c.untried ≠ [] ∧
      ∀ g ∈ c.untried, (u.path .p2).station ≠ ⟨.fm, g⟩ ∧ (⟨.fm, Band.round .fm 9000⟩ : Station) ≠ ⟨.fm, g⟩) ∧
    (⟨.fm, Band.round .fm 9000⟩ : Station) ≠ (u.path .p1).station ∧ u.entSource .rearR = some .radio2 ∧
    (u.path .p2).station = ⟨.fm, Band.round .fm 9000⟩ ∧ (u.path .p2).state = .locked ∧ (u.path .p2).role = .rear ∧
    u.wish .rearR = .station ⟨.fm, 9000⟩ := by
  refine ⟨fun c h => ?_, by decide⟩
  cases h
  decide

theorem witness_TunerFlagsAndSettings :
    Serves run ∧ { run with tun := { run.tun with flags := ⟨false, true, true, false⟩ } }.tun.flags.af = true ∧
    { run with tun := { run.tun with flags := ⟨false, true, true, false⟩ } }.tun.flags.scan = true ∧ run.tun.flags.scan = false ∧
    run.scan.timer = none ∧ run.scan.window = none ∧ run.scan.waiting = false := ⟨run_serves, by decide⟩

/-- A path in a phase of its tune that is due. -/
def tuning (p : Path) (ph : Phase) (retry : Nat) : State :=
  onPath p (fun x => { x with state := .tuning, phase := some ph, wait := some 0, retry := retry }) run

/-- P2 is planned to be idle at its station, and settles there. -/
theorem witness_TunesRunLockOrFail :
    (tuning .p2 .fading 0).port.op = .run ∧ ((tuning .p2 .fading 0).path .p2).state = .tuning ∧
    ((tuning .p2 .fading 0).path .p2).phase = some .fading ∧ ((tuning .p2 .fading 0).path .p2).wait = some 0 ∧
    ((tuning .p1 .confirming 0).path .p1).phase = some .confirming ∧ ((tuning .p1 .confirming 0).path .p1).retry = 0 ∧
    (⟨.am, 522⟩ : Station) ≠ ((tuning .p1 .confirming 0).path .p1).station ∧
    ((onPath .p1 (fun x => { x with state := .failed, retryTimer := some 0 }) run).path .p1).retryTimer = some 0 ∧
    ((tuning .p1 .settling 0).path .p1).phase = some .settling ∧ (tuning .p1 .settling 0).tun.check = none ∧
    (∀ z, ClaimsOk ((tuning .p2 .confirming 1).zone z)) ∧ ((tuning .p2 .confirming 1).path .p2).retry ≠ 0 ∧
    (run.path .p2).wait ≠ some 0 := by
  refine ⟨rfl, by decide, by decide, by decide, by decide, by decide, by decide, by decide, by decide, by decide,
    empty_claims_ok _ rfl, by decide, by decide⟩

/-- P2 in REAR, planned by the claim of REAR_L and its wish, settles at its station. -/
def rearSettling : State :=
  let s := onPath .p2 (fun x => { x with
    state := .tuning, role := .rear, station := ⟨.fm, 9000⟩, phase := some .settling, wait := some 0 }) front
  { s.setZone .rearL ⟨[⟨.radio2, .entertainment, .audible, 1, false, false⟩], 2, none, some .radio2, false⟩ with
    tun := { s.tun with wishL := .station ⟨.fm, 9000⟩ } }

theorem witness_TunesRunLockOrFail_rear :
    rearSettling.port.op = .run ∧ rearSettling.tun.check = none ∧ (rearSettling.path .p2).state = .tuning ∧
    (rearSettling.path .p2).phase = some .settling ∧ (rearSettling.path .p2).wait = some 0 ∧
    rearSettling.plan = ((rearSettling.path .p2).role, some (rearSettling.path .p2).station) ∧
    (rearSettling.path .p2).role = .rear := by decide

/-- P1 settles with each line of R109's plan the first that applies. -/
theorem witness_TunesRunLockOrFail_plan :
    let settling := fun s : State => onPath .p1 (fun x => { x with state := .tuning, phase := some .settling, wait := some 0 }) s
    let paired : State := { front with tun := { front.tun with flags := ⟨true, false, false, false⟩ } }
    ((settling front).path .p1).phase = some .settling ∧ ((settling front).path .p1).wait = some 0 ∧
    (settling (rears .radio1 .radio2 .cabin (.station ⟨.fm, 9000⟩))).entSource .rearR = some .radio2 ∧
    ((onPath .p2 (fun x => { x with state := .failed }) (settling front)).path .p2).state = .failed ∧
    ({ settling front with scan := { front.scan with window := some ⟨500, .named 25 35⟩ } } : State).scan.window.isSome = true ∧
    (settling paired).tun.flags.diversity = true ∧ ((settling paired).path .p1).station.band = .fm ∧
    (settling front).tun.flags.diversity = false ∧ (settling front).tun.check = none := by decide

/-- R105: a FAILED path's retry is confirmed, or its wait has run out before and after the resend; P2 is planned REAR, PARTNER or IDLE
after it. R107: P2 fails with REAR_L on RADIO_2. -/
theorem witness_TunesRunLockOrFail_retry :
    let failed : Path → Nat → State → State := fun p n s => onPath p (fun x => { x with
      state := .failed, retrying := true, retry := n, wait := some 0 }) s
    let paired : State := failed .p2 1 { front with tun := { front.tun with flags := ⟨true, false, false, false⟩ } }
    let stranded : State := onPath .p2 (fun x => { x with state := .tuning, role := .rear, phase := some .confirming, wait := some 0, retry := 1 })
      (rears .radio2 .mediaA (.station ⟨.fm, 9000⟩) .none)
    (failed .p1 0 run).port.op = .run ∧ ((failed .p1 0 run).path .p1).state = .failed ∧ ((failed .p1 0 run).path .p1).wait = some 0 ∧
    ((failed .p1 0 run).path .p1).retry = 0 ∧ ((failed .p2 1 run).path .p2).retry ≠ 0 ∧ ((failed .p2 1 run).path .p2).retrying = true ∧
    (⟨.am, 522⟩ : Station) ≠ ((failed .p1 0 run).path .p1).station ∧ (failed .p2 1 run).tun.check = none ∧
    (failed .p2 1 run).scan.window = none ∧ (failed .p2 1 (rears .radio2 .mediaA .none .none)).entSource .rearL = some .radio2 ∧
    (paired.path .p2).state = .failed ∧ paired.tun.flags.diversity = true ∧ (paired.path .p1).station.band = .fm ∧
    (paired.path .p1).state = .locked ∧ paired.entSource .rearL ≠ some .radio2 ∧ paired.entSource .rearR ≠ some .radio2 ∧
    (failed .p2 1 run).tun.flags.diversity = false ∧ stranded.entSource .rearL = some .radio2 ∧ stranded.entSource .rearR = some .mediaA ∧
    ∃ t, exec (.confirmTimeout .p2) stranded = .next t ∧ t.entSource .rearL = some .radio1 ∧ t.tun.wishL = .cabin ∧
      t.port.flags.getLsbD 17 = true ∧ t.entSource .rearR = some .mediaA := by
  refine ⟨by decide, by decide, by decide, by decide, by decide, by decide, by decide, by decide, by decide, by decide, by decide, by decide,
    by decide, by decide, by decide, by decide, by decide, by decide, by decide, _, rfl, by decide, by decide, by decide, by decide⟩

theorem witness_MeasurementsAndDecodedData :
    front.port.op = .run ∧ (front.path .p1).state = .locked ∧ (front.path .p1).station.band = .fm ∧
    (front.path .p2).state ≠ .locked := by decide

/-- A seek upward from FM 10100 whose step at a frequency is due to be measured. -/
def seekingAt (f : Nat) : State :=
  let s := onPath .p1 (fun x => { x with state := .seeking, station := ⟨.fm, f⟩, wait := some 0 }) run
  { s with tun := { s.tun with seek := some ⟨.up, 10100, true⟩ } }

def seeking : State := seekingAt 10105

/-- P2 has the seek's start in REAR, and the step is the last before it. -/
def seekPassed : State := onPath .p2 (fun x => { x with role := .rear, station := ⟨.fm, 10100⟩ }) (seekingAt 10095)

/-- R113: the seek does not pass over its start: it stops within one band, before the start that P2 has taken. -/
theorem witness_SeekStepsThroughTheBand_passed :
    Band.next .fm .up (seekPassed.path .p1).station.freq = 10100 ∧ (seekPassed.path .p2).role = .rear ∧
    (seekPassed.path .p2).station = ⟨.fm, 10100⟩ ∧ seekPassed.port.op = .run ∧ (seekPassed.path .p1).state = .seeking ∧
    seekPassed.tun.seek = some ⟨.up, 10100, true⟩ ∧ (seekPassed.path .p1).wait = some 0 ∧ seekPassed.tun.check = none ∧
    Band.lo .fm ≤ 10105 ∧ 10105 ≤ Band.hi .fm ∧ Band.step .fm ∣ 10105 - Band.lo .fm ∧ Band.step .fm ∣ 10100 - Band.lo .fm ∧
    (∃ t, exec (.seekStepMeasurement 0 0 0) seekPassed = .next t ∧ (t.path .p1).station = ⟨.fm, 10095⟩ ∧ t.tun.seek = none) ∧
    ∃ t, exec (.seekStepMeasurement 0 0 0) (seekingAt 10095) = .next t ∧ (t.path .p1).station = ⟨.fm, 10100⟩ := by
  refine ⟨by decide, by decide, by decide, by decide, by decide, by decide, by decide, by decide, by decide, by decide, by decide,
    by decide, ⟨_, rfl, by decide, by decide⟩, ⟨_, rfl, by decide⟩⟩

theorem witness_SeekStepsThroughTheBand :
    Unlocked front ∧ front.tun.check = none ∧ (front.path .p2).role ≠ .rear ∧ seeking.port.op = .run ∧
    (seeking.path .p1).state = .seeking ∧ seeking.tun.seek = some ⟨.up, 10100, true⟩ ∧ (seeking.path .p1).wait = some 0 ∧
    quality 34 0 0 < seeking.tun.settings.seekThreshold ∧ (seeking.path .p1).station.freq ≠ 10100 ∧
    seeking.tun.settings.seekThreshold ≤ quality 35 0 0 ∧ seeking.tun.check = none ∧
    (onPath .p2 (fun x => { x with role := .rear, station := ⟨.fm, 10105⟩ }) front |>.path .p2).station =
      ⟨.fm, Band.next .fm .up 10100⟩ := ⟨⟨⟨rfl, rfl⟩, rfl⟩, by decide⟩

/-- P1 has been below the threshold for the hold time; its record lists it and the other frequencies. -/
def fading (others : List Nat) : State :=
  { front with
    tun := { front.tun with flags := ⟨false, false, true, false⟩, holdCount := 2000, holdDue := true }
    sta := { front.sta with
      slots := front.sta.slots.set 0 ⟨some ⟨0, .fm, none, none, (10100 :: others).map (fun f => ⟨f, 0, 65535⟩), false, none, .host, 0⟩, 0⟩ } }

/-- P1, good enough, with its association: awaited or none, of slot 0 (a record of code 0) where `slot` names it, and beside it a record of
code 77 in slot 1. -/
def associating (a : Assoc) : State :=
  let s := fading [9000]
  { s with sta := { s.sta with
      slots := s.sta.slots.set 1 ⟨some ⟨77, .fm, none, none, [⟨10100, 0, 65535⟩, ⟨9930, 0, 65535⟩], false, none, .scan, 9⟩, 3⟩
      assoc := ⟨a, ⟨none, false⟩⟩ } }

/-- R123: the record of P1's frequency is found, or none and slot 0 is empty; R110: the combined quality of the rule's example. -/
theorem witness_MeasurementsAndDecodedData_associates :
    let s := associating ⟨none, true⟩
    let e : State := { front with sta := { front.sta with assoc := ⟨⟨none, true⟩, ⟨none, false⟩⟩ } }
    let pair := onPath .p2 (fun x => { x with state := .locked, role := .partner, station := ⟨.fm, 10100⟩, q := 40 }) front
    s.port.op = .run ∧ (s.path .p1).state = .locked ∧ s.sta.admitQ ≤ quality 45 20 10 ∧ (s.sta.assoc.get .p1).awaiting = true ∧
    ((s.path .p1).decoded.code.bind s.sta.byCode).or (s.sta.byFreq .fm 10100) = some 0 ∧ (s.sta.recAt 0).isSome = true ∧
    ((e.path .p1).decoded.code.bind e.sta.byCode).or (e.sta.byFreq .fm 10100) = none ∧ emptySlot 0 e.sta.slots = some 0 ∧
    ((associating ⟨some 0, false⟩).sta.assoc.get .p1).awaiting = false ∧
    (∃ t, exec (.pathMeasurement .p1 45 20 10) s = .next t ∧ t.sta.assoc.p1 = ⟨some 0, false⟩) ∧
    (∃ t, exec (.pathMeasurement .p1 45 20 10) e = .next t ∧ (t.sta.recAt 0).map StationRec.freqs = some [⟨10100, 45, 0⟩]) ∧
    ∃ t, exec (.pathMeasurement .p1 45 20 10) pair = .next t ∧ t.radioQuality = 55 := by
  refine ⟨by decide, by decide, by decide, by decide, by decide, by decide, by decide, by decide, by decide, ⟨_, rfl, by decide⟩,
    ⟨_, rfl, by decide⟩, ⟨_, rfl, by decide⟩⟩

/-- R124: a merge is a change of both slots, though the coded record gains nothing by it. -/
theorem witness_MeasurementsAndDecodedData_codes :
    let s := associating ⟨some 0, false⟩
    let o : StationRec := ⟨0, .fm, none, none, [⟨10100, 0, 65535⟩, ⟨9000, 0, 65535⟩], false, none, .host, 0⟩
    let less : State := { s with sta := { s.sta with
      slots := s.sta.slots.set 0 ⟨some { o with freqs := [⟨10100, 0, 65535⟩] }, 0⟩, reservation := some (1, 3) } }
    (s.path .p1).state = .locked ∧ (s.path .p1).station.band = .fm ∧ (s.path .p1).decoded = Decoded.absent ∧
    s.sta.recAt 0 = some o ∧ s.sta.byCode 77 = some 1 ∧ s.sta.byCode 78 = none ∧ (s.sta.assoc.get .p1).slot = some 0 ∧
    ((associating ⟨none, false⟩).sta.assoc.get .p1).slot = none ∧ emptySlot 0 s.sta.slots = some 2 ∧
    (∃ t, exec (.decodedField .p1 (.code 77)) less = .next t ∧ t.sta.recAt 0 = none ∧ t.revisionOf 1 = 4 ∧
      t.sta.reservation = none ∧ (t.sta.recAt 1).map StationRec.freqs = some [⟨10100, 0, 65535⟩, ⟨9930, 0, 65535⟩]) ∧
    (∃ t, exec (.decodedField .p1 (.code 78)) s = .next t ∧ t.sta.recAt 0 = some { o with code := 78 }) ∧
    ∃ t, exec (.decodedField .p1 (.af 8760)) s = .next t ∧
      t.sta.recAt 0 = some { o with freqs := o.freqs ++ [⟨8760, 0, 65535⟩] } := by
  refine ⟨by decide, by decide, by decide, by decide, by decide, by decide, by decide, by decide, by decide,
    ⟨_, rfl, by decide, by decide, by decide, by decide⟩, ⟨_, rfl, by decide⟩, ⟨_, rfl, by decide⟩⟩

/-- A table without an empty slot: every slot holds the record, but for the slots named, whose records are of origin SCAN without a preset and
of the ages given. -/
def fullTable (r : StationRec) (old : List (Nat × Nat)) (s : State) : State :=
  let scanned (l : List StaSlot) (x : Nat × Nat) := l.set x.1 ⟨some { r with origin := .scan, preset := none, age := x.2 }, 0⟩
  { s with sta := { s.sta with slots := old.foldl scanned (List.replicate 40 ⟨some { r with origin := .host }, 0⟩) } }

/-- R126: of a full table the scanned record of the largest age gives its slot up, of equal ages the lowest slot, and with none scanned no
record is created. R124: a frequency that joins a full list displaces the oldest entry behind the primary nearest to the tail. -/
theorem witness_MeasurementsAndDecodedData_full :
    let r : StationRec := ⟨0, .fm, none, none, [⟨8760, 1, 9⟩, ⟨8770, 1, 4⟩, ⟨8780, 1, 7⟩, ⟨8790, 1, 7⟩, ⟨8800, 1, 0⟩, ⟨8810, 1, 0⟩,
      ⟨8820, 1, 0⟩, ⟨8830, 1, 0⟩], false, none, .host, 5⟩
    let base : State := { front with sta := { front.sta with assoc := ⟨⟨none, true⟩, ⟨none, false⟩⟩ } }
    let s := fullTable r [(3, 5), (8, 6), (9, 6)] base
    let none_ := fullTable r [] base
    let listed : State := { base with sta := { base.sta with slots := base.sta.slots.set 0 ⟨some { r with code := 77 }, 0⟩ } }
    (s.path .p1).decoded.code = none ∧ s.sta.byFreq .fm 10100 = none ∧ s.sta.slots.all (fun x => x.record.isSome) = true ∧
    none_.sta.byFreq .fm 10100 = none ∧ (none_.sta.assoc.get .p1).awaiting = true ∧
    (∃ t, exec (.pathMeasurement .p1 45 20 10) s = .next t ∧ t.sta.assoc.p1 = ⟨some 8, false⟩) ∧
    (∃ t, exec (.pathMeasurement .p1 45 20 10) none_ = .next t ∧ t.sta.assoc.p1 = ⟨none, false⟩) ∧
    ∃ t, exec (.decodedField .p1 (.code 77)) listed = .next t ∧ (t.sta.recAt 0).map (fun x => x.freqs.map FreqEntry.freq) =
      some [8760, 8770, 8780, 8800, 8810, 8820, 8830, 10100] := by
  refine ⟨by decide, by decide, by decide, by decide, by decide, ⟨_, rfl, by decide +kernel⟩, ⟨_, rfl, by decide +kernel⟩,
    ⟨_, rfl, by decide⟩⟩

/-- The hold count rises to the hold time at a measurement of P1 below the threshold, and is emptied at the threshold. -/
theorem witness_MeasurementsAndDecodedData_hold :
    let s : State := { fading [] with tun := { (fading []).tun with holdCount := 1990 } }
    s.tun.flags.af = true ∧ s.tun.check = none ∧ (s.path .p1).station.band = .fm ∧ s.tun.settings.afHold ≤ s.tun.holdCount + 10 ∧
    (∃ t, exec (.pathMeasurement .p1 29 0 0) s = .next t ∧ t.radioQuality < s.tun.settings.afThreshold) ∧
    ∃ t, exec (.pathMeasurement .p1 30 0 0) s = .next t ∧ s.tun.settings.afThreshold ≤ t.radioQuality :=
  ⟨rfl, rfl, rfl, by decide, ⟨_, rfl, by decide⟩, ⟨_, rfl, by decide⟩⟩

/-- A check whose trial of FM 9000 on P2 has measured `q` and is at its end. -/
def trying (q : Nat) : State :=
  let s := onPath .p2 (fun x => { x with state := .locked, role := .scan, station := ⟨.fm, 9000⟩ }) (fading [9000])
  { s with tun := { s.tun with check := some ⟨[], [9000], 20, some ⟨9000, some 200, [q, q, q]⟩⟩ } }

theorem witness_AfChecksTryTheCandidates :
    (fading []).port.op = .run ∧ (fading []).tun.flags.af = true ∧ ((fading []).path .p1).state = .locked ∧
    ((fading []).path .p1).station.band = .fm ∧ (fading []).tun.check = none ∧
    (fading []).tun.holdDue = true ∧ (fading []).candidates = [] ∧
    (fading [9000]).candidates = 9000 :: [] ∧ (fading [9000]).tun.peek = none ∧ ((fading [9000]).path .p2).role ≠ .rear ∧
    ((fading [9000]).path .p2).state ≠ .failed ∧ ((fading [9000]).path .p2).state ≠ .locked ∧
    (fading [9000]).entSource .rearL ≠ some .radio2 ∧ (fading [9000]).entSource .rearR ≠ some .radio2 ∧
    run.tun.holdDue = false ∧ (trying 30).tun.check.isSome = true ∧
    ((trying 30).path .p2).state = .locked ∧ 20 + (trying 30).tun.settings.afMargin ≤ [30, 30, 30].sum / max 1 3 ∧
    ((trying 30).path .p2).decoded.code = none ∧ [29, 29, 29].sum / max 1 3 < 20 + (trying 29).tun.settings.afMargin ∧
    (trying 29).tun.peek = none := by decide

/-- R127: a trial that fails records the mean; a switch makes the frequency the primary, but not where another record of code 0 has it. -/
theorem witness_AfChecksTryTheCandidates_table :
    let taken : State := { trying 30 with sta := { (trying 30).sta with
      slots := (trying 30).sta.slots.set 1 ⟨some ⟨0, .fm, none, none, [⟨9000, 0, 9⟩], false, none, .host, 0⟩, 0⟩ } }
    checkedSlot (trying 30) = some 0 ∧ checkedSlot taken = some 0 ∧
    (∃ t, exec .afTrialEnd (trying 29) = .next t ∧ (t.sta.recAt 0).map StationRec.freqs = some [⟨10100, 0, 65535⟩, ⟨9000, 29, 0⟩]) ∧
    (∃ t, exec .afTrialEnd (trying 30) = .next t ∧ (t.sta.recAt 0).map StationRec.freqs = some [⟨9000, 30, 0⟩, ⟨10100, 0, 65535⟩]) ∧
    ∃ t, exec .afTrialEnd taken = .next t ∧ (t.sta.recAt 0).map StationRec.freqs = some [⟨10100, 0, 65535⟩, ⟨9000, 30, 0⟩] := by
  refine ⟨by decide, by decide, ⟨_, rfl, by decide⟩, ⟨_, rfl, by decide⟩, ⟨_, rfl, by decide⟩⟩

/-- R114: the candidates by their last q, equal figures in list order, P1's own frequency apart. -/
theorem test_candidates_in_order :
    let r : StationRec := ⟨0, .fm, none, none, [⟨10100, 99, 0⟩, ⟨9000, 40, 0⟩, ⟨9100, 50, 0⟩, ⟨9200, 40, 0⟩], false, none, .host, 0⟩
    let s : State := { front with sta := { front.sta with slots := front.sta.slots.set 0 ⟨some r, 0⟩ } }
    (s.path .p1).decoded.code = none ∧ (s.sta.byFreq .fm 10100).bind s.sta.recAt = some r ∧ s.candidates = [9100, 9000, 9200] := by
  decide

/-- A check that waits for a peek, as the first of its two candidates is due. -/
def peekable : State :=
  let s := fading [9000]
  { (onPath .p2 (fun x => { x with state := .failed }) s) with
    tun := { (onPath .p2 (fun x => { x with state := .failed }) s).tun with check := some ⟨[], [9000], 20, none⟩ } }

/-- A peek at a time of its run. -/
def peeking (time : Nat) (measured : Bool) (check : Option AfCheck) : State :=
  let s := onPath .p1 (fun x => { x with state := .peek }) (fading [9000])
  { s with tun := { s.tun with check := check, peek := some ⟨9000, time, true, true, measured, true⟩ } }

theorem witness_PeeksVisitACandidate :
    peekable.port.op = .run ∧ peekable.peekDue = some 9000 ∧ (peeking 2 false none).port.op = .run ∧
    (peeking 6 false (some ⟨[], [9000], 20, none⟩)).tun.peek = some ⟨9000, 6, true, true, false, true⟩ ∧
    (peeking 6 false (some ⟨[], [9000], 20, none⟩)).tun.check = some ⟨[], [9000], 20, none⟩ ∧ [9000].head? = some 9000 ∧
    20 + (peeking 6 false none).tun.settings.afMargin ≤ quality 30 0 0 ∧
    quality 29 0 0 < 20 + (peeking 6 false none).tun.settings.afMargin ∧
    (peeking 10 true none).tun.peek = some ⟨9000, 10, true, true, true, true⟩ ∧ (peeking 10 true none).tun.check = none := by
  decide

/-- The return finds no candidate left, or one, with P2 FAILED, TUNING in REAR as planned, or free. -/
theorem witness_PeeksVisitACandidate_return :
    let c : AfCheck := ⟨[9000], [9500], 20, none⟩
    let s := peeking 10 true (some c)
    let rear := onPath .p2 (fun x => { x with role := .rear, station := ⟨.fm, 8800⟩, state := .tuning })
      { rears .radio1 .radio2 .cabin (.station ⟨.fm, 8800⟩) with tun := { (rears .radio1 .radio2 .cabin (.station ⟨.fm, 8800⟩)).tun with
        check := some c, peek := s.tun.peek } }
    s.port.op = .run ∧ s.tun.peek = some ⟨9000, 10, true, true, true, true⟩ ∧ s.tun.check = some c ∧
    (peeking 10 true (some ⟨[9000], [], 20, none⟩)).tun.check = some ⟨[9000], [], 20, none⟩ ∧ (s.path .p2).state ≠ .failed ∧
    s.entSource .rearL ≠ some .radio2 ∧ s.entSource .rearR ≠ some .radio2 ∧
    ((onPath .p2 (fun x => { x with state := .failed }) s).path .p2).state = .failed ∧
    rear.tun.check = some c ∧ (rear.path .p2).role = .rear ∧ rear.plan = (.rear, some (rear.path .p2).station) ∧
    (rear.path .p2).state = .tuning ∧ (s.path .p1).state = .peek := by decide

/-! ## Witnesses: the station table and the scan -/

def someRecord : StationRec := ⟨0, .fm, none, none, [⟨9000, 40, 0⟩], false, some 3, .scan, 65535⟩

/-- Slot 39 is occupied, and reserved at its revision. -/
def listed : State :=
  { run with sta := { run.sta with
      slots := run.sta.slots.set 39 ⟨some someRecord, 7⟩
      presets := run.sta.presets.set 3 (some ⟨⟨.fm, 9000, 0⟩, some 39⟩)
      reservation := some (39, 7) } }

/-- A list of one frequency for a new FM record. -/
def newFields : StationFields := ⟨some 0, none, none, none, none, some [8750]⟩

theorem witness_StationWritesAndDeletes :
    Serves listed ∧ 39 < listed.sta.slots.length ∧ listed.sta.prepare 39 ⟨none, some 5, none, none, none, none⟩ =
      .ok ({ someRecord with code := 5, origin := .host }, false) ∧ listed.sta.reservation = some (39, 7) ∧
    (∀ v, listed.sta.reservation ≠ some (0, v)) ∧
    listed.sta.prepare 0 newFields = .ok (⟨0, .fm, none, none, [⟨8750, 0, 65535⟩], false, none, .host, 65535⟩, true) ∧
    listed.sta.prepare 0 ⟨none, none, none, some 32, none, none⟩ = .error .range ∧
    listed.sta.slots[39]? = some ⟨some someRecord, 7⟩ ∧ listed.sta.slots.length ≤ 40 ∧
    listed.sta.slots[0]? = some ⟨none, 0⟩ ∧ listed.sta.recAt 39 = some someRecord := by
  refine ⟨⟨rfl, rfl⟩, by decide, by rfl, rfl, fun v => ?_, by rfl, by rfl, by decide, by decide, by decide, by decide⟩
  simp [listed]

/-- R122, R133: a record that enters slot 0 takes the lower of two orphaned presets of its code; a list keeps the figures of a frequency
that the record held. R132: the write of the reserved slot ends the reservation. -/
theorem witness_StationWritesAndDeletes_adopts :
    let orphans : State := { listed with sta := { listed.sta with
      presets := (listed.sta.presets.set 5 (some ⟨⟨.fm, 9930, 9⟩, none⟩)).set 7 (some ⟨⟨.am, 522, 9⟩, none⟩) } }
    (∃ t, exec (.stationWrite 1 0 { newFields with code := some 9 }) orphans = .next t ∧
      (t.sta.recAt 0).map StationRec.preset = some (some 5) ∧ t.sta.presets[5]? = some (some ⟨⟨.fm, 9930, 9⟩, some 0⟩) ∧
      t.sta.presets[7]? = some (some ⟨⟨.am, 522, 9⟩, none⟩) ∧ t.sta.reservation = some (39, 7)) ∧
    ∃ t, exec (.stationWrite 1 39 ⟨none, none, none, none, none, some [8750, 9000]⟩) orphans = .next t ∧
      (t.sta.recAt 39).map StationRec.freqs = some [⟨8750, 0, 65535⟩, ⟨9000, 40, 0⟩] ∧ t.sta.reservation = none :=
  ⟨⟨_, rfl, by decide, by decide, by decide, by decide⟩, ⟨_, rfl, by decide, by decide⟩⟩

/-- Writes that R133 refuses: a list with a repeated, an outside and a second AM frequency, a new record without a band, a change of
band without a list, and a second record of one code or of one first frequency. -/
theorem witness_StationWritesAndDeletes_refuses :
    let coded : State := { listed with sta := { listed.sta with slots := listed.sta.slots.set 38 ⟨some { someRecord with code := 9 }, 1⟩ } }
    listed.sta.prepare 0 { newFields with freqs := some [8750, 8751] } = .error .range ∧
    listed.sta.prepare 0 { newFields with freqs := some [8749] } = .error .range ∧
    listed.sta.prepare 0 { newFields with band := some 1, freqs := some [530, 539] } = .error .range ∧
    listed.sta.prepare 0 { newFields with band := none } = .error .range ∧
    listed.sta.prepare 39 ⟨some 1, none, none, none, none, none⟩ = .error .range ∧
    listed.sta.prepare 0 { newFields with freqs := some [9002] } = .error .inUse ∧
    coded.sta.prepare 0 { newFields with code := some 9 } = .error .inUse := by decide

theorem witness_PresetsAgesAndScanSettings :
    Serves listed ∧ 11 < listed.sta.presets.length ∧ listed.sta.slots[39]? = some ⟨some someRecord, 7⟩ ∧
    someRecord.preset = some 3 ∧ 3 ≠ 11 ∧ 3 < listed.sta.presets.length ∧ listed.port.op = .run :=
  ⟨⟨rfl, rfl⟩, by decide⟩

theorem witness_PresetsAgesAndScanSettings_refuses :
    Serves listed ∧ listed.sta.presets.length = 12 ∧ listed.sta.slots.length = 40 ∧ 11 < 12 ∧ 39 < 40 ∧
    listed.sta.slots[0]? = some ⟨none, 0⟩ := ⟨⟨rfl, rfl⟩, by decide⟩

/-- The interval timer has run out; `q` is P1's quality, and `on` the scan enable. -/
def scanDue (on : Bool) (check : Option AfCheck) : State :=
  let s := onPath .p1 (fun x => { x with q := 60 }) front
  { s with
    tun := { s.tun with flags := ⟨false, on, true, false⟩, check := check }
    scan := { s.scan with timer := some 0 } }

/-- A window whose visit is at a stage, P2 LOCKED at the cursor with a code. -/
def visiting (v : Visit) (left : Nat) : State :=
  let s := onPath .p2 (fun x => { x with
    state := .locked, role := .scan, station := ⟨.fm, 10800⟩, decoded := { x.decoded with code := some 77 } }) (scanDue true none)
  { s with scan := { s.scan with timer := none, cursor := 10800, window := some ⟨left, v⟩ } }

theorem witness_ScanWindowsVisitTheBand :
    (scanDue false none).port.op = .run ∧ (scanDue false none).scan.timer = some 0 ∧ (scanDue false none).scan.window = none ∧
    (scanDue false none).scanAllowed = false ∧ (scanDue true none).scanAllowed = true ∧
    (scanDue true (some ⟨[], [9000], 20, none⟩)).scanAllowed = true ∧ (scanDue true none).tun.check = none ∧
    (scanDue true none).entSource .rearL ≠ some .radio2 ∧ (scanDue true none).entSource .rearR ≠ some .radio2 ∧
    (visiting (.named 0 35) 300).scan.window = some ⟨300, .named 0 35⟩ ∧ ((visiting (.named 0 35) 300).path .p2).state = .locked ∧
    ((visiting (.named 0 35) 300).path .p2).station = ⟨.fm, (visiting (.named 0 35) 300).scan.cursor⟩ ∧
    35 ≤ quality 33 1 1 ∧ quality 32 0 0 < 35 ∧
    (visiting (.dwell 0 40) 0).scan.window = some ⟨0, .dwell 0 40⟩ ∧ ((visiting (.dwell 9 40) 9).path .p2).decoded.code = some 77 ∧
    (visiting (.dwell 0 40) 0).sta.byCode 77 = none ∧ emptySlot 0 (visiting (.dwell 0 40) 0).sta.slots = some 0 ∧
    run.scan.timer ≠ some 0 ∧ run.scan.window = none := by decide

/-- The rows of R130's table: the code is held, is not admitted, or none was read and the frequency is, or is not, in a list. -/
theorem witness_ScanWindowsVisitTheBand_rows :
    let at_ : Option Nat → Option Nat → State := fun c p => onPath .p2 (fun x => { x with decoded := { x.decoded with code := c, pty := p } })
      (visiting (.dwell 0 40) 0)
    let holding : StationRec → State → State := fun r s => { s with sta := { s.sta with slots := s.sta.slots.set 5 ⟨some r, 0⟩ } }
    let shut : State → State := fun s => { s with sta := { s.sta with mask := 0 } }
    (holding { someRecord with code := 77 } (at_ (some 77) none)).sta.byCode 77 = some 5 ∧
    (shut (at_ (some 77) (some 10))).sta.mask.getLsbD 10 = false ∧ (at_ (some 77) none).sta.presets = List.replicate 12 none ∧
    (at_ none none).sta.byFreq .fm 10800 = none ∧
    (holding { someRecord with freqs := [⟨10800, 1, 7⟩] } (at_ none none)).sta.byFreq .fm 10800 = some 5 ∧
    (∃ t, exec .codeDwellEnd (holding { someRecord with code := 77 } (at_ (some 77) none)) = .next t ∧
      t.sta.recAt 5 = some { someRecord with code := 77, age := 0, freqs := [⟨9000, 40, 0⟩, ⟨10800, 40, 0⟩] }) ∧
    (∃ t, exec .codeDwellEnd (shut (at_ (some 77) (some 10))) = .next t ∧ t.sta.recAt 0 = none) ∧
    ∃ t, exec .codeDwellEnd (at_ none (some 10)) = .next t ∧
      t.sta.recAt 0 = some ⟨0, .fm, none, none, [⟨10800, 40, 0⟩], false, none, .scan, 0⟩ := by
  refine ⟨by decide, by decide, by decide, by decide, by decide, ⟨_, rfl, by decide⟩, ⟨_, rfl, by decide⟩, ⟨_, rfl, by decide⟩⟩

/-- R128: a window that waited begins, or is skipped, at the end of the check's last trial. -/
theorem witness_ScanWindowsVisitTheBand_waits :
    let waits : Bool → State := fun on => onPath .p1 (fun x => { x with q := 60 }) { trying 29 with
      tun := { (trying 29).tun with flags := ⟨false, on, true, false⟩ }, scan := { (trying 29).scan with waiting := true } }
    (waits true).port.op = .run ∧ (waits true).scan.waiting = true ∧ (waits true).scan.window = none ∧
    (waits true).tun.check = some ⟨[], [9000], 20, some ⟨9000, some 200, [29, 29, 29]⟩⟩ ∧ (waits true).tun.peek = none ∧
    ((waits true).path .p2).state = .locked ∧ [29, 29, 29].sum / max 1 3 < 20 + (waits true).tun.settings.afMargin ∧
    (waits true).entSource .rearL ≠ some .radio2 ∧ (waits true).entSource .rearR ≠ some .radio2 ∧
    (waits true).scan.permit ≤ ((waits true).path .p1).q ∧ (waits false).tun.flags.scan = false ∧
    (∃ t, exec .afTrialEnd (waits true) = .next t ∧ t.scan.window = some ⟨500, .named 25 35⟩ ∧ (t.path .p2).role = .scan) ∧
    ∃ t, exec .afTrialEnd (waits false) = .next t ∧ t.scan.window = none ∧ t.scan.timer = some 20000 := by
  refine ⟨by decide, by decide, by decide, by decide, by decide, by decide, by decide, by decide, by decide, by decide, by decide,
    ⟨_, rfl, by decide, by decide⟩, ⟨_, rfl, by decide, by decide⟩⟩

/-! ## Witnesses: calls and the echo canceller -/

/-- A call in a state and mode, with the route and canceller that go with it. -/
def calling (state : CallState) (mode : Zone) : State :=
  { readyClip with call := { readyClip.call with
      state := state
      mode := mode
      route := if state = .active then .call else .none
      echo := { readyClip.call.echo with state := if state = .active then .converged else .off, coeff := 5 } } }

/-- RING is PLAYING its one entry, and the control queue has room or is full. -/
def ringing (full : Bool) : State :=
  let s := onVoice .ring (fun r => { r with queue := [someEntry], state := .playing }) (calling .ringing .driver)
  if full then { s with voc := { s.voc with control := List.replicate 16 ⟨2, some .prompt, .played⟩ } } else s

theorem witness_CallCommandsMoveTheCall :
    Unlocked (calling .idle .cabin) ∧ zoneOf 3 = some .rearR ∧ 1 ≤ 1 ∧ 5000 ≤ 5000 ∧ (calling .idle .cabin).call.state = .idle ∧
    (calling .idle .cabin).placeRefusal .ring ⟨1, 2 ^ Zone.rearR.num, 0, 5000, 0, 0, 0⟩ = none ∧
    (calling .idle .cabin).placeRefusal .ring ⟨63, 2 ^ Zone.rearR.num, 0, 0, 0, 0, 0⟩ = some .state ∧ 63 < 64 ∧ 5000 < 5001 ∧
    (ringing false).call.state = .ringing ∧ (ringing false).flushOwes .ring ≤ (ringing false).room true ∧
    (ringing false).call.mode = .driver ∧ (ringing true).room true < (ringing true).flushOwes .ring ∧
    (calling .active .driver).call.state = .active ∧ (calling .active .driver).call.echo.state ≠ .off ∧
    (calling .held .rearL).call.state = .held ∧ (calling .held .rearL).call.echo.state = .off ∧
    (calling .held .rearL).call.mode ≠ .cabin ∧ (calling .active .driver).call.mode ≠ .cabin ∧ 3 < 4 :=
  ⟨⟨⟨rfl, rfl⟩, rfl⟩, by decide⟩

theorem witness_CallCommandsMoveTheCall_unlocked :
    Unlocked (ringing false) ∧ Unlocked (ringing true) ∧ Unlocked (calling .active .driver) ∧ Unlocked (calling .held .rearL) :=
  ⟨⟨⟨rfl, rfl⟩, rfl⟩, ⟨⟨rfl, rfl⟩, rfl⟩, ⟨⟨rfl, rfl⟩, rfl⟩, ⟨⟨rfl, rfl⟩, rfl⟩⟩

/-- R153: a RING behind an entry of the ring voice, and on an IDLE one; R164: MODE in an ACTIVE call, its canceller at work or OFF. -/
theorem witness_CallCommandsMoveTheCall_ring :
    let busy := onVoice .ring (fun r => { r with queue := [{ someEntry with clip := 2 }], state := .playing }) (calling .idle .cabin)
    (busy.voice .ring).state ≠ .idle ∧ busy.placeRefusal .ring ⟨1, 2 ^ Zone.rearR.num, 0, 9, 0, 0, 0⟩ = none ∧
    ((calling .idle .cabin).voice .ring).state = .idle ∧
    ({ calling .active .driver with call := { (calling .active .driver).call with echo := run.call.echo } } : State).call.echo.state = .off ∧
    (∃ t, exec (.callRing 1 3 1 9) busy = .next t ∧ (t.voice .ring).queue.tail =
      [⟨1, ⟨false, false, false, true⟩, 0, 9, 0, 0, 0, none⟩]) ∧
    ∃ t, exec (.callMode 1 2) (calling .active .cabin) = .next t ∧ t.call.echo.retained.get (calling .active .cabin).call.routeSet = some 5 ∧
      t.call.echo.coeff = 0 ∧ t.call.echo.state = .converging := by
  refine ⟨by decide, by decide, by decide, by decide, ⟨_, rfl, by decide⟩, ⟨_, rfl, by decide, by decide, by decide⟩⟩

/-- CABIN's take of another EQ preset and DRIVER's take wait. -/
def takesWait (s : State) : State :=
  { s with bank := { s.bank with
    staged := s.bank.staged.set .cabin { s.bank.staged.cabin with eqPreset := 15 }
    take := ⟨.deferred, .deferred, .idle, .idle⟩ } }

/-- R58: the hold of the ACTIVE call carries CABIN's take out. -/
theorem witness_CallCommandsMoveTheCall_takes :
    let s := takesWait (calling .active .driver)
    Unlocked s ∧ s.call.state = .active ∧ s.bank.take.get .cabin = .deferred ∧ s.bank.take.get .rearL ≠ .deferred ∧
    ∃ t, exec (.callHold 1) s = .next t ∧ t.bank.current.cabin.eqPreset = 15 ∧ t.bank.take = ⟨.idle, .idle, .idle, .idle⟩ :=
  ⟨⟨⟨rfl, rfl⟩, rfl⟩, rfl, rfl, by decide, ⟨_, rfl, by decide, by decide⟩⟩

theorem witness_CallSettingsAndMicrophones :
    Serves (calling .active .cabin) ∧ (calling .active .cabin).port.op = .run ∧ (calling .active .cabin).call.route ≠ .none ∧
    (calling .active .cabin).call.routeSet = .all ∧
    (⟨some (-80), some (-68), some (-69), none⟩ : PerMic Gain).get (calling .active .cabin).call.selected = some (-80) ∧
    (⟨some (-80), some (-68), some (-69), none⟩ : PerMic Gain).get .m2 = some (-68) ∧ (-80 : Int) + 12 ≤ -68 ∧
    (-69 : Int) < -80 + 12 ∧ (calling .held .cabin).call.route = .none ∧
    (∀ m g, (calling .held .cabin).call.noiseFloor.get m = some g → g ≤ 0) :=
  ⟨⟨rfl, rfl⟩, by decide, by decide, by decide, by decide, by decide, by decide, by decide, by decide, fun m g h => by
    have e : (calling .held .cabin).call.noiseFloor.get m = none := by cases m <;> decide
    rw [e] at h
    cases h⟩

/-- R160: in a FRONT route M3 at -40 and a mute M4 make NOISE (40 + 480)/2. -/
theorem test_noise_of_front :
    let s := calling .active .driver
    let u : State := { s with call := { s.call with routeSet := .front, noiseFloor := ⟨some 0, some 0, some (-40), none⟩ } }
    ∃ t, exec .noiseForming u = .next t ∧ t.call.noise = 260 := ⟨_, rfl, by decide⟩

/-- The canceller in a state, with a timer, an ERLE and a hang. -/
def cancelling (state : EchoState) (timer : Option Nat) (erle hang : Nat) : State :=
  let s := calling .active .cabin
  { s with call := { s.call with farActive := true, echo := { s.call.echo with
      state := state, timer := timer, earned := decide (timer = some 500), erle := erle, hang := hang } } }

theorem witness_EchoEstimatesMoveTheCanceller :
    (calling .held .cabin).call.echo.state = .off ∧ (cancelling .converging (some 490) 72 0).port.op = .run ∧
    (cancelling .converging (some 490) 72 0).call.echo.state = .converging ∧
    (cancelling .converging (some 490) 72 0).call.echo.timer = some 490 ∧
    (cancelling .converging (some 490) 72 0).call.echo.earned = false ∧
    (cancelling .converged none 72 0).call.echo.state = .converged ∧
    min 47 160 + 24 < (cancelling .converged none 72 0).call.echo.tc ∧ (cancelling .converged none 72 0).call.echo.tc ≤ min 48 160 + 24 ∧
    (cancelling .frozen none 72 149).call.echo.state = .frozen ∧ (cancelling .frozen none 72 149).call.echo.hang < 150 ∧
    (cancelling .converging (some 500) 72 0).call.echo.state = .converging ∧
    (cancelling .converging (some 500) 72 0).call.echo.earned = true ∧
    150 ≤ (cancelling .frozen none 72 150).call.echo.hang ∧
    (cancelling .frozen none 72 150).call.echo.prior = .converging := by decide

/-- Silence, and a full-scale square wave, on the two sides of -200 qdB; samples of a whole frame. -/
theorem witness_UplinkAndFarEnd :
    run.port.op = .run ∧ (List.replicate 16 (0 : Int)).length = 16 ∧ (calling .active .cabin).call.route = .call ∧
    run.call.route = .none ∧ (0 : Nat) * 10 ^ 5 ≤ 160 * 2 ^ 46 ∧ (160 * 2 ^ 46) ^ 40 ≤ (160 * 2 ^ 46) ^ 40 * 10 ^ 199 ∧
    (cancelling .frozen none 72 0).call.echo.state ≠ .off ∧ (cancelling .frozen none 72 0).call.echo.state ≠ .converging := by
  decide +kernel

/-! ## Witnesses: the vehicle link and override -/

theorem witness_VehicleFormsArePrivileged :
    Serves overriding ∧ State.reset.port.op = .startup ∧ State.reset.port.resetPending = false ∧ Unlocked run :=
  ⟨overriding_serves, rfl, rfl, run_unlocked⟩

/-- CHIME is PLAYING its one entry and the vehicle queue is full; the port awaits a CHIME_DONE. -/
def chiming (full : Bool) : State :=
  let s := onVoice .chime (fun r => { r with queue := [someEntry], state := .playing }) run
  if full then { s with
    voc := { s.voc with vehicle := List.replicate 8 ⟨2, some .chime, .played⟩ }
    veh := { s.veh with chimeDone := some ⟨2, some .chime, .played⟩, statusTimer := some 0, age := 999 } } else s

theorem witness_VehicleRecordsAndReports :
    Serves run ∧ Serves chimeable ∧ 1000 ≤ run.veh.age ∧ (chiming true).veh.age < 1000 ∧
    chimeable.placeRefusal .chime ⟨1, 15, min 15 15, 5000, 0, 0, 0⟩ = none ∧
    chimeable.placeRefusal .chime ⟨1, 16, min 15 15, 0, 0, 0, 0⟩ = some .range ∧
    (chiming false).flushOwes .chime ≤ (chiming false).room false ∧ (chiming true).room false < (chiming true).flushOwes .chime ∧
    (⟨4, false, false, []⟩ : VehicleFrame).id > run.veh.base + 3 ∧ (⟨0, true, false, [0, 0]⟩ : VehicleFrame).extended = true ∧
    (chiming true).veh.statusTimer = some 0 ∧ (chiming true).veh.chimeDone = some ⟨2, some .chime, .played⟩ ∧
    (chiming true).voc.vehicleWaiters = [] ∧ run.veh.status = none ∧ run.veh.chimeDone = none ∧ run.veh.statusTimer ≠ some 0 ∧
    ({ run with veh := { run.veh with status := some run.statusNow } } : State).veh.status = some run.statusNow :=
  ⟨run_serves, ⟨rfl, rfl⟩, by decide +kernel⟩

theorem witness_OverrideEntersAndLeaves :
    Serves (calling .active .driver) ∧ (calling .active .driver).veh.override = false ∧ Serves overriding ∧
    overriding.veh.override = true ∧ overriding.call.savedTag ≠ some .active ∧
    { overriding with call := { overriding.call with state := .held, savedTag := some .active } }.call.savedTag = some .active ∧
    { overriding with call := { overriding.call with state := .held, savedTag := some .active } }.call.state = .held :=
  ⟨⟨rfl, rfl⟩, by decide, overriding_serves, by decide⟩

/-- R58, R176: at an exit that resumes the call, CABIN's take goes on waiting and DRIVER's is carried out; with DROP both are. -/
theorem witness_OverrideEntersAndLeaves_takes :
    let s : State := takesWait { overriding with call := { overriding.call with state := .held, savedTag := some .active } }
    Serves s ∧ s.veh.override = true ∧ s.bank.take.get .cabin = .deferred ∧
    s.bank.staged.cabin.eqPreset ≠ s.bank.current.cabin.eqPreset ∧
    (∃ t, exec .overrideExitResume s = .next t ∧ t.call.state = .active ∧ t.bank.take = ⟨.deferred, .idle, .idle, .idle⟩ ∧
      t.bank.current.cabin.eqPreset = 0) ∧
    ∃ t, exec .overrideExitDrop s = .next t ∧ t.bank.take = ⟨.idle, .idle, .idle, .idle⟩ ∧ t.bank.current.cabin.eqPreset = 15 :=
  ⟨⟨rfl, rfl⟩, rfl, rfl, by decide, ⟨_, rfl, by decide +kernel, by decide +kernel, by decide +kernel⟩, ⟨_, rfl, by decide +kernel, by decide +kernel⟩⟩

/-! ## Witnesses: watches and reports -/

/-- A fire is owed, and a take of CABIN is or is not already ordered. -/
def firing (a : WatchAction) (take : TakeState) (s : State) : State :=
  { s with wat := { s.wat with owed := [(15, a)] }, bank := { s.bank with take := s.bank.take.set .cabin take } }

theorem witness_WatchRequestsAndFires :
    Serves run ∧ (∀ a, (15, a) ∉ run.wat.owed) ∧ 15 ≤ 15 ∧ quantityOf (.volume 3 2) = some (.volume .rearR .call) ∧
    -32768 ≤ (32767 : Int) ∧ (32767 : Int) ≤ 32767 ∧ 1 ≤ 255 ∧ 255 ≤ 255 ∧ actionOf (.take 3) = some (.take .rearR) ∧ 15 < 16 ∧
    255 < 256 ∧ (firing .notify .idle run).port.op = .run ∧ (firing .notify .idle run).wat.owed = (15, .notify) :: [] ∧
    (firing (.release .cabin) .deferred run).wat.owed = (15, .release .cabin) :: [] ∧
    (firing (.release .cabin) .deferred run).bank.take.get .cabin ≠ .holding ∧
    (firing (.take .cabin) .holding run).bank.take.get .cabin ≠ .idle := by
  refine ⟨run_serves, fun a => ?_, ?_⟩
  · simp [run, State.reset, Watches.reset]
  · decide

/-- A TAKE on an IDLE zone and a RELEASE on a HOLDING one: made at once in RUN, and waiting in override and in an ACTIVE call whose EQ
preset they would change. -/
theorem witness_WatchRequestsAndFires_waits :
    let call : State := { calling .active .cabin with bank := { run.bank with
      staged := run.bank.staged.set .cabin { run.bank.staged.cabin with eqPreset := 15 } } }
    (firing (.take .cabin) .idle run).wat.owed = (15, .take .cabin) :: [] ∧
    (firing (.take .cabin) .idle run).bank.take.get .cabin = .idle ∧
    (firing (.release .cabin) .holding run).wat.owed = (15, .release .cabin) :: [] ∧
    (firing (.release .cabin) .holding run).bank.take.get .cabin = .holding ∧
    run.veh.override = false ∧ run.call.state ≠ .active ∧ overriding.veh.override = true ∧ call.call.state = .active ∧
    call.bank.staged.cabin.eqPreset ≠ call.bank.current.cabin.eqPreset := by decide

theorem witness_DeliveriesEvaluateWatches :
    let w : Watch := ⟨.speed, 100, .ge, 2, .edge, .notify, 1, true, none, none⟩
    ({ slots := [some w], owed := [] } : Watches).slots[0]? = some (some w) ∧ condHolds w.cond 99 w.threshold = false ∧
    condHolds w.cond 100 w.threshold = true ∧ w.hold ≤ w.count + 1 ∧ ({ w with count := 0 } : Watch).count + 1 < w.hold ∧
    ({ w with armed := false } : Watch).armed = false ∧ -32768 ≤ (-32768 : Int) ∧ (32767 : Int) ≤ 32767 := by decide

theorem witness_QueriesReportWhatIsHeld :
    Serves listed ∧ zoneOf 3 = some .rearR ∧ sourceOf 11 = some .telem ∧ 1 ≤ 63 ∧ 63 ≤ 63 ∧ voiceOf 3 = some .ring ∧
    11 < listed.sta.presets.length ∧
    { run with traf := { run.traf with capture := .recording .p2 63 } }.traf.capture = .recording .p2 63 ∧
    (calling .active .cabin).call.route ≠ .none ∧ (calling .active .cabin).call.routeSet = .all ∧ 15 ≤ 15 ∧ 39 ≤ 39 ∧
    listed.sta.slots[39]? = some ⟨some someRecord, 7⟩ := ⟨⟨rfl, rfl⟩, by decide⟩

/-- A line of ZONE.LEVELS on a loudspeaker channel of the map, and on a headphone channel. -/
theorem witness_QueriesReportWhatIsHeld_levels :
    (ducked.bank.channels .cabin)[14]? = some 14 ∧ ducked.bank.map[14]? = some ⟨.r, .l, -6, 4096, 1024, 0⟩ ∧
    ducked.rend.thermal[14]? = some ⟨0, 2, 0⟩ ∧ (ducked.bank.channels .rearR)[1]? = some 1 ∧ Zone.rearR.rear = true := by decide

/-! ## One step of a few commands, against the manual's words -/

/-- R192: a record with a name, a program type, a preset and two frequencies, byte for byte. -/
theorem test_record_bytes :
    recordBytes 39 0x1234 ⟨0xABCD, .fm, some [65, 66], some 10, [⟨10100, 45, 0⟩, ⟨8750, 0, 65535⟩], true, some 11, .host, 258⟩ =
      [0, 39, 0x12, 0x34, 0xAB, 0xCD, 0, 0x2F, 10, 11, 1, 2, 2, 65, 66, 0, 0, 0, 0, 0, 0, 2, 0x27, 0x74, 45, 0, 0, 0x22, 0x2E, 0, 0xFF,
        0xFF] := by decide

/-- R24: the step as set, clamped; R187: NOT_STARTED before SYS.START. -/
theorem test_zone_volume :
    (∃ t, exec (.zoneVolume 9 3 1 64) run = .next t ∧ t.rend.volume.rearR = ⟨0, 63, 0⟩ ∧
      t.port.lastReply = some ⟨0x13, 9, .done (.volume 63 true)⟩) ∧
    ∃ t, exec (.zoneVolume 9 3 1 5) State.reset = .next t ∧ t.rend.volume.rearR = ⟨0, 0, 0⟩ ∧
      t.port.lastReply = some ⟨0x13, 9, .refused .notStarted []⟩ :=
  ⟨⟨_, rfl, by decide, by decide⟩, ⟨_, rfl, by decide, by decide⟩⟩

/-- Section 4.11: a write past the pages keeps what fits and reports the overflow. -/
theorem test_pool_write_overflow :
    ∃ t, exec (.poolWrite 1 (List.replicate 12 0x1234)) filling = .next t ∧ (t.pool.clip 1).fill = 2048 ∧
      t.pool.cursor = ⟨1, 2048, .write⟩ ∧ Memory.read t.pool.mem (7 * 1024 + 1023) = 0x1234 ∧
      t.port.lastReply = some ⟨0x34, 1, .done (.written 8 2048 true false)⟩ :=
  ⟨_, rfl, by decide +kernel, by decide +kernel, by decide +kernel, by decide +kernel⟩

/-- R132: the one occupied slot is listed from any slot up to its own. -/
theorem test_station_list :
    let line : ListLine := ⟨39, 0, .fm, some 9000, none, some 3⟩
    ∃ t, exec (.stationList 1 39) listed = .next t ∧ t.port.lastReply = some ⟨0x60, 1, .done (.stationList [line] none)⟩ :=
  ⟨_, rfl, by decide⟩

/-- R20: a claim is reported without its arrival sequence, and a duck's depth with its state. -/
theorem test_zone_status :
    ∃ t, exec (.zoneStatus 1 0) ducked = .next t ∧ t.port.lastReply =
      some ⟨0x12, 1, .done (.zoneStatus [⟨.radio1, .entertainment, .ducked 40, false, false⟩] none 0 false)⟩ := ⟨_, rfl, by decide⟩

/-- R191: a SPEED record above 300 is held at 300. -/
theorem test_speed : ∃ t, exec (.speed 301) run = .next t ∧ t.veh.speed = 300 ∧ t.veh.age = 0 ∧ t.veh.stale = false :=
  ⟨_, rfl, by decide, by decide, by decide⟩

end Sys2Proof.Tests
end

section
/-! SUPPORT. What a command can do, once for all (StepTakesTheFrontCommand's step, arm by arm): every command's effect is a chain of
named moves, so that a property that each move keeps is kept by every step. -/

namespace Sys2Proof.Machine

/-- One move of the part: the effect of a command on the state it finds, the taking and the reply of a request apart, which are moves of
the control port. -/
inductive Move : State → State → Prop
  | port (s : State) (f : Port → Port) : Move s (s.mapPort f)
  | coldReset (s : State) : Move s s.coldReset
  | warmReset (s : State) : Move s s.warmReset
  | loadTable {s t : State} {table : Nat} {bytes : List Byte} (h : s.loadTable table bytes = some t) : Move s t
  | start (s : State) : Move s s.start
  -- zones and claims
  | selectEnt (s : State) (z : Zone) {n : Nat} {src : Option Source} (h : selectOf z n = some src) : Move s (s.selectEnt z src)
  | setRow (s : State) (z : Zone) (row : Nat) (e : Effect) : Move s (s.setRow z row e)
  | yieldExpired (s : State) (z : Zone) : Move s (s.yieldExpired z)
  -- the renderer
  | setStep (s : State) (z : Zone) (k : Kind) (step : Nat) : Move s (s.setStep z k (min step 63))
  | setTrim (s : State) (z : Zone) (src : Source) (v : Int) : Move s (s.setTrim z src (clampInt (-48) 24 v))
  | renderStep (s : State) (inp : FrameInput) : Move s (s.renderStep inp)
  | coolFall (s : State) (k : Nat) : Move s (s.coolFall k)
  -- profiles
  | stage (s : State) (z : Zone) (l : List (ProfileField × Int)) (h : l.any (fun x => valueRefused x.1 x.2) = false) : Move s (s.stage z l)
  | takeCopy (s : State) (z : Zone) : Move s (s.takeCopy z)
  | setTake (s : State) (z : Zone) (t : TakeState) : Move s (s.setTake z t)
  | discard (s : State) (z : Zone) : Move s (s.discard z)
  -- the clip pool
  | grant {s : State} {c : Nat} (n rate : Nat) (o : LinkOwner) (auto : Bool) (h : s.pool.lowestFree = some c) :
      Move s ((s.mapPool (·.grant c n rate (ownerOf o) .filling auto)).deliverFree s.pool.freeCount)
  | setSlot (s : State) (o : LinkOwner) (x : Slot) : Move s (s.mapPool (·.setSlot o x))
  | collectSlots (s : State) :
      Move s (s.mapPool (fun p => { p with vehicleSlot := p.vehicleSlot.collect, controlSlot := p.controlSlot.collect }))
  | setCursor (s : State) (c : Cursor) : Move s (s.mapPool (fun p => { p with cursor := c }))
  | writeSamples (s : State) (l : List Sample) : Move s (s.writeSamples l)
  | sealClip (s : State) (clip len : Nat) : Move s (s.seal clip len)
  | freeClip (s : State) (clip : Nat) : Move s (s.freeClip clip)
  -- voices
  | place {s t : State} {v : Voice} {p : Placing} (h : s.place v p = .ok t) : Move s t
  | takeCompletions (s : State) : Move s s.takeCompletions
  | flush {s : State} {v : Voice} {r : State × Nat × Nat × Nat} (h : s.flush v = .ok r) : Move s r.1
  | conclude (s : State) (v : Voice) (o : CompStatus) : Move s (s.conclude v o)
  | startFade (s : State) (v : Voice) : Move s (s.startFade v)
  | expire (s : State) (v : Voice) : Move s (s.expire v)
  | endGap (s : State) (v : Voice) : Move s (s.endGap v)
  | endFade (s : State) (v : Voice) : Move s (s.endFade v)
  -- tuner paths
  | frontTune (s : State) (st : Station) : Move s (s.frontTune st)
  | rearTune {s t : State} {z : Zone} {st : Station} (h : s.rearTune z st = .ok t) : Move s t
  | setFlags (s : State) (f : TunerFlags) : Move s (s.setFlags f)
  | setTuner (s : State) {t : TunerSettings} (h : t.afThreshold ≤ 100 ∧ (500 ≤ t.afHold ∧ t.afHold ≤ 10000) ∧ t.afMargin ≤ 50 ∧
      t.seekThreshold ≤ 100) : Move s (s.mapTun (fun u => { u with settings := t }))
  | enterSeek (s : State) (d : SeekDir) : Move s (s.enterSeek d)
  | fadeDone (s : State) (p : Path) : Move s (s.fadeDone p)
  | confirmed (s : State) (p : Path) (st : Station) : Move s (s.confirmed p st)
  | unconfirmed (s : State) (p : Path) : Move s (s.unconfirmed p)
  | settled (s : State) (p : Path) : Move s (s.settled p)
  | retryTune (s : State) (p : Path) : Move s (s.retryTune p)
  | measure (s : State) (p : Path) (fs mp adj : Nat) : Move s (s.measure p fs mp adj)
  | decodeItem (s : State) (p : Path) (item : DecodedItem) : Move s (s.decodeItem p item)
  | seekMeasure (s : State) (fs mp adj : Nat) : Move s (s.seekMeasure fs mp adj)
  | checkBegin (s : State) : Move s s.checkBegin
  | trialEnd (s : State) : Move s s.trialEnd
  | peekBegin (s : State) : Move s s.peekBegin
  | peekCommand (s : State) : Move s s.peekCommand
  | peekMeasure (s : State) (fs mp adj : Nat) : Move s (s.peekMeasure fs mp adj)
  | peekEnd (s : State) : Move s s.peekEnd
  -- the station table and the scan
  | countDevice (old s : State) : Move s (State.countDevice old s)
  | countHost (old s : State) : Move s (State.countHost old s)
  | setReservation (s : State) (r : Option (Nat × BitVec 16)) : Move s (s.mapSta (fun t => { t with reservation := r }))
  | writeRecord (s : State) (slot : Nat) (r : StationRec) (enters : Bool) : Move s (s.writeRecord slot r enters)
  | leave (s : State) (slot : Nat) : Move s (s.mapSta (·.leave slot))
  | assign (s : State) (preset slot : Nat) (r : StationRec) : Move s (s.mapSta (·.assign preset slot r))
  | clearPreset (s : State) (preset : Nat) : Move s (s.mapSta (fun t => (t.unlink preset).mapPreset preset (fun _ => none)))
  | setMask (s : State) (m : BitVec 32) : Move s (s.mapSta (fun t => { t with mask := m }))
  | agesRise (s : State) : Move s s.agesRise
  | setScan (s : State) (interval permit : Nat) :
      Move s (s.mapScan (fun c => { c with interval := clampNat 2 60 interval, permit := min permit 100 }))
  | setAdmitQ (s : State) (q : Nat) : Move s (s.mapSta (fun t => { t with admitQ := min q 100 }))
  | scanDue (s : State) : Move s s.scanDue
  | visitMeasure (s : State) (fs mp adj : Nat) : Move s (s.visitMeasure fs mp adj)
  | dwellEnd (s : State) : Move s s.dwellEnd
  | windowEnd (s : State) : Move s s.windowEnd
  -- announcements
  | endAnn (s : State) (p : Path) : Move s (s.endAnn p)
  | ageLimit (s : State) (p : Path) : Move s (s.ageLimit p)
  -- calls and the canceller
  | startRinging {s : State} (mode : Zone) (clip : Nat) (h : s.call.state = .idle) : Move s (s.startRinging mode clip)
  | answer {s : State} (h : ¬ (s.call.state = .active ∨ s.call.state = .held)) : Move s s.answer
  | callHeld {s : State} (h : s.call.state = .active) : Move s s.callHeld
  | callEnter {s : State} (h : s.call.state = .held) : Move s s.callEnter
  | endCall (s : State) : Move s s.endCall
  | moveCall (s : State) (mode : Zone) : Move s (s.moveCall mode)
  | setTrims (s : State) (down up : Int) : Move s (s.setTrims (clampInt (-48) 24 down) (clampInt (-48) 24 up))
  | setThresholds (s : State) (tc tt : Nat) : Move s (s.setThresholds (clampNat 24 160 tc) (clampNat 100 200 tt))
  | levels (s : State) (speech floor : PerMic Gain) : Move s (s.mapCall (fun c => c.levels speech floor))
  | formNoise (s : State) : Move s s.formNoise
  | echoEstimate (s : State) (erle : Nat) (dt : Bool) : Move s (s.echoEstimate erle dt)
  | converge (s : State) : Move s (s.setEcho s.call.echo.converge)
  | thaw (s : State) : Move s (s.setEcho s.call.echo.thaw)
  -- the vehicle port
  | vehicleRecord (s : State) (r : VehicleRecord) : Move s (s.vehicleRecord r)
  | goStale (s : State) : Move s s.goStale
  | buildStatus (s : State) : Move s s.buildStatus
  | sendStatus (s : State) : Move s s.sendStatus
  | sendChimeDone (s : State) : Move s s.sendChimeDone
  -- watches
  | setWatch (s : State) (slot : Nat) (w : Option Watch) : Move s (s.setWatch slot w)
  | watchFire (s : State) (slot : Nat) : Move s (s.watchFire slot)

/-- A chain of moves. -/
abbrev Moves : State → State → Prop := Relation.ReflTransGen Move

/-- What one move keeps, a chain of them keeps. -/
theorem Moves.keep {P : State → Prop} (hP : ∀ s t, Move s t → P s → P t) {s t : State} (h : Moves s t) (hs : P s) : P t := by
  induction h with
  | refl => exact hs
  | tail _ hm ih => exact hP _ _ hm ih

theorem Move.then {s t u : State} (h : Move s t) (h' : Move t u) : Moves s u := .tail (.single h) h'

/-- An outcome that is a next state, reached by a chain of moves. -/
def MovesTo (s : State) (o : Out) : Prop := ∃ t, o = .next t ∧ Moves s t

theorem movesTo_next {s t : State} (h : Moves s t) : MovesTo s (.next t) := ⟨t, rfl, h⟩

/-- An event that acts where it is due, and else leaves the state as it was. -/
theorem movesTo_when {s t : State} {c : Prop} [Decidable c] (h : Moves s t) : MovesTo s (.next (if c then t else s)) := by
  split
  · exact movesTo_next h
  · exact movesTo_next .refl

@[simp] theorem refuse_snd (c : RefCode) (s : State) : (refuse c s).2 = s := rfl
@[simp] theorem report_snd (r : Result) (s : State) : (report r s).2 = s := rfl

/-- A request taken for service: its own moves stand between the taking and the reply. -/
theorem movesTo_serve {cls verb : Nat} {q : Byte} {g : Gate} {s : State} {body : State → Reply × State}
    (hb : ∀ u, Moves u (body u).2) : MovesTo s (serve cls verb q g s body) := by
  have taken : Moves s s.taking := .single (.port s _)
  rcases serve_cases cls verb q g s body with ⟨-, h⟩ | ⟨-, c, -, h⟩ | ⟨-, -, h⟩ <;> rw [h]
  · exact movesTo_next .refl
  · exact movesTo_next (taken.tail (.port _ _))
  · exact movesTo_next ((taken.trans (hb _)).tail (.port _ _))

end Sys2Proof.Machine
end

section
namespace Sys2Proof.Machine

/-! ## The control port and the tables -/

/-- A request that only reports. -/
theorem movesTo_query {cls verb : Nat} {q : Byte} {g : Gate} {s : State} {body : State → Reply × State}
    (hb : ∀ u, (body u).2 = u) : MovesTo s (serve cls verb q g s body) :=
  movesTo_serve fun u => by rw [hb u]

/-- An event that acts in RUN with one move. -/
theorem movesTo_event {s t : State} {c : Prop} [Decidable c] (h : Move s t) : MovesTo s (.next (if c then t else s)) :=
  movesTo_when (.single h)

/-- An event that acts in RUN with one move, whose changes of the station table are then counted. -/
theorem movesTo_counted {s t : State} {c : Prop} [Decidable c] (h : Move s t) :
    MovesTo s (.next (if c then State.countDevice s t else s)) :=
  movesTo_when (h.then (.countDevice s t))

@[simp] theorem execColdReset_moves (s : State) : MovesTo s (execColdReset s) := movesTo_next (.single (.coldReset s))

@[simp] theorem execWarmReset_moves (s : State) : MovesTo s (execWarmReset s) := movesTo_event (.warmReset s)

@[simp] theorem execFrameReceived_moves (bytes : List Byte) (s : State) : MovesTo s (execFrameReceived bytes s) :=
  movesTo_next (.single (.port s _))

@[simp] theorem execFrameGapTimeout_moves (s : State) : MovesTo s (execFrameGapTimeout s) := movesTo_next (.single (.port s _))

@[simp] theorem execUnknownRequest_moves (code q : Byte) (n : Nat) (s : State) : MovesTo s (execUnknownRequest code q n s) := by
  have refused (r : Reply) : Moves s (s.taking.reply code q r) := (Move.port s _).then (.port _ _)
  unfold execUnknownRequest
  (repeat' split) <;> simp only [movesTo_next, refused, Relation.ReflTransGen.refl]

@[simp] theorem execSysIdentify_moves (q : Byte) (s : State) : MovesTo s (execSysIdentify q s) := movesTo_query fun _ => rfl

theorem State.setAssembly_moves (s : State) (a : Option (Nat × List Byte)) : Moves s (s.setAssembly a) := .single (.port s _)

theorem State.completeTable_moves (s : State) (table : Nat) (bytes : List Byte) : Moves s (s.completeTable table bytes).2 := by
  unfold State.completeTable
  dsimp only
  split
  · rename_i h; exact (s.setAssembly_moves none).tail (.loadTable h)
  · exact s.setAssembly_moves none

@[simp] theorem execSysLoadTableOnly_moves (q : Byte) (table : Nat) (bytes : List Byte) (s : State) :
    MovesTo s (execSysLoadTableOnly q table bytes s) := by
  refine movesTo_serve fun u => ?_
  split
  · exact .refl
  · split
    · exact u.completeTable_moves table bytes
    · exact u.setAssembly_moves none

@[simp] theorem execSysLoadTableFirst_moves (q : Byte) (table : Nat) (bytes : List Byte) (s : State) :
    MovesTo s (execSysLoadTableFirst q table bytes s) := by
  refine movesTo_serve fun u => ?_
  split
  · exact .refl
  · split <;> exact u.setAssembly_moves _

@[simp] theorem execSysLoadTableMore_moves (q : Byte) (table : Nat) (bytes : List Byte) (s : State) :
    MovesTo s (execSysLoadTableMore q table bytes s) := by
  refine movesTo_serve fun u => ?_
  split
  · exact .refl
  · split
    · exact .refl
    · split <;> exact u.setAssembly_moves _

@[simp] theorem execSysLoadTableLast_moves (q : Byte) (table : Nat) (bytes : List Byte) (s : State) :
    MovesTo s (execSysLoadTableLast q table bytes s) := by
  refine movesTo_serve fun u => ?_
  split
  · exact .refl
  · split
    · exact .refl
    · split
      · exact u.completeTable_moves _ _
      · exact u.setAssembly_moves none

@[simp] theorem execSysStart_moves (q : Byte) (s : State) : MovesTo s (execSysStart q s) := by
  refine movesTo_serve fun u => ?_
  split
  · exact .refl
  · split
    · exact .single (.start u)
    · exact .refl

@[simp] theorem execSysReset_moves (q : Byte) (s : State) : MovesTo s (execSysReset q s) :=
  movesTo_serve fun u => .single (.port u fun p => { p with resetPending := true })

@[simp] theorem execSysNoticeMask_moves (q : Byte) (op : Option SetOp) (flags : BitVec 64) (s : State) :
    MovesTo s (execSysNoticeMask q op flags s) := by
  refine movesTo_serve fun u => ?_
  split
  · exact .refl
  · dsimp only
    split
    · exact .single (.port u (·.editMask _ flags))
    · exact .refl

theorem State.acknowledge_moves (s : State) (named : BitVec 64) : Moves s (s.acknowledge named) := by
  unfold State.acknowledge
  dsimp only
  split
  · exact (Move.port s _).then (.port _ _)
  · exact .single (.port s _)

@[simp] theorem execSysNoticeAck_moves (q : Byte) (flags : BitVec 64) (s : State) : MovesTo s (execSysNoticeAck q flags s) := by
  refine movesTo_serve fun u => ?_
  split
  · exact u.acknowledge_moves flags
  · exact .refl

@[simp] theorem execNoticeFrameSent_moves (s : State) : MovesTo s (execNoticeFrameSent s) := movesTo_next (.single (.port s _))

@[simp] theorem execReplyFrameSent_moves (s : State) : MovesTo s (execReplyFrameSent s) := movesTo_next (.single (.port s _))

/-! ## Zones, levels and profiles -/

@[simp] theorem execZoneSelect_moves (q : Byte) (m n : Nat) (s : State) : MovesTo s (execZoneSelect q m n s) := by
  refine movesTo_serve fun u => ?_
  split
  · exact .refl
  · split
    · exact .refl
    · rename_i h; exact (Move.selectEnt u _ h).then (.countDevice u _)

@[simp] theorem execZonePolicy_moves (q : Byte) (m row : Nat) (e : Option EffectName) (depth : Nat) (s : State) :
    MovesTo s (execZonePolicy q m row e depth s) := by
  refine movesTo_serve fun u => ?_
  split
  · exact .refl
  · split
    · rw [report_snd]
      split
      · exact .refl
      · exact .single (.setRow u _ _ _)
    · exact .refl

@[simp] theorem execZoneStatus_moves (q : Byte) (m : Nat) (s : State) : MovesTo s (execZoneStatus q m s) :=
  movesTo_query fun _ => by split <;> rfl

@[simp] theorem execZoneVolume_moves (q : Byte) (m k n : Nat) (s : State) : MovesTo s (execZoneVolume q m k n s) := by
  refine movesTo_serve fun u => ?_
  split
  · exact .single (.setStep u _ _ _)
  · exact .refl

@[simp] theorem execZoneTrim_moves (q : Byte) (m n : Nat) (v : Int) (s : State) : MovesTo s (execZoneTrim q m n v s) := by
  refine movesTo_serve fun u => ?_
  split
  · exact .single (.setTrim u _ _ _)
  · exact .refl

@[simp] theorem execZoneLevels_moves (q : Byte) (m n : Nat) (s : State) : MovesTo s (execZoneLevels q m n s) :=
  movesTo_query fun _ => by split <;> rfl

@[simp] theorem execYieldExpiry_moves (z : Zone) (s : State) : MovesTo s (execYieldExpiry z s) := movesTo_event (.yieldExpired s z)

@[simp] theorem execRenderFrame_moves (inp : FrameInput) (s : State) : MovesTo s (execRenderFrame inp s) :=
  movesTo_event (.renderStep s inp)

@[simp] theorem execCoolCountExpiry_moves (k : Nat) (s : State) : MovesTo s (execCoolCountExpiry k s) := movesTo_event (.coolFall s k)

@[simp] theorem execProfileStage_moves (q : Byte) (m : Nat) (fields : List (Option ProfileField × Int)) (s : State) :
    MovesTo s (execProfileStage q m fields s) := by
  unfold execProfileStage
  split
  · exact movesTo_query fun _ => rfl
  · refine movesTo_serve fun u => ?_
    split
    · split
      · exact .refl
      · rename_i h; exact .single (.stage u _ _ (by simpa using (not_or.mp h).2))
    · exact .refl

@[simp] theorem execProfileRead_moves (q : Byte) (m : Nat) (c : Option ProfileCopy) (s : State) :
    MovesTo s (execProfileRead q m c s) := movesTo_query fun _ => by split <;> rfl

@[simp] theorem execProfileTakeNow_moves (q : Byte) (m : Nat) (b : Bool) (s : State) : MovesTo s (execProfileTakeNow q m b s) := by
  refine movesTo_serve fun u => ?_
  split
  · exact .single (.takeCopy u _)
  · exact .refl

@[simp] theorem execProfileTakeHold_moves (q : Byte) (m : Nat) (s : State) : MovesTo s (execProfileTakeHold q m s) := by
  refine movesTo_serve fun u => ?_
  split
  · exact .single (.setTake u _ _)
  · exact .refl

@[simp] theorem execProfileRelease_moves (q : Byte) (m : Nat) (s : State) : MovesTo s (execProfileRelease q m s) := by
  refine movesTo_serve fun u => ?_
  split
  · split
    · exact .single (.takeCopy u _)
    · exact .refl
  · exact .refl

@[simp] theorem execProfileDiscard_moves (q : Byte) (m : Nat) (s : State) : MovesTo s (execProfileDiscard q m s) := by
  refine movesTo_serve fun u => ?_
  split
  · exact .single (.discard u _)
  · exact .refl

/-! ## The clip pool -/

theorem State.alloc_moves (s : State) (n rate : Nat) (o : LinkOwner) (auto : Bool) : Moves s (s.alloc n rate o auto).2 := by
  unfold State.alloc
  split
  · exact .refl
  · rename_i h
    split
    · exact .single (.grant n rate o auto h)
    · split
      · exact .refl
      · exact .single (.setSlot s o _)

@[simp] theorem execPoolAlloc_moves (q : Byte) (n rate : Nat) (o : Option LinkOwner) (auto : Bool) (s : State) :
    MovesTo s (execPoolAlloc q n rate o auto s) := by
  refine movesTo_serve fun u => ?_
  split
  · exact .refl
  · split
    · exact .refl
    · exact u.alloc_moves _ _ _ _

@[simp] theorem execPoolPending_moves (q : Byte) (s : State) : MovesTo s (execPoolPending q s) :=
  movesTo_serve fun u => .single (.collectSlots u)

@[simp] theorem execPoolCancel_moves (q : Byte) (o : Option LinkOwner) (s : State) : MovesTo s (execPoolCancel q o s) := by
  refine movesTo_serve fun u => ?_
  split
  · exact .refl
  · split
    · exact .single (.setSlot u _ _)
    · exact .refl
    · exact .refl

@[simp] theorem execPoolSeek_moves (q : Byte) (clip pos : Nat) (d : Option CursorDir) (s : State) :
    MovesTo s (execPoolSeek q clip pos d s) := by
  refine movesTo_serve fun u => ?_
  split
  · exact .refl
  · split
    · split
      · exact .refl
      · exact .single (.setCursor u _)
    · exact .refl

@[simp] theorem execPoolWrite_moves (q : Byte) (l : List Sample) (s : State) : MovesTo s (execPoolWrite q l s) := by
  refine movesTo_serve fun u => ?_
  split
  · exact .single (.writeSamples u _)
  · exact .refl

@[simp] theorem execPoolRead_moves (q : Byte) (n : Nat) (s : State) : MovesTo s (execPoolRead q n s) := by
  refine movesTo_serve fun u => ?_
  split
  · exact .refl
  · split
    · exact .single (.setCursor u _)
    · exact .refl

@[simp] theorem execPoolSeal_moves (q : Byte) (clip len : Nat) (s : State) : MovesTo s (execPoolSeal q clip len s) := by
  refine movesTo_serve fun u => ?_
  split
  · dsimp only
    split
    · exact .refl
    · split
      · exact .refl
      · exact .single (.sealClip u _ _)
  · exact .refl

@[simp] theorem execPoolRelease_moves (q : Byte) (clip : Nat) (s : State) : MovesTo s (execPoolRelease q clip s) := by
  refine movesTo_serve fun u => ?_
  split
  · dsimp only
    split
    · exact .refl
    · split
      · exact .refl
      · exact .single (.freeClip u _)
  · exact .refl

@[simp] theorem execPoolStatus_moves (q : Byte) (s : State) : MovesTo s (execPoolStatus q s) := movesTo_query fun _ => rfl

@[simp] theorem execPoolClip_moves (q : Byte) (n : Nat) (s : State) : MovesTo s (execPoolClip q n s) :=
  movesTo_query fun _ => by split <;> rfl

/-! ## Voices -/

@[simp] theorem execVoiceEnqueue_moves (q : Byte) (voice clip mask repeats gap threshold : Nat) (trim : Int) (maxWait : Nat)
    (s : State) : MovesTo s (execVoiceEnqueue q voice clip mask repeats gap threshold trim maxWait s) := by
  refine movesTo_serve fun u => ?_
  split
  · exact .refl
  · dsimp only
    split
    · exact .refl
    · rename_i h; exact .single (.place h)

@[simp] theorem execVoiceCompletions_moves (q : Byte) (s : State) : MovesTo s (execVoiceCompletions q s) := by
  refine movesTo_serve fun u => ?_
  split
  · exact .refl
  · exact .single (.takeCompletions u)

@[simp] theorem execVoiceFlush_moves (q : Byte) (n : Nat) (s : State) : MovesTo s (execVoiceFlush q n s) := by
  refine movesTo_serve fun u => ?_
  split
  · exact .refl
  · split
    · exact .refl
    · rename_i h; exact .single (.flush h)

@[simp] theorem execVoiceSkip_moves (q : Byte) (n : Nat) (s : State) : MovesTo s (execVoiceSkip q n s) := by
  refine movesTo_serve fun u => ?_
  split
  · exact .refl
  · dsimp only
    split
    · exact .refl
    · exact .refl
    · exact .refl
    · exact (Move.conclude u _ _).then (.startFade _ _)

@[simp] theorem execVoiceStatus_moves (q : Byte) (n : Nat) (s : State) : MovesTo s (execVoiceStatus q n s) :=
  movesTo_query fun _ => by split <;> rfl

@[simp] theorem execMaxWaitExpiry_moves (v : Voice) (s : State) : MovesTo s (execMaxWaitExpiry v s) := movesTo_event (.expire s v)

@[simp] theorem execGapExpiry_moves (v : Voice) (s : State) : MovesTo s (execGapExpiry v s) := movesTo_event (.endGap s v)

@[simp] theorem execFadeComplete_moves (v : Voice) (s : State) : MovesTo s (execFadeComplete v s) := movesTo_event (.endFade s v)

/-! ## Tuner paths -/

@[simp] theorem execTunerFront_moves (q : Byte) (b : Option Band) (f : Nat) (s : State) : MovesTo s (execTunerFront q b f s) := by
  refine movesTo_serve fun u => ?_
  split
  · exact .refl
  · exact (Move.frontTune u _).then (.countDevice u _)

@[simp] theorem execTunerRear_moves (q : Byte) (m : Nat) (b : Option Band) (f : Nat) (s : State) :
    MovesTo s (execTunerRear q m b f s) := by
  refine movesTo_serve fun u => ?_
  split
  · split
    · split
      · exact .refl
      · rename_i h; exact (Move.rearTune h).then (.countDevice u _)
    · exact .refl
  · exact .refl

@[simp] theorem execTunerFlags_moves (q : Byte) (op : Option SetOp) (f : TunerFlags) (s : State) :
    MovesTo s (execTunerFlags q op f s) := by
  refine movesTo_serve fun u => ?_
  split
  · exact .refl
  · exact (Move.setFlags u _).then (.countDevice u _)

theorem clampNat_bounds {a b : Nat} (h : a ≤ b) (x : Nat) : a ≤ clampNat a b x ∧ clampNat a b x ≤ b := by
  unfold clampNat; split
  · omega
  · split <;> omega

@[simp] theorem execTunerConfig_moves (q : Byte) (a b c d : Nat) (s : State) : MovesTo s (execTunerConfig q a b c d s) :=
  movesTo_serve fun u => .single (.setTuner u ⟨Nat.min_le_right a 100, clampNat_bounds (by decide) b, Nat.min_le_right c 50,
    Nat.min_le_right d 100⟩)

@[simp] theorem execTunerSeek_moves (q : Byte) (d : Option SeekDir) (s : State) : MovesTo s (execTunerSeek q d s) := by
  refine movesTo_serve fun u => ?_
  split
  · exact .refl
  · exact (Move.enterSeek u _).then (.countDevice u _)

@[simp] theorem execTunerStatus_moves (q : Byte) (s : State) : MovesTo s (execTunerStatus q s) := movesTo_query fun _ => rfl

@[simp] theorem execTuneFadeDone_moves (p : Path) (s : State) : MovesTo s (execTuneFadeDone p s) := movesTo_event (.fadeDone s p)

@[simp] theorem execTuneConfirmation_moves (p : Path) (st : Station) (s : State) : MovesTo s (execTuneConfirmation p st s) :=
  movesTo_counted (.confirmed s p st)

@[simp] theorem execConfirmTimeout_moves (p : Path) (s : State) : MovesTo s (execConfirmTimeout p s) :=
  movesTo_counted (.unconfirmed s p)

@[simp] theorem execSettleDone_moves (p : Path) (s : State) : MovesTo s (execSettleDone p s) := movesTo_counted (.settled s p)

@[simp] theorem execFailureRetry_moves (p : Path) (s : State) : MovesTo s (execFailureRetry p s) := movesTo_event (.retryTune s p)

@[simp] theorem execPathMeasurement_moves (p : Path) (fs mp adj : Nat) (s : State) :
    MovesTo s (execPathMeasurement p fs mp adj s) := movesTo_counted (.measure s p fs mp adj)

@[simp] theorem execDecodedField_moves (p : Path) (item : DecodedItem) (s : State) : MovesTo s (execDecodedField p item s) :=
  movesTo_counted (.decodeItem s p item)

@[simp] theorem execSeekStepMeasurement_moves (fs mp adj : Nat) (s : State) : MovesTo s (execSeekStepMeasurement fs mp adj s) :=
  movesTo_counted (.seekMeasure s fs mp adj)

@[simp] theorem execAfCheckBegin_moves (s : State) : MovesTo s (execAfCheckBegin s) := movesTo_counted (.checkBegin s)

@[simp] theorem execAfTrialEnd_moves (s : State) : MovesTo s (execAfTrialEnd s) := movesTo_counted (.trialEnd s)

@[simp] theorem execPeekStart_moves (s : State) : MovesTo s (execPeekStart s) := movesTo_counted (.peekBegin s)

@[simp] theorem execPeekCandidateCommand_moves (s : State) : MovesTo s (execPeekCandidateCommand s) :=
  movesTo_event (.peekCommand s)

@[simp] theorem execPeekMeasurement_moves (fs mp adj : Nat) (s : State) : MovesTo s (execPeekMeasurement fs mp adj s) :=
  movesTo_counted (.peekMeasure s fs mp adj)

@[simp] theorem execPeekReturn_moves (s : State) : MovesTo s (execPeekReturn s) := movesTo_counted (.peekEnd s)

/-! ## The station table, the scan and the announcements -/

@[simp] theorem execStationList_moves (q : Byte) (n : Nat) (s : State) : MovesTo s (execStationList q n s) :=
  movesTo_query fun _ => by split <;> rfl

@[simp] theorem execStationRead_moves (q : Byte) (n : Nat) (reserve : Bool) (s : State) : MovesTo s (execStationRead q n reserve s) := by
  refine movesTo_serve fun u => ?_
  split
  · exact .refl
  · split
    · exact .refl
    · rw [report_snd]
      split
      · exact .single (.setReservation u _)
      · exact .refl

@[simp] theorem execStationWrite_moves (q : Byte) (n : Nat) (f : StationFields) (s : State) : MovesTo s (execStationWrite q n f s) := by
  refine movesTo_serve fun u => ?_
  split
  · exact .refl
  · split
    · exact .refl
    · exact .single (.writeRecord u _ _ _)

@[simp] theorem execStationWriteCond_moves (q : Byte) (n : Nat) (f : StationFields) (s : State) :
    MovesTo s (execStationWriteCond q n f s) := by
  refine movesTo_serve fun u => ?_
  split
  · exact .refl
  · split
    · exact .refl
    · split
      · exact (Move.writeRecord u _ _ _).then (.setReservation _ none)
      · exact .single (.setReservation u none)

@[simp] theorem execStationDelete_moves (q : Byte) (n : Nat) (s : State) : MovesTo s (execStationDelete q n s) := by
  refine movesTo_serve fun u => ?_
  split
  · exact .refl
  · split
    · exact .refl
    · exact (Move.leave u n).then (.countHost u _)

@[simp] theorem execStationPresetAssign_moves (q : Byte) (p n : Nat) (s : State) : MovesTo s (execStationPresetAssign q p n s) := by
  refine movesTo_serve fun u => ?_
  split
  · exact .refl
  · split
    · exact .refl
    · split
      · exact .refl
      · exact (Move.assign u p n _).then (.countHost u _)

@[simp] theorem execStationPresetClear_moves (q : Byte) (p : Nat) (s : State) : MovesTo s (execStationPresetClear q p s) := by
  refine movesTo_serve fun u => ?_
  split
  · exact .refl
  · exact (Move.clearPreset u p).then (.countHost u _)

@[simp] theorem execStationPresetQuery_moves (q : Byte) (p : Nat) (b : Bool) (s : State) :
    MovesTo s (execStationPresetQuery q p b s) := movesTo_query fun _ => by split <;> rfl

@[simp] theorem execStationAdmit_moves (q : Byte) (op : Option SetOp) (mask : BitVec 32) (s : State) :
    MovesTo s (execStationAdmit q op mask s) := by
  refine movesTo_serve fun u => ?_
  split
  · exact .refl
  · exact .single (.setMask u _)

@[simp] theorem execStationAgeTick_moves (s : State) : MovesTo s (execStationAgeTick s) := movesTo_event (.agesRise s)

@[simp] theorem execScanConfig_moves (q : Byte) (i p a : Nat) (s : State) : MovesTo s (execScanConfig q i p a s) :=
  movesTo_serve fun u => (Move.setScan u i p).then (.setAdmitQ _ a)

@[simp] theorem execScanIntervalExpiry_moves (s : State) : MovesTo s (execScanIntervalExpiry s) := movesTo_counted (.scanDue s)

@[simp] theorem execScanVisitMeasurement_moves (fs mp adj : Nat) (s : State) : MovesTo s (execScanVisitMeasurement fs mp adj s) :=
  movesTo_counted (.visitMeasure s fs mp adj)

@[simp] theorem execCodeDwellEnd_moves (s : State) : MovesTo s (execCodeDwellEnd s) := movesTo_counted (.dwellEnd s)

@[simp] theorem execScanWindowTimeout_moves (s : State) : MovesTo s (execScanWindowTimeout s) := movesTo_counted (.windowEnd s)

@[simp] theorem execTrafficStatus_moves (q : Byte) (s : State) : MovesTo s (execTrafficStatus q s) := movesTo_query fun _ => rfl

@[simp] theorem execTailExpiry_moves (p : Path) (s : State) : MovesTo s (execTailExpiry p s) := movesTo_event (.endAnn s p)

@[simp] theorem execAnnouncementAgeLimit_moves (p : Path) (s : State) : MovesTo s (execAnnouncementAgeLimit p s) :=
  movesTo_event (.ageLimit s p)

/-! ## Calls and the canceller -/

@[simp] theorem execCallRing_moves (q : Byte) (m clip gap : Nat) (s : State) : MovesTo s (execCallRing q m clip gap s) := by
  refine movesTo_serve fun u => ?_
  split
  · exact .refl
  · split
    · exact .refl
    · split
      · exact .refl
      · rename_i hi
        split
        · exact .refl
        · rename_i h
          have hc := State.place_frame h
          exact (Move.place h).then (.startRinging _ _ (by simp_all [ClaimFrame]))

@[simp] theorem execCallAnswer_moves (q : Byte) (s : State) : MovesTo s (execCallAnswer q s) := by
  refine movesTo_serve fun u => ?_
  split
  · exact .refl
  · rename_i hi
    split
    · exact .refl
    · rename_i h
      have hc := State.flush_frame h
      exact (Move.flush h).then (.answer (by simp_all [ClaimFrame]))

@[simp] theorem execCallHold_moves (q : Byte) (s : State) : MovesTo s (execCallHold q s) := by
  refine movesTo_serve fun u => ?_
  split
  · rename_i h
    simp only [report_snd]
    exact .single (.callHeld h)
  · exact .refl

@[simp] theorem execCallResume_moves (q : Byte) (s : State) : MovesTo s (execCallResume q s) := by
  refine movesTo_serve fun u => ?_
  split
  · rename_i h; exact .single (.callEnter h)
  · exact .refl

@[simp] theorem execCallEnd_moves (q : Byte) (s : State) : MovesTo s (execCallEnd q s) := by
  refine movesTo_serve fun u => ?_
  split
  · exact .refl
  · rename_i h; exact (Move.flush h).then (.endCall _)

@[simp] theorem execCallMode_moves (q : Byte) (m : Nat) (s : State) : MovesTo s (execCallMode q m s) := by
  refine movesTo_serve fun u => ?_
  split
  · exact .refl
  · split
    · exact .refl
    · exact .single (.moveCall u _)

@[simp] theorem execCallTrim_moves (q : Byte) (d u : Int) (s : State) : MovesTo s (execCallTrim q d u s) :=
  movesTo_serve fun t => .single (.setTrims t d u)

@[simp] theorem execCallEchoConfig_moves (q : Byte) (tc tt : Nat) (s : State) : MovesTo s (execCallEchoConfig q tc tt s) :=
  movesTo_serve fun u => .single (.setThresholds u tc tt)

@[simp] theorem execCallStatus_moves (q : Byte) (s : State) : MovesTo s (execCallStatus q s) := movesTo_query fun _ => rfl

@[simp] theorem execMicLevelDelivery_moves (a b : PerMic Gain) (s : State) : MovesTo s (execMicLevelDelivery a b s) :=
  movesTo_event (.levels s a b)

@[simp] theorem execNoiseForming_moves (s : State) : MovesTo s (execNoiseForming s) := movesTo_event (.formNoise s)

@[simp] theorem execEchoEstimate_moves (erle : Nat) (dt : Bool) (s : State) : MovesTo s (execEchoEstimate erle dt s) :=
  movesTo_event (.echoEstimate s erle dt)

@[simp] theorem execEchoConverged_moves (s : State) : MovesTo s (execEchoConverged s) := movesTo_event (.converge s)

@[simp] theorem execFrozenHangEnd_moves (s : State) : MovesTo s (execFrozenHangEnd s) := movesTo_event (.thaw s)

/-! ## The vehicle port and the watches -/

@[simp] theorem execVehicleSpeed_moves (q : Byte) (l : List Byte) (s : State) : MovesTo s (execVehicleSpeed q l s) :=
  movesTo_query fun _ => rfl

@[simp] theorem execVehicleChime_moves (q : Byte) (l : List Byte) (s : State) : MovesTo s (execVehicleChime q l s) :=
  movesTo_query fun _ => rfl

@[simp] theorem execVehicleChimeStop_moves (q : Byte) (l : List Byte) (s : State) : MovesTo s (execVehicleChimeStop q l s) :=
  movesTo_query fun _ => rfl

@[simp] theorem execVehicleOverride_moves (q : Byte) (l : List Byte) (s : State) : MovesTo s (execVehicleOverride q l s) :=
  movesTo_query fun _ => rfl

@[simp] theorem execVehicleStatus_moves (q : Byte) (s : State) : MovesTo s (execVehicleStatus q s) := movesTo_query fun _ => rfl

@[simp] theorem execSpeed_moves (v : Nat) (s : State) : MovesTo s (execSpeed v s) := movesTo_event (.vehicleRecord s (.speed v))

@[simp] theorem execSpeedStale_moves (s : State) : MovesTo s (execSpeedStale s) := movesTo_event (.goStale s)

@[simp] theorem execChime_moves (clip mask repeats gap : Nat) (s : State) : MovesTo s (execChime clip mask repeats gap s) :=
  movesTo_event (.vehicleRecord s (.chime clip mask repeats gap))

@[simp] theorem execChimeStop_moves (s : State) : MovesTo s (execChimeStop s) := movesTo_event (.vehicleRecord s .chimeStop)

@[simp] theorem execOverrideEnter_moves (s : State) : MovesTo s (execOverrideEnter s) := movesTo_event (.vehicleRecord s .enter)

@[simp] theorem execOverrideExitResume_moves (s : State) : MovesTo s (execOverrideExitResume s) :=
  movesTo_event (.vehicleRecord s (.exit false))

@[simp] theorem execOverrideExitDrop_moves (s : State) : MovesTo s (execOverrideExitDrop s) :=
  movesTo_event (.vehicleRecord s (.exit true))

@[simp] theorem execVehicleFrameIgnored_moves (f : VehicleFrame) (s : State) : MovesTo s (execVehicleFrameIgnored f s) := by
  refine movesTo_when ?_
  unfold State.busFrame
  split
  · exact .single (.vehicleRecord s _)
  · exact .refl

@[simp] theorem execStatusPeriod_moves (s : State) : MovesTo s (execStatusPeriod s) := movesTo_event (.buildStatus s)

@[simp] theorem execStatusSent_moves (s : State) : MovesTo s (execStatusSent s) := movesTo_event (.sendStatus s)

@[simp] theorem execChimeDoneSent_moves (s : State) : MovesTo s (execChimeDoneSent s) := movesTo_event (.sendChimeDone s)

@[simp] theorem execWatchSet_moves (q : Byte) (n : Nat) (f : Option QuantityField) (v : Int) (c : Option WatchCond) (hold : Nat)
    (m : Option WatchMode) (a : Option ActionField) (s : State) : MovesTo s (execWatchSet q n f v c hold m a s) := by
  refine movesTo_serve fun u => ?_
  split
  · exact .refl
  · split
    · exact .single (.setWatch u _ _)
    · exact .refl

@[simp] theorem execWatchClear_moves (q : Byte) (n : Nat) (s : State) : MovesTo s (execWatchClear q n s) := by
  refine movesTo_serve fun u => ?_
  split
  · exact .refl
  · exact .single (.setWatch u _ _)

@[simp] theorem execWatchQuery_moves (q : Byte) (n : Nat) (s : State) : MovesTo s (execWatchQuery q n s) :=
  movesTo_query fun _ => by split <;> rfl

@[simp] theorem execWatchFire_moves (n : Nat) (s : State) : MovesTo s (execWatchFire n s) := movesTo_event (.watchFire s n)

/-! ## Commands and steps -/

/-- Every command answers a state that a chain of moves reaches. -/
theorem exec_moves (c : Instr) (s : State) : MovesTo s (exec c s) := by
  cases c <;> simp [exec]

/-- What every move keeps, every step keeps, where the queue does not matter to it. -/
theorem step_keeps {P : State → Prop} (hP : ∀ s t, Move s t → P s → P t) (hq : ∀ s l, P s → P { s with pending := l })
    {s t : State} (ho : step s = .next t) (hs : P s) : P t := by
  have run (c : Instr) (u : State) (hu : P u) (h : exec c u = .next t) : P t := by
    obtain ⟨v, hv, hm⟩ := exec_moves c u
    obtain rfl := Host.Outcome.next.inj (hv.symm.trans h)
    exact hm.keep hP hu
  unfold step at ho
  split at ho
  · split at ho
    · exact run _ s hs ho
    · obtain rfl := Host.Outcome.next.inj ho; exact hs
  · exact run _ _ (hq s _ hs) ho

end Sys2Proof.Machine
end

section
namespace Sys2Proof.Machine

/-! ## The claim lists and the pages -/

/-- A change of the pool's slots, cursor and samples leaves its pages. -/
theorem State.mapPool_same_pages {s : State} (h : Sound s) {f : Pool → Pool} (hc : (f s.pool).clips = s.pool.clips)
    (hf : (f s.pool).freePages = s.pool.freePages) : Sound (s.mapPool f) := by
  refine State.mapPool_sound s f h ?_
  unfold PagesOnce
  rw [hc, hf]
  exact h.2

@[simp] theorem State.setWatch_sound (s : State) (n : Nat) (w : Option Watch) (h : Sound s) : Sound (s.setWatch n w) := h

@[simp] theorem State.setTrims_sound (s : State) (d u : Int) (h : Sound s) : Sound (s.setTrims d u) := h

@[simp] theorem State.setThresholds_sound (s : State) (tc tt : Nat) (h : Sound s) : Sound (s.setThresholds tc tt) := h

@[simp] theorem State.formNoise_sound (s : State) (h : Sound s) : Sound s.formNoise := by
  simp [State.formNoise, h]

@[simp] theorem State.echoEstimate_sound (s : State) (erle : Nat) (dt : Bool) (h : Sound s) : Sound (s.echoEstimate erle dt) := by
  unfold State.echoEstimate
  split
  · exact h
  · exact State.deliver_sound _ _ _ (State.setEcho_sound _ _ (State.setEcho_sound s _ h))

@[simp] theorem State.ageLimit_sound (s : State) (p : Path) (h : Sound s) : Sound (s.ageLimit p) := by
  unfold State.ageLimit
  dsimp only
  (repeat' split) <;> simp [h]

@[simp] theorem State.endFade_sound (s : State) (v : Voice) (h : Sound s) : Sound (s.endFade v) := by
  unfold State.endFade
  dsimp only
  (repeat' split) <;> simp [h]

@[simp] theorem State.endGap_sound (s : State) (v : Voice) (h : Sound s) : Sound (s.endGap v) := by
  unfold State.endGap
  dsimp only
  split <;> simp [h]

@[simp] theorem State.expire_sound (s : State) (v : Voice) (h : Sound s) : Sound (s.expire v) := by
  unfold State.expire
  (repeat' split) <;> simp [h]

@[simp] theorem State.takeCompletions_sound (s : State) (h : Sound s) : Sound s.takeCompletions := by
  simp [State.takeCompletions, h]

@[simp] theorem State.seal_sound (s : State) (clip len : Nat) (h : Sound s) : Sound (s.seal clip len) := by
  simp [State.seal, h]

/-- R71: a write changes the clip's fill count and the samples. -/
theorem Pool.put_pages (p : Pool) (l : List Sample) (h : PagesOnce p) : PagesOnce (p.put l) :=
  Pool.setClip_pages p p.cursor.clip _ rfl rfl h

@[simp] theorem State.writeSamples_sound (s : State) (l : List Sample) (h : Sound s) : Sound (s.writeSamples l) := by
  have hp : Sound (s.mapPool (·.put l)) := State.mapPool_sound s _ h (s.pool.put_pages l h.2)
  unfold State.writeSamples
  dsimp only
  split <;> simp [hp]

/-- R19: a selection names an entertainment source. -/
theorem selectOf_entertainment {z : Zone} {n : Nat} {x : Source} (h : selectOf z n = some (some x)) :
    classOf x = .entertainment := by
  unfold selectOf at h
  split at h <;> simp_all <;> subst h <;> rfl

theorem State.selectEnt_sound (s : State) (z : Zone) {n : Nat} {src : Option Source} (hn : selectOf z n = some src) (h : Sound s) :
    Sound (s.selectEnt z src) := by
  have he : Sound (s.setEnt z src) := s.setEnt_sound z src h (by rintro x rfl; exact selectOf_entertainment hn)
  unfold State.selectEnt
  dsimp only
  split <;> simp [he]

/-- R26: an accepted CURVES load delivers volumes at most. -/
@[simp] theorem State.loadCurves_sound (s : State) (t : List (List Int)) (h : Sound s) : Sound (s.loadCurves t) := by
  have hu : Sound (s.mapBank (fun b => { b with curves := t, curvesLoaded := true })) := h
  unfold State.loadCurves
  dsimp only
  split
  · exact State.deliverVolumes_sound _ _ _ (State.deliverVolumes_sound _ _ _ (State.deliverVolumes_sound _ _ _
      (State.deliverVolumes_sound _ _ _ hu)))
  · exact hu

/-- R46, R47: an accepted CHANNEL_MAP load touches the renderer and the canceller at most. -/
@[simp] theorem State.loadMap_sound (s : State) (t : List ChannelEntry) (h : Sound s) : Sound (s.loadMap t) := by
  unfold State.loadMap
  dsimp only
  split <;> simp [h]

/-- R49, R50: an accepted EQ_BANK load touches the renderer and the canceller at most. -/
@[simp] theorem State.loadEq_sound (s : State) (l : List GroupRecord) (h : Sound s) : Sound (s.loadEq l) := by
  unfold State.loadEq
  dsimp only
  (repeat' split) <;> simp [h]

theorem State.loadTable_sound {s t : State} {table : Nat} {bytes : List Byte} (ho : s.loadTable table bytes = some t)
    (h : Sound s) : Sound t := by
  unfold State.loadTable at ho
  split at ho
  · obtain ⟨x, -, rfl⟩ := Option.map_eq_some_iff.mp ho; exact s.loadMap_sound x h
  · obtain ⟨x, -, rfl⟩ := Option.map_eq_some_iff.mp ho; exact s.loadCurves_sound x h
  · obtain ⟨x, -, rfl⟩ := Option.map_eq_some_iff.mp ho; exact s.loadEq_sound x h
  · obtain ⟨x, -, rfl⟩ := Option.map_eq_some_iff.mp ho; exact s.loadPolicy_sound x h
  · obtain ⟨x, -, rfl⟩ := Option.map_eq_some_iff.mp ho; exact h
  · cases ho

theorem State.start_sound (s : State) (h : Sound s) : Sound s.start := by
  have hr : Sound ((s.mapPort (fun p => { p with op := .run })).mapRend Renderer.clearFilters) := h
  exact State.buildStatus_sound _ (State.startInterval_sound _ (State.planP2_sound _ (State.beginTune_sound _ _ _ hr)))

/-- After a reset no zone has a claim, the free list is 0 to 1023 and every clip is FREE. -/
theorem claimsOk_empty : ClaimsOk ZoneState.empty := by simp [ClaimsOk, ZoneState.empty]

theorem pagesOnce_reset (m : Memory) : PagesOnce { Pool.reset with mem := m } := by
  have none_held : (List.replicate 63 Clip.empty).flatMap Clip.pages = [] := by simp [Clip.empty]
  refine ⟨?_, fun n => ?_, fun c hc _ => ?_⟩
  · simp only [Pool.reset, none_held, List.append_nil]
    exact List.nodup_range
  · simp only [Pool.reset, none_held, List.append_nil]
    exact List.mem_range
  · rw [List.eq_of_mem_replicate hc]
    rfl

theorem State.coldReset_sound (s : State) : Sound s.coldReset :=
  ⟨fun z => by cases z <;> exact claimsOk_empty, pagesOnce_reset _⟩

theorem State.warmReset_sound (s : State) : Sound s.warmReset :=
  ⟨fun z => by cases z <;> exact claimsOk_empty, pagesOnce_reset _⟩

theorem State.confirmed_keeps_sound (s : State) (p : Path) (st : Station) (h : Sound s) : Sound (s.confirmed p st) :=
  s.confirmed_sound p st h

theorem Move.sound {s t : State} (hm : Move s t) (h : Sound s) : Sound t := by
  cases hm with
  | coldReset => exact s.coldReset_sound
  | warmReset => exact s.warmReset_sound
  | loadTable ho => exact State.loadTable_sound ho h
  | start => exact s.start_sound h
  | selectEnt _ z hn => exact s.selectEnt_sound z hn h
  | grant n rate o auto hc =>
    exact State.deliverFree_sound _ _ (State.mapPool_sound s _ h (Pool.grant_pages _ _ _ _ _ _ _ h.2 hc (by decide)))
  | setSlot _ o x => exact State.mapPool_sound s _ h ((Pool.setSlot_pages _ _ _).mpr h.2)
  | collectSlots | setCursor => exact State.mapPool_same_pages h rfl rfl
  | place ho => exact State.place_sound h ho
  | flush ho => exact State.flush_sound h ho
  | rearTune ho => exact State.rearTune_sound h ho
  | confirmed _ p st => exact s.confirmed_keeps_sound p st h
  | _ => simp [h]

end Sys2Proof.Machine
end

section
namespace Sys2Proof.Machine

/-! ## The fixed lengths -/

/-- The parts of the state whose lengths the rules fix have the lengths they had. -/
abbrev SameSizes (s t : State) : Prop :=
  t.pool.clips.length = s.pool.clips.length ∧ t.sta.slots.length = s.sta.slots.length ∧
  t.sta.presets.length = s.sta.presets.length ∧ t.bank.eq = s.bank.eq ∧ t.bank.map = s.bank.map ∧
  t.bank.mapLoaded = s.bank.mapLoaded ∧ t.bank.curves = s.bank.curves ∧ t.bank.curvesLoaded = s.bank.curvesLoaded

theorem SameSizes.sizesOk {s t : State} (h : SameSizes s t) (hs : SizesOk s) : SizesOk t := by
  obtain ⟨hc, hl, hp, he, hm, hml, hcu, hcl⟩ := h
  unfold SizesOk
  rw [hc, hl, hp, he, hm, hml, hcu, hcl]
  exact hs

theorem SameSizes.trans {s t u : State} (h : SameSizes s t) (h' : SameSizes t u) : SameSizes s u := by
  simp_all only [SameSizes, and_self]

theorem sameSizes_of_claim {s t : State} (h : ClaimFrame s t) : SameSizes s t := by
  simp_all only [ClaimFrame, SameSizes, and_self]

theorem sameSizes_of_tuner {s t : State} (h : TunerFrame s t) : SameSizes s t := by
  simp_all only [TunerFrame, SameSizes, and_self]

theorem sameSizes_of_call {s t : State} (h : CallFrame s t) : SameSizes s t := by
  simp_all only [CallFrame, SameSizes, and_self]

theorem SameSizes.refl (s : State) : SameSizes s s := ⟨rfl, rfl, rfl, rfl, rfl, rfl, rfl, rfl⟩

@[simp] theorem State.coolFall_sizes (s : State) (k : Nat) : SameSizes s (s.coolFall k) := by
  simp [SameSizes, State.coolFall, State.deliverThermal]

@[simp] theorem State.writeSamples_sizes (s : State) (l : List Sample) : SameSizes s (s.writeSamples l) := by
  unfold State.writeSamples
  dsimp only
  split <;> simp [SameSizes, Pool.put]

@[simp] theorem State.setFlags_sizes (s : State) (f : TunerFlags) : SameSizes s (s.setFlags f) := by
  unfold State.setFlags
  dsimp only
  (repeat' split) <;> simp [SameSizes]

@[simp] theorem State.setStep_sizes (s : State) (z : Zone) (k : Kind) (n : Nat) : SameSizes s (s.setStep z k n) := by
  simp [SameSizes, State.setStep]

@[simp] theorem State.setRow_sizes (s : State) (z : Zone) (n : Nat) (e : Effect) : SameSizes s (s.setRow z n e) := by
  simp [SameSizes, State.setRow]

@[simp] theorem State.selectEnt_sizes (s : State) (z : Zone) (src : Option Source) : SameSizes s (s.selectEnt z src) := by
  unfold State.selectEnt
  dsimp only
  split <;> simp [SameSizes]

@[simp] theorem State.start_sizes (s : State) : SameSizes s s.start := by
  simp [SameSizes, State.start, State.buildStatus]

/-! ### The vehicle port -/

@[simp] theorem State.chimeRecord_sizes (s : State) (c m r g : Nat) : SameSizes s (s.chimeRecord c m r g) := by
  unfold State.chimeRecord
  split
  · rename_i h
    exact (sameSizes_of_claim (State.place_frame h)).trans (.refl _)
  · exact .refl s

@[simp] theorem State.chimeStopRecord_sizes (s : State) : SameSizes s s.chimeStopRecord := by
  unfold State.chimeStopRecord
  split
  · rename_i h
    exact (sameSizes_of_claim (State.flush_frame h)).trans (.refl _)
  · exact .refl s

@[simp] theorem State.overrideEnterRecord_sizes (s : State) : SameSizes s s.overrideEnterRecord := by
  unfold State.overrideEnterRecord
  dsimp only
  split <;> simp [SameSizes, State.setCallStep]

@[simp] theorem State.exitCheck_sizes (s base : State) : SameSizes s (s.exitCheck base) := by
  unfold State.exitCheck
  dsimp only
  split <;> simp [SameSizes]

@[simp] theorem State.overrideExitRecord_sizes (s : State) (drop : Bool) : SameSizes s (s.overrideExitRecord drop) := by
  unfold State.overrideExitRecord
  dsimp only
  (repeat' split) <;> simp [SameSizes, State.setCallStep]

@[simp] theorem State.vehicleRecord_sizes (s : State) (r : VehicleRecord) : SameSizes s (s.vehicleRecord r) := by
  cases r with
  | speed v => simp [SameSizes, State.vehicleRecord, State.speedRecord]
  | chime c m r g => exact s.chimeRecord_sizes c m r g
  | chimeStop => exact s.chimeStopRecord_sizes
  | enter => exact s.overrideEnterRecord_sizes
  | exit drop => exact s.overrideExitRecord_sizes drop

@[simp] theorem State.sendChimeDone_sizes (s : State) : SameSizes s s.sendChimeDone := by
  unfold State.sendChimeDone
  dsimp only
  split <;> simp [SameSizes]

/-! ### The frame -/

@[simp] theorem State.voiceFrame_sizes (s : State) (v : Voice) : SameSizes s (s.voiceFrame v).state := by
  unfold State.voiceFrame State.leaveStarting State.playFrame State.output
  dsimp only
  (repeat' split) <;> simp [SameSizes]

@[simp] theorem State.endFrame_sizes (s : State) (v : Voice) (e : Option FrameEnd) : SameSizes s (s.endFrame v e) := by
  unfold State.endFrame State.endPass
  dsimp only
  (repeat' split) <;> simp [SameSizes]

@[simp] theorem State.mixdown_sizes (s : State) (snd : PerSource (List (Int × Int))) : SameSizes s (s.mixdown snd) := by
  unfold State.mixdown State.clipZone
  dsimp only
  (repeat' split) <;> simp [SameSizes]

@[simp] theorem State.thermalStep_sizes (s : State) : SameSizes s s.thermalStep := by
  unfold State.thermalStep State.deliverThermal
  dsimp only
  split <;> simp [SameSizes]

@[simp] theorem State.thermalFalls_sizes (s : State) : SameSizes s s.thermalFalls := by
  simp [SameSizes, State.thermalFalls, State.deliverThermal]

theorem State.captureSample_sizes {s t : State} {n : Nat} {v : Sample} (h : s.captureSample n v = some t) : SameSizes s t := by
  unfold State.captureSample at h
  obtain ⟨u, hu, rfl⟩ := Option.map_eq_some_iff.mp h
  have stored : SameSizes s u := by
    split at hu
    · obtain rfl := Option.some.inj hu; exact .refl s
    · exact sameSizes_of_claim (State.captureExtend_frame hu)
  exact stored.trans (by simp [SameSizes])

@[simp] theorem State.captureSamples_sizes (p : Path) (n : Nat) (l : List Sample) (s : State) :
    SameSizes s (State.captureSamples p n l s) := by
  induction l generalizing s with
  | nil => exact .refl s
  | cons v vs ih =>
    unfold State.captureSamples
    split
    · rename_i h; exact (State.captureSample_sizes h).trans (ih _)
    · simp [SameSizes]

@[simp] theorem State.captureFrame_sizes (s : State) (was : Capture) (snd : PerSource (List (Int × Int))) :
    SameSizes s (s.captureFrame was snd) := by
  unfold State.captureFrame
  dsimp only
  (repeat' split) <;> simp [SameSizes]

@[simp] theorem State.uplinkFrame_sizes (s : State) (inp : FrameInput) : SameSizes s (s.uplinkFrame inp) := by
  unfold State.uplinkFrame
  dsimp only
  split <;> exact .refl s

@[simp] theorem State.adapt_sizes (s : State) : SameSizes s s.adapt := by
  unfold State.adapt
  split <;> exact .refl s

theorem State.farFrame_sizes (s : State) (inp : FrameInput) : SameSizes s (s.farFrame inp) := .refl s

theorem State.renderStep_sizes (s : State) (inp : FrameInput) : SameSizes s (s.renderStep inp) := by
  have ticked : SameSizes s s.tick := .refl s
  have moved : SameSizes s (((s.tick).applyNotice).thermalFalls).ramps :=
    (ticked.trans (sameSizes_of_call s.tick.applyNotice_frame)).trans
      ((State.thermalFalls_sizes _).trans (sameSizes_of_claim (State.ramps_frame _)))
  unfold State.renderStep
  dsimp only
  -- the frame's parts after the voices, the last first
  refine SameSizes.trans ?_ (State.farFrame_sizes _ inp)
  refine SameSizes.trans ?_ (State.adapt_sizes _)
  refine SameSizes.trans ?_ (State.uplinkFrame_sizes _ inp)
  refine SameSizes.trans ?_ (State.captureFrame_sizes _ _ _)
  refine SameSizes.trans ?_ (State.thermalStep_sizes _)
  refine SameSizes.trans ?_ (State.mixdown_sizes _ _)
  iterate 4 refine SameSizes.trans ?_ (State.endFrame_sizes _ _ _)
  iterate 4 refine SameSizes.trans ?_ (State.voiceFrame_sizes _ _)
  exact moved

/-! ### The tables -/

/-- R26: an accepted CURVES table is four curves of 64 entries. -/
theorem curveTable_sizes {bytes : List Byte} {cs : List (List Int)} (h : curveTable bytes = some cs) :
    cs.length = 4 ∧ ∀ c ∈ cs, c.length = 64 := by
  unfold curveTable at h
  split at h
  · cases h
  · dsimp only at h
    split at h
    · rename_i hc
      obtain rfl := Option.some.inj h
      simp [hc.1]
    · cases h

theorem inChannelOrder_length {l : List (Nat × ChannelEntry)} : ∀ {ks : List Nat} {es : List ChannelEntry},
    inChannelOrder l ks = some es → es.length = ks.length
  | [], _, h => by obtain rfl := Option.some.inj h; rfl
  | k :: ks, _, h => by
    unfold inChannelOrder at h
    split at h
    · rename_i hr
      obtain rfl := Option.some.inj h
      simp [inChannelOrder_length hr]
    · cases h

/-- R45: an accepted CHANNEL_MAP has an entry for each of the 22 channels. -/
theorem mapTable_length {bytes : List Byte} {es : List ChannelEntry} (h : mapTable bytes = some es) : es.length = 22 := by
  unfold mapTable at h
  split at h
  · cases h
  · split at h
    · simpa using inChannelOrder_length h
    · cases h

/-- R49: sixteen presets of nine groups. -/
def BankShape (eq : List (List (List Biquad))) : Prop := eq.length = 16 ∧ ∀ p ∈ eq, p.length = 9

theorem mem_updateAt {α : Type} {f : α → α} : ∀ {n : Nat} {l : List α} {x : α}, x ∈ updateAt f n l → x ∈ l ∨ ∃ y ∈ l, x = f y
  | n, [], x, h => by cases n <;> cases h
  | 0, a :: l, x, h => by
    rcases List.mem_cons.mp h with rfl | h
    · exact .inr ⟨a, List.mem_cons_self .., rfl⟩
    · exact .inl (List.mem_cons_of_mem _ h)
  | n + 1, a :: l, x, h => by
    rcases List.mem_cons.mp h with rfl | h
    · exact .inl (List.mem_cons_self ..)
    · rcases mem_updateAt h with h | ⟨y, hy, rfl⟩
      · exact .inl (List.mem_cons_of_mem _ h)
      · exact .inr ⟨y, List.mem_cons_of_mem _ hy, rfl⟩

theorem putGroup_shape {eq : List (List (List Biquad))} (h : BankShape eq) (r : GroupRecord) : BankShape (putGroup eq r) := by
  refine ⟨by simp [putGroup, h.1], fun p hp => ?_⟩
  rcases mem_updateAt hp with hp | ⟨q, hq, rfl⟩
  · exact h.2 p hp
  · simp [h.2 q hq]

theorem putGroups_shape (l : List GroupRecord) : ∀ {eq : List (List (List Biquad))}, BankShape eq → BankShape (l.foldl putGroup eq) := by
  induction l with
  | nil => exact fun h => h
  | cons r rs ih => exact fun h => ih (putGroup_shape h r)

theorem State.loadMap_sizes (s : State) {t : List ChannelEntry} (ht : t.length = 22) (h : SizesOk s) : SizesOk (s.loadMap t) := by
  obtain ⟨hc, hl, hp, he, -, hcu⟩ := h
  have loaded : SizesOk (s.mapBank (fun b => { b with map := t, mapLoaded := true })) := ⟨hc, hl, hp, he, fun _ => ht, hcu⟩
  unfold State.loadMap
  dsimp only
  split
  · refine SameSizes.sizesOk ?_ loaded
    simp [SameSizes]
  · exact loaded

theorem State.loadCurves_sizes (s : State) {t : List (List Int)} (ht : t.length = 4 ∧ ∀ c ∈ t, c.length = 64) (h : SizesOk s) :
    SizesOk (s.loadCurves t) := by
  obtain ⟨hc, hl, hp, he, hm, -⟩ := h
  have loaded : SizesOk (s.mapBank (fun b => { b with curves := t, curvesLoaded := true })) := ⟨hc, hl, hp, he, hm, fun _ => ht⟩
  unfold State.loadCurves
  dsimp only
  split
  · refine SameSizes.sizesOk ?_ loaded
    simp [SameSizes]
  · exact loaded

theorem State.loadEq_sizes (s : State) (l : List GroupRecord) (h : SizesOk s) : SizesOk (s.loadEq l) := by
  obtain ⟨hc, hl, hp, he, hm, hcu⟩ := h
  have loaded : SizesOk (s.mapBank (fun b => { b with eq := l.foldl putGroup b.eq, eqLoaded := true })) :=
    ⟨hc, hl, hp, putGroups_shape l he, hm, hcu⟩
  unfold State.loadEq
  dsimp only
  (repeat' split)
  · refine SameSizes.sizesOk ?_ loaded
    simp [SameSizes]
  · exact loaded
  · exact loaded

theorem State.loadPolicy_sizes (s : State) (t : PerZone PolicyRows) : SameSizes s (s.loadPolicy t) := by
  unfold State.loadPolicy
  dsimp only
  split <;> simp [SameSizes]

theorem State.loadTable_sizes {s t : State} {table : Nat} {bytes : List Byte} (ho : s.loadTable table bytes = some t)
    (h : SizesOk s) : SizesOk t := by
  unfold State.loadTable at ho
  split at ho
  · obtain ⟨x, hx, rfl⟩ := Option.map_eq_some_iff.mp ho; exact s.loadMap_sizes (mapTable_length hx) h
  · obtain ⟨x, hx, rfl⟩ := Option.map_eq_some_iff.mp ho; exact s.loadCurves_sizes (curveTable_sizes hx) h
  · obtain ⟨x, -, rfl⟩ := Option.map_eq_some_iff.mp ho; exact s.loadEq_sizes x h
  · obtain ⟨x, -, rfl⟩ := Option.map_eq_some_iff.mp ho; exact (s.loadPolicy_sizes x).sizesOk h
  · obtain ⟨x, -, rfl⟩ := Option.map_eq_some_iff.mp ho; exact h
  · cases ho

/-! ### The moves -/

theorem bankShape_reset : BankShape Bank.reset.eq := by
  refine ⟨by simp [Bank.reset], fun p hp => ?_⟩
  rw [List.eq_of_mem_replicate hp]
  simp

theorem State.coldReset_sizes (s : State) : SizesOk s.coldReset := by
  refine ⟨?_, ?_, ?_, bankShape_reset, nofun, nofun⟩ <;> exact List.length_replicate

theorem State.warmReset_sizes (s : State) (h : SizesOk s) : SizesOk s.warmReset := by
  obtain ⟨-, hl, hp, he, hm, hcu⟩ := h
  exact ⟨List.length_replicate, hl, hp, he, hm, hcu⟩

theorem State.echoEstimate_sizes (s : State) (erle : Nat) (dt : Bool) :
    SameSizes s (s.echoEstimate erle dt) := by
  unfold State.echoEstimate
  split
  · exact .refl _
  · simp [SameSizes]

theorem State.goStale_sizes (s : State) : SameSizes s s.goStale := by
  unfold State.goStale
  split <;> exact .refl _

theorem State.sendStatus_sizes (s : State) : SameSizes s s.sendStatus := by
  unfold State.sendStatus
  split <;> exact .refl _

theorem Move.sizes {s t : State} (hm : Move s t) (h : SizesOk s) : SizesOk t := by
  cases hm with
  | coldReset => exact s.coldReset_sizes
  | warmReset => exact s.warmReset_sizes h
  | loadTable ho => exact State.loadTable_sizes ho h
  | place ho => exact (sameSizes_of_claim (State.place_frame ho)).sizesOk h
  | flush ho => exact (sameSizes_of_claim (State.flush_frame ho)).sizesOk h
  | rearTune ho => exact (sameSizes_of_tuner (State.rearTune_frame ho)).sizesOk h
  | renderStep _ inp => exact (s.renderStep_sizes inp).sizesOk h
  | start => exact s.start_sizes.sizesOk h
  | selectEnt => exact (State.selectEnt_sizes ..).sizesOk h
  | setRow => exact (State.setRow_sizes ..).sizesOk h
  | setStep => exact (State.setStep_sizes ..).sizesOk h
  | coolFall => exact (State.coolFall_sizes ..).sizesOk h
  | writeSamples => exact (State.writeSamples_sizes ..).sizesOk h
  | setFlags => exact (State.setFlags_sizes ..).sizesOk h
  | vehicleRecord => exact (State.vehicleRecord_sizes ..).sizesOk h
  | sendChimeDone => exact (State.sendChimeDone_sizes ..).sizesOk h
  | yieldExpired => exact (sameSizes_of_claim (State.yieldExpired_frame ..)).sizesOk h
  | sealClip => exact (sameSizes_of_claim (State.seal_frame ..)).sizesOk h
  | freeClip => exact (sameSizes_of_claim (State.freeClip_frame ..)).sizesOk h
  | takeCompletions => exact (sameSizes_of_claim (State.takeCompletions_frame ..)).sizesOk h
  | conclude => exact (sameSizes_of_claim (State.conclude_frame ..)).sizesOk h
  | startFade => exact (sameSizes_of_claim (State.startFade_frame ..)).sizesOk h
  | expire => exact (sameSizes_of_claim (State.expire_frame ..)).sizesOk h
  | endGap => exact (sameSizes_of_claim (State.endGap_frame ..)).sizesOk h
  | endFade => exact (sameSizes_of_claim (State.endFade_frame ..)).sizesOk h
  | endAnn => exact (sameSizes_of_claim (State.endAnn_frame ..)).sizesOk h
  | ageLimit => exact (sameSizes_of_claim (State.ageLimit_frame ..)).sizesOk h
  | frontTune => exact (sameSizes_of_tuner (State.frontTune_frame ..)).sizesOk h
  | enterSeek => exact (sameSizes_of_tuner (State.enterSeek_frame ..)).sizesOk h
  | fadeDone => exact (sameSizes_of_tuner (State.fadeDone_frame ..)).sizesOk h
  | confirmed => exact (sameSizes_of_tuner (State.confirmed_frame ..)).sizesOk h
  | unconfirmed => exact (sameSizes_of_tuner (State.unconfirmed_frame ..)).sizesOk h
  | settled => exact (sameSizes_of_tuner (State.settled_frame ..)).sizesOk h
  | retryTune => exact (sameSizes_of_tuner (State.retryTune_frame ..)).sizesOk h
  | measure => exact (sameSizes_of_tuner (State.measure_frame ..)).sizesOk h
  | decodeItem => exact (sameSizes_of_tuner (State.decodeItem_frame ..)).sizesOk h
  | seekMeasure => exact (sameSizes_of_tuner (State.seekMeasure_frame ..)).sizesOk h
  | checkBegin => exact (sameSizes_of_tuner (State.checkBegin_frame ..)).sizesOk h
  | trialEnd => exact (sameSizes_of_tuner (State.trialEnd_frame ..)).sizesOk h
  | peekBegin => exact (sameSizes_of_tuner (State.peekBegin_frame ..)).sizesOk h
  | peekCommand => exact (sameSizes_of_tuner (State.peekCommand_frame ..)).sizesOk h
  | peekMeasure => exact (sameSizes_of_tuner (State.peekMeasure_frame ..)).sizesOk h
  | peekEnd => exact (sameSizes_of_tuner (State.peekEnd_frame ..)).sizesOk h
  | countDevice => exact (sameSizes_of_tuner (State.countDevice_frame ..)).sizesOk h
  | countHost => exact (sameSizes_of_tuner (State.countHost_frame ..)).sizesOk h
  | writeRecord => exact (sameSizes_of_tuner (State.writeRecord_frame ..)).sizesOk h
  | agesRise => exact (sameSizes_of_tuner (State.agesRise_frame ..)).sizesOk h
  | scanDue => exact (sameSizes_of_tuner (State.scanDue_frame ..)).sizesOk h
  | visitMeasure => exact (sameSizes_of_tuner (State.visitMeasure_frame ..)).sizesOk h
  | dwellEnd => exact (sameSizes_of_tuner (State.dwellEnd_frame ..)).sizesOk h
  | windowEnd => exact (sameSizes_of_tuner (State.windowEnd_frame ..)).sizesOk h
  | takeCopy => exact (sameSizes_of_call (State.takeCopy_frame ..)).sizesOk h
  | setTake => exact (sameSizes_of_call (State.setTake_frame ..)).sizesOk h
  | startRinging => exact (sameSizes_of_call (State.startRinging_frame ..)).sizesOk h
  | answer => exact (sameSizes_of_call (State.answer_frame ..)).sizesOk h
  | callHeld => exact (sameSizes_of_call (State.callHeld_frame ..)).sizesOk h
  | callEnter => exact (sameSizes_of_call (State.callEnter_frame ..)).sizesOk h
  | endCall => exact (sameSizes_of_call (State.endCall_frame ..)).sizesOk h
  | moveCall => exact (sameSizes_of_call (State.moveCall_frame ..)).sizesOk h
  | watchFire => exact (sameSizes_of_call (State.watchFire_frame ..)).sizesOk h
  | grant => exact SameSizes.sizesOk (by simp [SameSizes]) h
  | setSlot => exact SameSizes.sizesOk (by simp [SameSizes]) h
  | leave => exact SameSizes.sizesOk (by simp [SameSizes]) h
  | assign => exact SameSizes.sizesOk (by simp [SameSizes]) h
  | clearPreset => exact SameSizes.sizesOk (by simp [SameSizes]) h
  | echoEstimate => exact (State.echoEstimate_sizes ..).sizesOk h
  | converge => exact SameSizes.sizesOk (by simp [SameSizes]) h
  | thaw => exact SameSizes.sizesOk (by simp [SameSizes]) h
  | goStale => exact (State.goStale_sizes ..).sizesOk h
  | sendStatus => exact (State.sendStatus_sizes ..).sizesOk h
  | _ => exact SameSizes.sizesOk ⟨rfl, rfl, rfl, rfl, rfl, rfl, rfl, rfl⟩ h

/-- Settles O5: both families of invariants hold over each `Move`, and every step is a sequence of moves. -/
theorem stepsKeepClaimListsAndPages : Obligations.StepsKeepClaimListsAndPages :=
  ⟨fun _ _ hz hp ho => step_keeps (fun _ _ => Move.sound) (fun _ _ h => h) ho ⟨hz, hp⟩,
    fun _ _ h ho => step_keeps (fun _ _ => Move.sizes) (fun _ _ h => h) ho h⟩
end Sys2Proof.Machine
end

section
/-! SUPPORT. What a cold reset leaves. -/

namespace Sys2Proof.Machine

theorem profileInRange_zeroed : ProfileInRange Profile.zeroed := by
  unfold ProfileInRange
  decide

theorem rendererInRange_reset : RendererInRange Renderer.reset := by
  have volume (z : Zone) : Renderer.reset.volume.get z = ⟨0, 0, 0⟩ := PerZone.get_all ..
  have trims (z : Zone) : Renderer.reset.trims.get z = PerSource.all 0 := PerZone.get_all ..
  refine ⟨fun z k => ?_, fun z src => ?_, List.length_replicate, fun t ht => ?_⟩
  · rw [volume]
    cases k <;> exact Nat.zero_le _
  · rw [trims, PerSource.get_all]
    decide
  · rw [List.eq_of_mem_replicate ht]
    decide

theorem settingsInRange_reset : SettingsInRange State.reset := by
  unfold SettingsInRange
  constructorm* _ ∧ _ <;> decide

theorem routeOk_reset : RouteOk State.reset := by
  unfold RouteOk
  decide

theorem sizesOk_reset : SizesOk State.reset :=
  ⟨List.length_replicate, List.length_replicate, List.length_replicate, bankShape_reset, nofun, nofun⟩

/-- Settles O9, register block by register block. -/
theorem resetMeetsWhatStepsKeep : Obligations.ResetMeetsWhatStepsKeep := by
  have claims (z : Zone) : State.reset.zone z = ZoneState.empty := PerZone.get_all ..
  have staged (z : Zone) : State.reset.bank.staged.get z = Profile.zeroed := PerZone.get_all ..
  have current (z : Zone) : State.reset.bank.current.get z = Profile.zeroed := PerZone.get_all ..
  have pool : PagesOnce Pool.reset := by simpa only [PagesOnce] using pagesOnce_reset []
  refine ⟨fun z => ?_, pool, ?_, rendererInRange_reset, settingsInRange_reset, sizesOk_reset, fun z => ?_, routeOk_reset⟩
  · rw [claims]
    exact claimsOk_empty
  · decide
  · rw [staged, current]
    exact ⟨profileInRange_zeroed, profileInRange_zeroed⟩
end Sys2Proof.Machine
end

section
/-! SUPPORT. Replies and the port: what a request's effect on the state in which the reply before it has left says of the state it found,
and that the zone arbiter's work reads nothing of the port. -/

namespace Sys2Proof.Machine

/-! ## The reply before has left -/

/-- The effect `v` of a request, which it has on `s.taking`, with what was still to leave when the request came back in its place. -/
def State.untaken (s v : State) : State :=
  v.mapPort (fun p => { p with tx := if s.port.tx.any TxFrame.isReply then s.port.tx else p.tx, lineOut := s.port.lineOut })

/-- A reply that waits has left, with all that was built before it; there is one at most. -/
theorem afterReplies_any (l : List TxFrame) : (afterReplies l).any TxFrame.isReply = false := by
  induction l with
  | nil => rfl
  | cons f fs ih =>
    unfold afterReplies
    split
    · exact ih
    · split <;> simp_all

theorem any_isReply_eq_false {l : List TxFrame} : l.any TxFrame.isReply = false ↔ l.countP TxFrame.isReply = 0 := by
  simp [List.countP_eq_zero]

theorem State.taking_noReply (s : State) : s.taking.port.tx.any TxFrame.isReply = false := by
  simpa using afterReplies_any s.port.tx

theorem State.taking_of_none {s : State} (h : s.port.tx.any TxFrame.isReply = false) : s.taking = s := by
  rw [State.taking, State.mapPort, Port.replyLeaves_of_none _ h]

theorem State.untaken_taking (s : State) : s.untaken s.taking = s := by
  by_cases h : s.port.tx.any TxFrame.isReply = true
  · rw [State.taking, State.mapPort, Port.replyLeaves_eq]
    simp [State.untaken, State.mapPort, h]
  · rw [State.taking_of_none (Bool.eq_false_iff.2 h)]
    simp [State.untaken, State.mapPort, h]

/-- An effect that builds no reply and sends nothing is answered with its reply. -/
theorem repliesWith_untaken {s v : State} (code q : Byte) (r : Reply)
    (hx : v.port.tx.countP TxFrame.isReply = s.taking.port.tx.countP TxFrame.isReply)
    (hl : v.port.lineOut = s.taking.port.lineOut) : RepliesWith (s.untaken v) (v.reply code q r) code q r := by
  have hn : v.port.tx.any TxFrame.isReply = false := by
    rw [any_isReply_eq_false, hx, ← any_isReply_eq_false]
    exact s.taking_noReply
  have line : (s.untaken v).port.replyLeaves.lineOut = v.port.lineOut := by
    rw [hl, State.untaken, State.mapPort, State.taking, State.mapPort]
    by_cases h : s.port.tx.any TxFrame.isReply = true
    · simp only [h, if_true, Port.replyLeaves]
      split <;> rfl
    · rw [Port.replyLeaves_of_none _ (Bool.eq_false_iff.2 h), Port.replyLeaves_of_none]
      simp [h, hn]
  refine ⟨?_, by simp [State.reply, Port.sendReply], fun h => ?_⟩
  · rw [line]
    simp only [State.untaken, State.reply, State.mapPort, Port.sendReply, Port.spendFor]
    (repeat' split) <;> rfl
  · by_cases hs : s.port.tx.any TxFrame.isReply = true
    · simp [State.untaken, State.mapPort, hs] at h
    · simp [State.untaken, State.reply, Port.sendReply, hs]

/-- A request that changes nothing is answered with its reply. -/
theorem repliesWith_query (s : State) (code q : Byte) (r : Reply) : RepliesWith s (s.taking.reply code q r) code q r := by
  have h : RepliesWith (s.untaken s.taking) (s.taking.reply code q r) code q r := repliesWith_untaken code q r rfl rfl
  rwa [s.untaken_taking] at h

/-- R184: a request served in RUN that leaves the part as it is: a query or a refusal by its owner. -/
theorem answers_runOnly {c : Instr} {s : State} (cls verb : Nat) {code q : Byte} {body : State → Reply × State} {r : Reply}
    (h : Serves s) (he : exec c s = serve cls verb q .runOnly s body) (hc : codeByte cls verb = code)
    (hb : body s.taking = (r, s.taking)) : Answers c s s code q r := by
  refine ⟨_, he.trans (serve_runOnly h), ?_⟩
  rw [hb, hc]
  exact repliesWith_query s code q r

/-- The same for a request that override locks. -/
theorem answers_lockable {c : Instr} {s : State} (cls verb : Nat) {code q : Byte} {body : State → Reply × State} {r : Reply}
    (h : Unlocked s) (he : exec c s = serve cls verb q .lockable s body) (hc : codeByte cls verb = code)
    (hb : body s.taking = (r, s.taking)) : Answers c s s code q r := by
  refine ⟨_, he.trans (serve_lockable h), ?_⟩
  rw [hb, hc]
  exact repliesWith_query s code q r

theorem State.untaken_of_none {s v : State} (h : s.port.tx.any TxFrame.isReply = false) (hl : v.port.lineOut = s.port.lineOut) :
    s.untaken v = v := by
  rw [State.untaken, h, ← hl]
  rfl

theorem State.untaken_countP {s v : State}
    (hx : v.port.tx.countP TxFrame.isReply = s.taking.port.tx.countP TxFrame.isReply) :
    (s.untaken v).port.tx.countP TxFrame.isReply = s.port.tx.countP TxFrame.isReply := by
  by_cases h : s.port.tx.any TxFrame.isReply = true
  · simp [State.untaken, h]
  · rw [State.taking_of_none (Bool.eq_false_iff.2 h)] at hx
    simp [State.untaken, h, hx]

/-- What a request's effect leaves of the state in which the reply before has left, it leaves of the state it found. -/
theorem ClaimFrame.untaken {s v : State} (h : ClaimFrame s.taking v) : ClaimFrame s (s.untaken v) := by
  have count : (s.untaken v).port.tx.countP TxFrame.isReply = s.port.tx.countP TxFrame.isReply :=
    State.untaken_countP (by simp_all only [ClaimFrame])
  have reset : s.taking.port.lastReset = s.port.lastReset ∧ s.taking.port.rx = s.port.rx ∧ s.taking.port.held = s.port.held ∧
      s.taking.port.assembly = s.port.assembly ∧ s.taking.port.lastReply = s.port.lastReply := by
    rw [State.taking, State.mapPort, Port.replyLeaves_eq]
    simp
  simp_all [ClaimFrame, State.untaken]
end Sys2Proof.Machine
end

section
/-! SUPPORT. The zone arbiter reads nothing of the port: an evaluation gives the same with another port, the port apart, and raises the same
flags. -/

namespace Sys2Proof.Machine

/-- The state with another port. -/
def State.withPort (s : State) (p : Port) : State := { s with port := p }

theorem State.voiceReport_withPort (s : State) (p : Port) (v : Voice) :
    (s.withPort p).voiceReport v = (s.voiceReport v).withPort p := by
  have voice : (s.withPort p).voice v = s.voice v := rfl
  have heard : (s.withPort p).voiceHeard v = s.voiceHeard v := rfl
  unfold State.voiceReport
  rw [voice, heard]
  dsimp only
  split <;> rfl

theorem State.noteHeld_withPort (s : State) (p : Port) (x : Path) : (s.withPort p).noteHeld x = (s.noteHeld x).withPort p := by
  have ann : (s.withPort p).ann x = s.ann x := rfl
  unfold State.noteHeld
  rw [ann]
  dsimp only
  split <;> rfl

theorem State.reports_withPort (s : State) (p : Port) : (s.withPort p).reports = s.reports.withPort p := by
  simp only [State.reports, State.voiceReport_withPort, State.noteHeld_withPort]

theorem State.deliverFree_withPort (s : State) (p : Port) (old : Nat) :
    (s.withPort p).deliverFree old = (s.deliverFree old).withPort p := by
  unfold State.deliverFree State.deliverChange
  split
  · rw [if_pos (by assumption)]
  · rw [if_neg (by assumption)]
    rfl

theorem State.captureOpen_withPort (s : State) (p : Port) :
    (s.withPort p).captureOpen = s.captureOpen.map (fun r => (r.1, r.2.withPort p)) := by
  have pool : (s.withPort p).pool = s.pool := rfl
  unfold State.captureOpen
  rw [pool]
  split
  · rfl
  · split
    · rfl
    · split
      · rfl
      · have mapPool (f : Pool → Pool) : (s.withPort p).mapPool f = (s.mapPool f).withPort p := rfl
        rw [mapPool, State.deliverFree_withPort]
        rfl

theorem State.beginCapture_withPort (s : State) (p : Port) (x : Path) :
    (s.withPort p).beginCapture x = (s.beginCapture x).withPort p := by
  unfold State.beginCapture
  rw [State.captureOpen_withPort]
  cases s.captureOpen <;> rfl

theorem State.captureFor_withPort (s : State) (p : Port) (x : Path) :
    (s.withPort p).captureFor x = (s.captureFor x).withPort p := by
  have capture : (s.withPort p).traf.capture = s.traf.capture := rfl
  have wants : (s.withPort p).wantsCapture x = s.wantsCapture x := rfl
  unfold State.captureFor
  rw [capture, wants]
  split
  · exact s.beginCapture_withPort p x
  · rfl

theorem State.tryCapture_withPort (s : State) (p : Port) : (s.withPort p).tryCapture = s.tryCapture.withPort p := by
  have ann (x : Path) : (s.withPort p).ann x = s.ann x := rfl
  simp only [State.tryCapture, ann, State.captureFor_withPort]
  split <;> rfl

theorem State.captureAfter_withPort (s base : State) (p q : Port) :
    (s.withPort p).captureAfter (base.withPort q) = (s.captureAfter base).withPort p := by
  have held (x : Path) : (s.withPort p).heldAnew (base.withPort q) x = s.heldAnew base x := rfl
  have capture : (base.withPort q).traf.capture = base.traf.capture := rfl
  simp only [State.captureAfter, held, capture, State.tryCapture_withPort]
  split <;> rfl

/-! ## The same part, the port apart -/

/-- The two differ in the port alone, and have the same notice flags. -/
def SameApart (s t : State) : Prop := s = t.withPort s.port ∧ s.port.flags = t.port.flags

/-- R185: what a raise does to the flags is the same on another port. -/
theorem SameApart.raise {s t : State} (h : SameApart s t) (n : Notice) : SameApart (s.raise n) (t.raise n) := by
  obtain ⟨hs, hf⟩ := h
  refine ⟨?_, ?_⟩
  · rw [hs]
    rfl
  · simp only [State.raise, State.mapPort_port, Port.raise_flags, hf]

theorem SameApart.mapRend {s t : State} (h : SameApart s t) (f : Renderer → Renderer) : SameApart (s.mapRend f) (t.mapRend f) :=
  ⟨congrArg (fun u => u.mapRend f) h.1, h.2⟩

theorem SameApart.mapArb {s t : State} (h : SameApart s t) (f : Arbiter → Arbiter) : SameApart (s.mapArb f) (t.mapArb f) :=
  ⟨congrArg (fun u => u.mapArb f) h.1, h.2⟩

theorem SameApart.setZone {s t : State} (h : SameApart s t) (z : Zone) (zs : ZoneState) :
    SameApart (s.setZone z zs) (t.setZone z zs) :=
  h.mapArb _

theorem SameApart.entReport {s t : State} (h : SameApart s t) (z : Zone) (b : Bool) :
    SameApart (s.entReport z b) (t.entReport z b) := by
  have ⟨hs, hf⟩ := h
  have zone : s.zone z = t.zone z := by rw [hs]; rfl
  have ent : s.entClaim z = t.entClaim z := by rw [hs]; rfl
  unfold State.entReport
  rw [zone, ent]
  dsimp only
  split
  · split
    · exact h.setZone z _
    · exact h
  · split
    · split
      · exact (h.setZone z _).raise _
      · exact h
    · split
      · exact (h.setZone z _).raise _
      · exact h

theorem State.reports_rest (s : State) : s.reports.port = s.port ∧ s.reports.arb = s.arb ∧ s.reports.rend = s.rend := by
  have voice (u : State) (v : Voice) :
      (u.voiceReport v).port = u.port ∧ (u.voiceReport v).arb = u.arb ∧ (u.voiceReport v).rend = u.rend := by
    unfold State.voiceReport
    dsimp only
    split <;> exact ⟨rfl, rfl, rfl⟩
  have held (u : State) (p : Path) :
      (u.noteHeld p).port = u.port ∧ (u.noteHeld p).arb = u.arb ∧ (u.noteHeld p).rend = u.rend := by
    unfold State.noteHeld
    dsimp only
    split <;> exact ⟨rfl, rfl, rfl⟩
  simp [State.reports, voice, held]

theorem SameApart.reports {s t : State} (h : SameApart s t) : SameApart s.reports t.reports := by
  obtain ⟨hs, hf⟩ := h
  refine ⟨?_, ?_⟩
  · rw [s.reports_rest.1, ← State.reports_withPort, ← hs]
  · rw [s.reports_rest.1, t.reports_rest.1, hf]

theorem SameApart.captureAfter {s t b c : State} (h : SameApart s t) (hb : SameApart b c) :
    SameApart (s.captureAfter b) (t.captureAfter c) := by
  obtain ⟨hs, hf⟩ := h
  refine ⟨?_, ?_⟩
  · rw [(s.captureAfter_rest b).1, ← State.captureAfter_withPort t c s.port b.port, ← hs, ← hb.1]
  · rw [(s.captureAfter_rest b).1, (t.captureAfter_rest c).1, hf]

theorem SameApart.evaluateTold {s t : State} (h : SameApart s t) (z : Zone) (fresh : List Source) (filed : Bool) :
    SameApart (s.evaluateTold z fresh filed) (t.evaluateTold z fresh filed) := by
  have ⟨hs, hf⟩ := h
  have zone : s.zone z = t.zone z := by rw [hs]; rfl
  have rows : s.arb.policy = t.arb.policy := by rw [hs]; rfl
  have profile : s.profile z = t.profile z := by rw [hs]; rfl
  unfold State.evaluateTold
  dsimp only
  rw [zone, rows, profile]
  exact (((h.setZone z _).mapRend _).entReport z _).reports

theorem SameApart.evaluateAfter {s t b c : State} (h : SameApart s t) (hb : SameApart b c) (z : Zone) (fresh : List Source)
    (filed : Bool) : SameApart (s.evaluateAfter b z fresh filed) (t.evaluateAfter c z fresh filed) :=
  (h.evaluateTold z fresh filed).captureAfter hb

theorem SameApart.taking (s : State) : SameApart s.taking s := ⟨rfl, s.taking_frame.2.2.1⟩
end Sys2Proof.Machine
end

section
/-! SUPPORT. The zone requests: ZONE.POLICY. -/

namespace Sys2Proof.Machine

theorem zoneOf_isNone {m : Nat} (h : 3 < m) : zoneOf m = none := by
  match m, h with
  | _ + 4, _ => rfl

theorem PolicyRows.get_set_same (p : PolicyRows) {row : Nat} (h : row ≤ 7) (e : Effect) : (p.set row e).get row = some e := by
  interval_cases row <;> rfl

theorem PolicyRows.get_set_ne (p : PolicyRows) {row n : Nat} (h : n ≠ row) (e : Effect) : (p.set row e).get n = p.get n := by
  unfold PolicyRows.set
  split <;> (unfold PolicyRows.get; split <;> simp_all)

/-- R6: the numbers 0 to 7 name the rows. -/
theorem PolicyRows.get_isSome (p : PolicyRows) {row : Nat} (h : row ≤ 7) : ∃ e, p.get row = some e := by
  interval_cases row <;> exact ⟨_, rfl⟩

theorem PolicyRows.get_eq_none (p : PolicyRows) {row : Nat} (h : 7 < row) : p.get row = none := by
  match row, h with
  | _ + 8, _ => rfl

/-- R7: the effect that a row takes from a request which names one. -/
def namedEffect (e : EffectName) (depth : Nat) : Effect :=
  match e with
  | .exclusive => .exclusive
  | .duck => .duck (min depth 160)
  | .mix => .mix

theorem rowEffect_named {row : Nat} {e : EffectName} (depth : Nat) (h : row = 0 → e = .mix) :
    rowEffect row (some e) depth = some (namedEffect e depth, decide (e = .duck ∧ 160 < depth)) := by
  cases row with
  | zero => simp [h rfl, rowEffect, namedEffect]
  | succ n => cases e <;> simp [rowEffect, namedEffect]

theorem rowEffect_eq_none {row : Nat} {e : Option EffectName} (depth : Nat) (h : e = none ∨ (row = 0 ∧ e ≠ some .mix)) :
    rowEffect row e depth = none := by
  obtain rfl | ⟨rfl, he⟩ := h
  · cases row <;> rfl
  · rcases e with _ | _ | _ | _
    · rfl
    · rfl
    · rfl
    · exact absurd rfl he

/-- R7: the policy with one row of one zone replaced. -/
def Arbiter.withRow (a : Arbiter) (z : Zone) (row : Nat) (e : Effect) : Arbiter :=
  { a with policy := a.policy.set z ((a.policy.get z).set row e) }

theorem State.setRow_eq (s : State) (z : Zone) (row : Nat) (e : Effect) :
    s.setRow z row e = (s.mapArb (·.withRow z row e)).evaluate z [] := rfl

/-- R7: the row is as it was and nothing happens, or the zone is evaluated with it. -/
def State.editRow (s : State) (z : Zone) (row : Nat) (e : Effect) : State :=
  if (s.arb.policy.get z).get row = some e then s else s.setRow z row e

theorem exec_zonePolicy (q : Byte) (m row : Nat) (e : Option EffectName) (depth : Nat) (s : State) :
    exec (.zonePolicy q m row e depth) s = execZonePolicy q m row e depth s := rfl

/-- An accepted ZONE.POLICY edits the row. -/
theorem zonePolicy_accepted {s : State} {q : Byte} {m row depth : Nat} {z : Zone} {e : EffectName} (hs : Serves s)
    (hz : zoneOf m = some z) (hr : row ≤ 7) (he : row = 0 → e = .mix) :
    exec (.zonePolicy q m row (some e) depth) s =
      .next ((s.taking.editRow z row (namedEffect e depth)).reply 0x11 q
        (.done (.policyRow (namedEffect e depth) (decide (e = .duck ∧ 160 < depth))))) := by
  obtain ⟨old, hold⟩ := (s.taking.arb.policy.get z).get_isSome hr
  have edit : s.taking.editRow z row (namedEffect e depth) =
      if namedEffect e depth = old then s.taking else s.taking.setRow z row (namedEffect e depth) := by
    simp only [State.editRow, hold, Option.some.injEq, eq_comm]
  rw [edit]
  simp only [exec_zonePolicy, execZonePolicy, serve_runOnly hs, hz, hold, rowEffect_named depth he, report]
  rfl

theorem State.setRow_policy (s : State) (z : Zone) (row : Nat) (e : Effect) :
    (s.setRow z row e).arb.policy = (s.arb.withRow z row e).policy := by
  simp [State.setRow_eq]

/-- The rows other than the one replaced, and those of the other zones, stay. -/
theorem State.editRow_policy (s : State) (z : Zone) {row : Nat} (hr : row ≤ 7) (e : Effect) :
    ((s.editRow z row e).arb.policy.get z).get row = some e ∧
    (∀ n, n ≠ row → ((s.editRow z row e).arb.policy.get z).get n = (s.arb.policy.get z).get n) ∧
    ∀ y, y ≠ z → (s.editRow z row e).arb.policy.get y = s.arb.policy.get y := by
  unfold State.editRow
  split
  next h => exact ⟨h, fun _ _ => rfl, fun _ _ => rfl⟩
  next h =>
    rw [State.setRow_policy, Arbiter.withRow, PerZone.get_set_same]
    exact ⟨PolicyRows.get_set_same _ hr e, fun n hn => PolicyRows.get_set_ne _ hn e, fun y hy => PerZone.get_set_ne _ _ hy.symm⟩

theorem State.editRow_frame (s : State) (z : Zone) (row : Nat) (e : Effect) :
    ClaimFrame { s with arb := { s.arb with policy := (s.editRow z row e).arb.policy } } (s.editRow z row e) := by
  unfold State.editRow
  split
  · simp [ClaimFrame]
  · simp [State.setRow_eq, ClaimFrame, Arbiter.withRow]

/-- R7: a row that is not the one the zone had is followed by an evaluation, which is the same on the state that the request found. -/
theorem State.editRow_evaluates {s : State} {z : Zone} {row : Nat} {e : Effect} (h : (s.arb.policy.get z).get row ≠ some e) :
    let v := s.taking.editRow z row e
    let t := State.evaluate { s with arb := { s.arb with policy := v.arb.policy } } z []
    SameApart v t ∧ (s.port.tx.any TxFrame.isReply = false → v = t) := by
  have edited (u : State) (hu : u.arb = s.arb) : u.editRow z row e = (u.mapArb (·.withRow z row e)).evaluate z [] := by
    rw [State.editRow, hu, if_neg h, State.setRow_eq]
  have same : ({ s with arb := { s.arb with policy := (s.taking.editRow z row e).arb.policy } } : State) =
      s.mapArb (·.withRow z row e) := by
    rw [edited s.taking rfl]
    simp [State.mapArb, Arbiter.withRow]
  dsimp only
  rw [same, edited s.taking rfl]
  have apart := (SameApart.taking s).mapArb (·.withRow z row e)
  exact ⟨apart.evaluateAfter apart z [] false, fun hn => by rw [State.taking_of_none hn]⟩

/-- Settles O19: the effect is the edit on the state in which the reply before has left. -/
theorem zonePolicyReplacesOneRow : Obligations.ZonePolicyReplacesOneRow := by
  refine ⟨fun s q m z row e depth hs hz hr he => ?_, fun s q m row e depth hs h => ?_⟩
  · have frame := s.taking.editRow_frame z row (namedEffect e depth)
    obtain ⟨same, others, zones⟩ := s.taking.editRow_policy z hr (namedEffect e depth)
    have line : (s.taking.editRow z row (namedEffect e depth)).port.lineOut = s.taking.port.lineOut := by
      simp_all only [ClaimFrame]
    have count : (s.taking.editRow z row (namedEffect e depth)).port.tx.countP TxFrame.isReply =
        s.taking.port.tx.countP TxFrame.isReply := by
      simp_all only [ClaimFrame]
    refine ⟨s.untaken (s.taking.editRow z row (namedEffect e depth)),
      ⟨_, zonePolicy_accepted hs hz hr he, repliesWith_untaken _ _ _ count line⟩,
      @ClaimFrame.untaken { s with arb := _ } _ frame, same, others, zones, fun h => ?_, fun h => ?_⟩
    · have kept : s.taking.editRow z row (namedEffect e depth) = s.taking := if_pos h
      rw [kept, s.untaken_taking]
    · obtain ⟨⟨apart, flags⟩, equal⟩ := State.editRow_evaluates h
      refine ⟨?_, flags, fun hn => ?_⟩
      · exact congrArg (fun v => s.untaken v) apart
      · have line' : (s.taking.editRow z row (namedEffect e depth)).port.lineOut = s.port.lineOut := by
          rw [line, State.taking_of_none hn]
        exact congrArg State.port ((State.untaken_of_none hn line').trans (equal hn))
  · refine answers_runOnly 1 1 hs (exec_zonePolicy ..) rfl ?_
    cases hz : zoneOf m with
    | none => rfl
    | some z =>
      dsimp only
      rcases h with hm | hr | he
      · rw [zoneOf_isNone hm] at hz
        cases hz
      · rw [PolicyRows.get_eq_none _ hr]
        rfl
      · rw [rowEffect_eq_none depth he]
        cases (s.taking.arb.policy.get z).get row <;> rfl
end Sys2Proof.Machine
end

section
/-! SUPPORT. What an evaluation tells: the entertainment report, and the voices' states. -/

namespace Sys2Proof.Machine

@[simp] theorem State.setZone_zone (s : State) (z : Zone) (zs : ZoneState) : (s.setZone z zs).zone z = zs :=
  PerZone.get_set_same ..

theorem State.setZone_zone_ne (s : State) {y z : Zone} (h : y ≠ z) (zs : ZoneState) : (s.setZone z zs).zone y = s.zone y :=
  PerZone.get_set_ne _ _ h.symm

/-! ## The entertainment report (R18) -/

/-- R18: whether HELD is reported, `before` saying whether it was and `ent` being the ENTERTAINMENT claim. -/
def heldAfter (before mayHold : Bool) : Option Claim → Bool
  | none => false
  | some c => if before then !c.state.sounds else mayHold && decide (c.state = .held) && !c.yielding

/-- R18: the notice that a change of the report raises. -/
def reportNotice (z : Zone) (before after : Bool) : Option Claim → Option Notice
  | none => none
  | some _ => if before = after then none else if after then some (.entHeld z) else some (.entResumed z)

/-- The port after a notice, if any. -/
def Port.raiseOpt (p : Port) : Option Notice → Port
  | none => p
  | some n => p.raise n

theorem State.setZone_same (s : State) (z : Zone) : s.setZone z (s.zone z) = s := by
  have policy (p : PerZone ZoneState) : p.set z (p.get z) = p := by cases z <;> rfl
  rw [State.setZone, State.mapArb, State.zone, policy]

/-- R18: the report of one zone and its notice are all that changes. -/
theorem State.entReport_eq (s : State) (z : Zone) (mayHold : Bool) :
    let after := heldAfter (s.zone z).entHeld mayHold (s.entClaim z)
    s.entReport z mayHold = (s.setZone z { s.zone z with entHeld := after }).mapPort
      (·.raiseOpt (reportNotice z (s.zone z).entHeld after (s.entClaim z))) := by
  have kept (b : Bool) (h : (s.zone z).entHeld = b) : s = (s.setZone z { s.zone z with entHeld := b }).mapPort (·.raiseOpt none) := by
    subst h
    exact (s.setZone_same z).symm
  unfold State.entReport
  dsimp only
  cases hc : s.entClaim z with
  | none =>
    cases hb : (s.zone z).entHeld with
    | false => exact kept false hb
    | true => rfl
  | some c =>
    cases hb : (s.zone z).entHeld with
    | false =>
      by_cases hh : mayHold = true ∧ c.state = .held ∧ c.yielding = false
      · simp [heldAfter, reportNotice, hh, State.raise, Port.raiseOpt]
      · have after : heldAfter false mayHold (some c) = false := by simpa [heldAfter] using hh
        simp only [hh, after, reportNotice, if_true, if_false, Bool.false_eq_true]
        exact kept false hb
    | true =>
      cases hsound : c.state.sounds with
      | false =>
        simp only [heldAfter, hsound, reportNotice, if_true, Bool.not_false, if_false, Bool.false_eq_true]
        exact kept true hb
      | true => simp [heldAfter, hsound, reportNotice, State.raise, Port.raiseOpt]

theorem Port.raiseOpt_sets (p : Port) (n : Notice) (h : n.num < 64) : (p.raiseOpt (some n)).flags.getLsbD n.num = true :=
  p.raise_sets n h

/-! ## The voices (R17, R88) -/

/-- R88: a voice after a report. -/
def VoiceRec.told (r : VoiceRec) (heard : Bool) : VoiceRec :=
  { r with state := if heard then (if r.state = .waitingZone then .playing else r.state)
                    else (if r.state = .playing then .waitingZone else r.state) }

theorem State.voiceReport_eq (s : State) (v : Voice) :
    s.voiceReport v = s.setVoice v ((s.voice v).told (s.voiceHeard v)) := by
  have same : s.setVoice v (s.voice v) = s := by cases v <;> rfl
  have stays (h : (s.voice v).told (s.voiceHeard v) = s.voice v) : s = s.setVoice v ((s.voice v).told (s.voiceHeard v)) := by
    rw [h, same]
  unfold State.voiceReport
  dsimp only
  split
  next hs hh => simp only [VoiceRec.told, hs, hh, Bool.false_eq_true, if_false, if_true]
  next hs hh => simp only [VoiceRec.told, hs, hh, if_true]
  next hp hw =>
    refine stays ?_
    cases hh : s.voiceHeard v with
    | false =>
      have : (s.voice v).state ≠ .playing := fun h => hp h hh
      simp only [VoiceRec.told, Bool.false_eq_true, if_false, if_neg this]
    | true =>
      have : (s.voice v).state ≠ .waitingZone := fun h => hw h hh
      simp only [VoiceRec.told, if_true, if_neg this]

theorem State.noteHeld_voc (s : State) (p : Path) : (s.noteHeld p).voc = s.voc := by
  unfold State.noteHeld
  dsimp only
  split <;> rfl

/-- R17: each voice learns whether one of its claims sounds. -/
theorem State.reports_voice (s : State) (v : Voice) : s.reports.voice v = (s.voice v).told (s.voiceHeard v) := by
  simp only [State.reports, State.voice, State.noteHeld_voc, State.voiceReport_eq]
  cases v <;> rfl

theorem sounds_iff (c : ClaimState) : c.sounds = true ↔ c = .audible ∨ ∃ d, c = .ducked d := by
  cases c <;> simp [ClaimState.sounds]

/-- R17: some claim of the voice is AUDIBLE or DUCKED. -/
theorem State.voiceHeard_iff (s : State) (v : Voice) :
    s.voiceHeard v = true ↔ ∃ x c, s.claim x (voiceSource v) = some c ∧ (c.state = .audible ∨ ∃ d, c.state = .ducked d) := by
  simp only [State.voiceHeard, List.any_eq_true, ← sounds_iff]
  constructor
  · rintro ⟨x, -, h⟩
    split at h
    next c hc => exact ⟨x, c, hc, h⟩
    next => cases h
  · rintro ⟨x, c, hc, h⟩
    refine ⟨x, by cases x <;> simp [Zone.all], ?_⟩
    rw [hc]
    exact h
end Sys2Proof.Machine
end

section
/-! SUPPORT. Telling what an evaluation has done, and the expiry of a yield timer. -/

namespace Sys2Proof.Machine

/-- R17, R18: the reports that follow a change of a zone's list, up to the capture that may begin. -/
def State.tell (s base : State) (z : Zone) (mayHold : Bool) : State := ((s.entReport z mayHold).reports).captureAfter base

theorem State.voiceHeard_of_arb {s t : State} (h : t.arb = s.arb) (v : Voice) : t.voiceHeard v = s.voiceHeard v := by
  simp only [State.voiceHeard, State.claim, State.zone, h]

theorem State.tell_arb (s base : State) (z : Zone) (mayHold : Bool) :
    (s.tell base z mayHold).arb = (s.entReport z mayHold).arb := by
  rw [State.tell, (State.captureAfter_rest _ base).2.1, (State.reports_rest _).2.1]

theorem State.tell_zone (s base : State) (z : Zone) (mayHold : Bool) :
    (s.tell base z mayHold).zone z = { s.zone z with entHeld := heldAfter (s.zone z).entHeld mayHold (s.entClaim z) } := by
  rw [State.zone, State.tell_arb, State.entReport_eq]
  exact State.setZone_zone ..

theorem State.tell_zone_ne (s base : State) {y z : Zone} (h : y ≠ z) (mayHold : Bool) :
    (s.tell base z mayHold).zone y = s.zone y := by
  rw [State.zone, State.tell_arb, State.entReport_eq]
  exact State.setZone_zone_ne s h _

theorem State.tell_entClaim (s base : State) (z : Zone) (mayHold : Bool) :
    (s.tell base z mayHold).entClaim z = s.entClaim z := by
  rw [State.entClaim, State.tell_zone]
  rfl

theorem State.tell_rend (s base : State) (z : Zone) (mayHold : Bool) : (s.tell base z mayHold).rend = s.rend := by
  rw [State.tell, (State.captureAfter_rest _ base).2.2.1, (State.reports_rest _).2.2, State.entReport_eq]
  rfl

theorem State.tell_port (s base : State) (z : Zone) (mayHold : Bool) :
    (s.tell base z mayHold).port = s.port.raiseOpt (reportNotice z (s.zone z).entHeld
      (heldAfter (s.zone z).entHeld mayHold (s.entClaim z)) (s.entClaim z)) := by
  rw [State.tell, (State.captureAfter_rest _ base).1, (State.reports_rest _).1, State.entReport_eq]
  rfl

/-- R18: a report that stays as it was, or has no claim, raises nothing. -/
theorem State.tell_port_same {s base : State} {z : Zone} {mayHold : Bool}
    (h : ((s.tell base z mayHold).zone z).entHeld = (s.zone z).entHeld ∨ s.entClaim z = none) :
    (s.tell base z mayHold).port = s.port := by
  rw [State.tell_zone] at h
  rw [State.tell_port]
  cases hc : s.entClaim z with
  | none => rfl
  | some c =>
    have same : (s.zone z).entHeld = heldAfter (s.zone z).entHeld mayHold (some c) := by simpa [hc, eq_comm] using h
    simp only [reportNotice, if_pos same]
    rfl

theorem Notice.entHeld_num_lt (z : Zone) : (Notice.entHeld z).num < 64 := by cases z <;> decide

theorem Notice.entResumed_num_lt (z : Zone) : (Notice.entResumed z).num < 64 := by cases z <;> decide

/-- R18: ENT_HELD with a report that becomes HELD. -/
theorem State.tell_raises_held {s base : State} {z : Zone} {mayHold : Bool} (hb : (s.zone z).entHeld = false)
    (ha : ((s.tell base z mayHold).zone z).entHeld = true) :
    (s.tell base z mayHold).port.flags.getLsbD (2 + z.num) = true := by
  rw [State.tell_zone] at ha
  rw [State.tell_port]
  cases hc : s.entClaim z with
  | none => simp [hc, heldAfter] at ha
  | some c =>
    have after : heldAfter false mayHold (some c) = true := by simpa [hb, hc] using ha
    simp only [reportNotice, hb, after, Bool.false_eq_true, if_false, if_true]
    exact Port.raiseOpt_sets _ (.entHeld z) (Notice.entHeld_num_lt z)

/-- R18: ENT_RESUMED with a HELD report whose claim sounds again. -/
theorem State.tell_raises_resumed {s base : State} {z : Zone} {mayHold : Bool} (hb : (s.zone z).entHeld = true)
    (ha : ((s.tell base z mayHold).zone z).entHeld = false) (hc : s.entClaim z ≠ none) :
    (s.tell base z mayHold).port.flags.getLsbD (6 + z.num) = true := by
  rw [State.tell_zone] at ha
  rw [State.tell_port]
  cases hc' : s.entClaim z with
  | none => exact absurd hc' hc
  | some c =>
    have after : heldAfter true mayHold (some c) = false := by simpa [hb, hc'] using ha
    simp only [reportNotice, hb, after, Bool.true_eq_false, Bool.false_eq_true, if_false]
    exact Port.raiseOpt_sets _ (.entResumed z) (Notice.entResumed_num_lt z)

/-- R17, R88: each voice is told whether a claim of it sounds now. -/
theorem State.tell_voice (s base : State) (z : Zone) (mayHold : Bool) (v : Voice) :
    (s.tell base z mayHold).voice v = (s.voice v).told ((s.tell base z mayHold).voiceHeard v) := by
  have heard : (s.tell base z mayHold).voiceHeard v = (s.entReport z mayHold).voiceHeard v :=
    State.voiceHeard_of_arb (s.tell_arb base z mayHold) v
  have voice : (s.tell base z mayHold).voice v = (s.entReport z mayHold).reports.voice v := by
    rw [State.voice, State.tell, (State.captureAfter_rest _ base).2.2.2]
    rfl
  have report : (s.entReport z mayHold).voice v = s.voice v := by
    rw [State.entReport_eq]
    rfl
  rw [voice, State.reports_voice, heard, report]

/-- The same, in the statements' words. -/
theorem VoiceRec.told_cases {r t : VoiceRec} {b : Bool} {heard : Prop} (h : t = r.told b) (hb : b = true ↔ heard) :
    (heard → t = { r with state := if r.state = .waitingZone then .playing else r.state }) ∧
    (¬ heard → t = { r with state := if r.state = .playing then .waitingZone else r.state }) := by
  subst h
  cases b with
  | false => exact ⟨fun hh => absurd (hb.2 hh) Bool.false_ne_true, fun _ => rfl⟩
  | true => exact ⟨fun _ => rfl, fun hh => absurd (hb.1 rfl) hh⟩
end Sys2Proof.Machine
end

section
namespace Sys2Proof.Machine

/-! ## Lists of claims that differ in states and marks alone -/

/-- A claim without its state and its yielding mark: what an evaluation leaves. -/
def Claim.label (c : Claim) : Claim := { c with state := .held, yielding := false }

theorem leadingOf_map_label (rows : PolicyRows) (cs : List Claim) : leadingOf rows (cs.map Claim.label) = leadingOf rows cs := by
  have effect : ((fun c : Claim => c.effect rows != .mix) ∘ Claim.label) = fun c => c.effect rows != .mix := rfl
  unfold leadingOf
  rw [List.find?_map, effect]
  cases cs.find? (fun c => c.effect rows != .mix) with
  | none => cases cs <;> rfl
  | some c => rfl

/-- R9: the leading claim depends on the labels alone. -/
theorem leadingOf_of_labels {rows : PolicyRows} {cs ds : List Claim} (h : cs.map Claim.label = ds.map Claim.label) :
    leadingOf rows cs = leadingOf rows ds := by
  rw [← leadingOf_map_label rows cs, h, leadingOf_map_label]

theorem map_label_zipWith {f : Claim → ClaimState → Claim} (hf : ∀ c n, (f c n).label = c.label) {cs : List Claim}
    {ns : List ClaimState} (h : ns.length = cs.length) : (List.zipWith f cs ns).map Claim.label = cs.map Claim.label := by
  induction cs generalizing ns with
  | nil => rfl
  | cons c cs ih =>
    cases ns with
    | nil => cases h
    | cons n ns => simp [hf, ih (Nat.succ.inj h)]

/-! ## Natural states (R8) -/

theorem Above.natural_ne_waiting (a : Above) : a.natural ≠ .waiting := by
  unfold Above.natural
  (repeat' split) <;> simp

theorem naturals_ne_waiting (rows : PolicyRows) (a : Above) (cs : List Claim) : ∀ n ∈ naturals rows a cs, n ≠ .waiting := by
  induction cs generalizing a with
  | nil => simp [naturals]
  | cons c cs ih =>
    simp only [naturals, List.mem_cons]
    rintro n (rfl | h)
    · exact a.natural_ne_waiting
    · exact ih _ n h

theorem admitWaiting_eq_zipWith (cs : List Claim) (ns : List ClaimState) :
    admitWaiting cs ns = List.zipWith (fun c n => if c.state = .waiting then { c with state := n } else c) cs ns := by
  induction cs generalizing ns with
  | nil => cases ns <;> rfl
  | cons c cs ih =>
    cases ns with
    | nil => rfl
    | cons n ns => simp [admitWaiting, ih]

/-! ## The expiry (R15) -/

/-- R15: a claim at the expiry, given its natural state. -/
def Claim.expire (c : Claim) (n : ClaimState) : Claim :=
  { c with state := if c.state = .waiting then n else c.state, yielding := false }

theorem Claim.expire_label (c : Claim) (n : ClaimState) : (c.expire n).label = c.label := rfl

/-- R15: the claims of a zone after the expiry of its yield timer. -/
def expired (rows : PolicyRows) (cs : List Claim) : List Claim := List.zipWith Claim.expire cs (naturals rows Above.none cs)

theorem expired_eq (rows : PolicyRows) (cs : List Claim) :
    (admitWaiting cs (naturals rows Above.none cs)).map (fun c => { c with yielding := false }) = expired rows cs := by
  rw [admitWaiting_eq_zipWith, List.map_zipWith, expired]
  congr 1
  funext c n
  unfold Claim.expire
  split <;> rfl

theorem expired_admitted (rows : PolicyRows) (cs : List Claim) : ∀ c ∈ expired rows cs, c.state ≠ .waiting ∧ c.yielding = false := by
  intro d hd
  obtain ⟨i, hi⟩ := List.mem_iff_getElem?.1 hd
  obtain ⟨c, n, -, hn, rfl⟩ := List.getElem?_zipWith_eq_some.1 hi
  refine ⟨?_, rfl⟩
  unfold Claim.expire
  dsimp only
  split
  · exact naturals_ne_waiting rows Above.none cs n (List.mem_of_getElem? hn)
  · assumption

/-- R15: the renderer after the expiry. -/
def Renderer.unmarkZone (r : Renderer) (z : Zone) : Renderer := Source.all.foldl (fun r src => r.mapMix z src MixPoint.unmark) r

/-- R15: a zone whose yield timer has run out, up to its report. -/
def ZoneState.expired (zs : ZoneState) (rows : PolicyRows) : ZoneState :=
  { zs with claims := Machine.expired rows zs.claims, yieldTimer := none,
            leading := leadingOf rows (Machine.expired rows zs.claims) }

/-- R15: the part with the expired list, before anything is told of it. -/
def State.expiring (s : State) (z : Zone) : State :=
  (s.setZone z ((s.zone z).expired (s.arb.policy.get z))).mapRend (·.unmarkZone z)

theorem State.mapRend_zone (s : State) (f : Renderer → Renderer) (z : Zone) : (s.mapRend f).zone z = s.zone z := rfl

theorem State.expiring_zone (s : State) (z : Zone) : (s.expiring z).zone z = (s.zone z).expired (s.arb.policy.get z) := by
  rw [State.expiring, State.mapRend_zone, State.setZone_zone]

theorem State.expiring_zone_ne (s : State) {y z : Zone} (h : y ≠ z) : (s.expiring z).zone y = s.zone y := by
  rw [State.expiring, State.mapRend_zone, State.setZone_zone_ne _ h]

/-- R15: an expiry is told with its list. -/
theorem State.yieldExpired_eq (s : State) (z : Zone) : s.yieldExpired z = (s.expiring z).tell s z true := by
  rw [State.expiring, ZoneState.expired, ← expired_eq]
  rfl

/-- R18: with every claim admitted and unmarked, the report after an expiry is HELD exactly where the ENTERTAINMENT claim is. -/
theorem heldAfter_expired {before : Bool} {c : Option Claim} (h : ∀ d, c = some d → d.state ≠ .waiting ∧ d.yielding = false) :
    heldAfter before true c = true ↔ c.map Claim.state = some .held := by
  cases c with
  | none => simp [heldAfter]
  | some d =>
    obtain ⟨hw, hy⟩ := h d rfl
    cases before <;> cases hs : d.state <;> simp_all [heldAfter, ClaimState.sounds]

/-- The claim after the expiry is one of its list. -/
theorem State.entClaim_mem {s : State} {z : Zone} {c : Claim} (h : s.entClaim z = some c) : c ∈ (s.zone z).claims :=
  List.mem_of_find?_eq_some h

/-- Settles O21: the list of the expiry, and the telling that follows. -/
theorem yieldTimerExpires : Obligations.YieldTimerExpires := by
  refine ⟨fun s z hrun hdue => ?_, fun s z hdue => ?_⟩
  · have ran : exec (.yieldExpiry z) s = .next (s.yieldExpired z) := by
      simp only [exec, execYieldExpiry, State.running_iff, hrun, hdue, and_self, if_true]
    have zone := s.expiring_zone z
    have lead : leadingOf (s.arb.policy.get z) (expired (s.arb.policy.get z) (s.zone z).claims) =
        leadingOf (s.arb.policy.get z) (s.zone z).claims :=
      leadingOf_of_labels (map_label_zipWith Claim.expire_label (naturals_length ..))
    have admitted : ∀ c ∈ ((s.expiring z).zone z).claims, c.state ≠ .waiting ∧ c.yielding = false := by
      rw [zone]
      exact expired_admitted _ _
    have before : ((s.expiring z).zone z).entHeld = (s.zone z).entHeld := by
      rw [zone]
      rfl
    have ent := (s.expiring z).tell_entClaim s z true
    have frame := s.yieldExpired_frame z
    have held : (((s.expiring z).tell s z true).zone z).entHeld = true ↔ ((s.expiring z).tell s z true).entState z = some .held := by
      rw [State.tell_zone, State.entState, ent]
      exact heldAfter_expired fun d hd => admitted d (State.entClaim_mem hd)
    rw [State.yieldExpired_eq] at ran frame
    refine ⟨_, ran, frame, ?_, ?_, ?_, ?_, fun y hy => ?_, held, fun hb ha => ?_, fun hb ha hc => ?_, fun h => ?_, fun v => ?_⟩
    · rw [State.tell_zone, zone]
      rfl
    · rw [State.tell_zone, zone]
      rfl
    · rw [State.tell_zone]
      exact admitted
    · rw [State.tell_zone, zone]
      exact lead
    · rw [State.tell_zone_ne _ _ hy, State.expiring_zone_ne _ hy]
    · exact State.tell_raises_held (before.trans hb) ha
    · refine State.tell_raises_resumed (before.trans hb) ha fun hn => ?_
      rw [State.entState, ent, hn] at hc
      cases hc
    · refine State.tell_port_same ?_
      rw [before, ← ent]
      simpa [State.entState] using h
    · exact VoiceRec.told_cases (State.tell_voice ..) (State.voiceHeard_iff ..)
  · have idle : ¬ (s.running = true ∧ (s.zone z).yieldTimer = some 0) := fun h => hdue h.2
    simp only [exec, execYieldExpiry, if_neg idle]
end Sys2Proof.Machine
end

section
/-! SUPPORT. The evaluation of a zone's list: natural states, each claim's treatment, the timer. -/

namespace Sys2Proof.Machine

/-! ## Natural states (R8) -/

/-- What the claims of a list exert together. -/
def aboveOf (rows : PolicyRows) (a : Above) (cs : List Claim) : Above := cs.foldl (fun a c => a.add (c.effect rows)) a

/-- R8: a claim's natural state is what the claims above it give. -/
theorem naturals_getElem? (rows : PolicyRows) (a : Above) (cs : List Claim) (i : Nat) (n : ClaimState) :
    (naturals rows a cs)[i]? = some n ↔ i < cs.length ∧ n = (aboveOf rows a (cs.take i)).natural := by
  induction cs generalizing a i with
  | nil => simp [naturals]
  | cons c cs ih =>
    cases i with
    | zero => simp [naturals, aboveOf, eq_comm]
    | succ i => simp [naturals, ih, aboveOf]

theorem aboveOf_exclusive (rows : PolicyRows) (a : Above) (cs : List Claim) :
    (aboveOf rows a cs).exclusive = true ↔ a.exclusive = true ∨ ∃ c ∈ cs, c.effect rows = .exclusive := by
  induction cs generalizing a with
  | nil => simp [aboveOf]
  | cons c cs ih =>
    have step : aboveOf rows a (c :: cs) = aboveOf rows (a.add (c.effect rows)) cs := rfl
    rw [step, ih]
    cases he : c.effect rows <;> simp [Above.add, he]

/-- The depth that stands, of an earlier one, if any, and the depths of a list's claims. -/
def IsDepth (rows : PolicyRows) (a : Option Nat) (cs : List Claim) (d : Nat) : Prop :=
  (a = some d ∨ ∃ c ∈ cs, c.effect rows = .duck d) ∧ (∀ e, a = some e → e ≤ d) ∧ ∀ c ∈ cs, ∀ e, c.effect rows = .duck e → e ≤ d

theorem aboveOf_duck (rows : PolicyRows) (a : Above) (cs : List Claim) (d : Nat) :
    (aboveOf rows a cs).duck = some d ↔ IsDepth rows a.duck cs d := by
  induction cs generalizing a with
  | nil =>
    simp only [aboveOf, List.foldl_nil, IsDepth, List.not_mem_nil, false_and, exists_false, or_false, IsEmpty.forall_iff,
      implies_true, and_true]
    constructor
    · intro h
      exact ⟨h, fun e he => by rw [h] at he; cases he; rfl⟩
    · exact And.left
  | cons c cs ih =>
    have step : aboveOf rows a (c :: cs) = aboveOf rows (a.add (c.effect rows)) cs := rfl
    rw [step, ih]
    cases he : c.effect rows with
    | exclusive => simp [IsDepth, Above.add, he]
    | mix => simp [IsDepth, Above.add, he]
    | duck e =>
      cases ha : a.duck with
      | none => simp [IsDepth, Above.add, he, ha]
      | some b =>
        have larger (he : e ≤ d) (hb : b ≤ d) : max e b = d ↔ b = d ∨ e = d := by omega
        simp only [IsDepth, Above.add, he, ha, List.mem_cons, Option.some.injEq, forall_eq', forall_eq_or_imp, Effect.duck.injEq,
          exists_eq_or_imp, sup_le_iff]
        tauto

theorem aboveOf_no_duck (rows : PolicyRows) (a : Above) (cs : List Claim) :
    (aboveOf rows a cs).duck = none ↔ a.duck = none ∧ ∀ c ∈ cs, ∀ d, c.effect rows ≠ .duck d := by
  induction cs generalizing a with
  | nil => simp [aboveOf]
  | cons c cs ih =>
    have step : aboveOf rows a (c :: cs) = aboveOf rows (a.add (c.effect rows)) cs := rfl
    rw [step, ih]
    cases he : c.effect rows <;> simp [Above.add, he]

theorem Above.natural_held (a : Above) : a.natural = .held ↔ a.exclusive = true := by
  unfold Above.natural
  (repeat' split) <;> simp_all

theorem Above.natural_ducked (a : Above) (d : Nat) : a.natural = .ducked d ↔ a.exclusive = false ∧ a.duck = some d := by
  unfold Above.natural
  (repeat' split) <;> simp_all

theorem Above.natural_audible (a : Above) : a.natural = .audible ↔ a.exclusive = false ∧ a.duck = Option.none := by
  unfold Above.natural
  (repeat' split) <;> simp_all

/-- R8: the natural state of a claim under the claims above it. -/
theorem natural_under (rows : PolicyRows) (cs : List Claim) :
    ((aboveOf rows Above.none cs).natural = .held ↔ ∃ c ∈ cs, c.effect rows = .exclusive) ∧
    (∀ d, (aboveOf rows Above.none cs).natural = .ducked d ↔ (∀ c ∈ cs, c.effect rows ≠ .exclusive) ∧
      (∃ c ∈ cs, c.effect rows = .duck d) ∧ ∀ c ∈ cs, ∀ e, c.effect rows = .duck e → e ≤ d) ∧
    ((aboveOf rows Above.none cs).natural = .audible ↔ ∀ c ∈ cs, c.effect rows = .mix) := by
  have exclusive : (aboveOf rows Above.none cs).exclusive = true ↔ ∃ c ∈ cs, c.effect rows = .exclusive := by
    rw [aboveOf_exclusive]
    simp [Above.none]
  have none_exclusive : (aboveOf rows Above.none cs).exclusive = false ↔ ∀ c ∈ cs, c.effect rows ≠ .exclusive := by
    rw [← Bool.not_eq_true, exclusive]
    push Not
    rfl
  have duck (d : Nat) : (aboveOf rows Above.none cs).duck = some d ↔ (∃ c ∈ cs, c.effect rows = .duck d) ∧
      ∀ c ∈ cs, ∀ e, c.effect rows = .duck e → e ≤ d := by
    rw [aboveOf_duck]
    simp [IsDepth, Above.none]
  have held := (aboveOf rows Above.none cs).natural_held.trans exclusive
  have ducked (d : Nat) : (aboveOf rows Above.none cs).natural = .ducked d ↔ (∀ c ∈ cs, c.effect rows ≠ .exclusive) ∧
      (∃ c ∈ cs, c.effect rows = .duck d) ∧ ∀ c ∈ cs, ∀ e, c.effect rows = .duck e → e ≤ d := by
    rw [Above.natural_ducked, none_exclusive, duck]
  refine ⟨held, ducked, ?_⟩
  rw [Above.natural_audible, none_exclusive, aboveOf_no_duck]
  constructor
  · rintro ⟨hx, -, hd⟩ c hc
    cases he : c.effect rows with
    | exclusive => exact absurd he (hx c hc)
    | duck d => exact absurd he (hd c hc d)
    | mix => rfl
  · intro h
    refine ⟨fun c hc => ?_, rfl, fun c hc d => ?_⟩ <;> simp [h c hc]
end Sys2Proof.Machine
end

section
namespace Sys2Proof.Machine

/-! ## One claim's treatment (R11) -/

/-- A claim in the state sounds: the statements' words. -/
def Sounds (c : ClaimState) : Prop := c = .audible ∨ ∃ d, c = .ducked d

/-- R11: the state `n` is quieter than the sounding state `c`: the statements' words. -/
def Lower (n c : ClaimState) : Prop :=
  (c = .audible ∧ (n = .held ∨ ∃ d, n = .ducked d ∧ 0 < d)) ∨ ∃ e, c = .ducked e ∧ (n = .held ∨ ∃ d, n = .ducked d ∧ e < d)

theorem lower_iff {n c : ClaimState} (hn : n ≠ .waiting) :
    Lower n c ↔ c.sounds = true ∧ Gain.below (levelOf n) (levelOf c) = true := by
  cases c <;> cases n <;> simp_all [Lower, ClaimState.sounds, Gain.below, levelOf]

/-- R11: a claim is made quieter. -/
theorem isQuieter_iff {fresh : List Source} {c : Claim} {n : ClaimState} (hn : n ≠ .waiting) :
    isQuieter fresh c n = true ↔ c.source ∉ fresh ∧ Lower n c.state := by
  rw [lower_iff hn]
  simp [isQuieter, and_assoc]

/-- R11, R14: the claim after the evaluation, `running` saying that a yield runs and `cancel` that it ends with the evaluation. -/
def Claim.evaluated (y : Nat) (running cancel : Bool) (fresh : List Source) (c : Claim) (n : ClaimState) : Claim :=
  let t := treat y running fresh c n
  if cancel ∧ t.state = .waiting then { t with state := n } else t

theorem treat_label (y : Nat) (running : Bool) (fresh : List Source) (c : Claim) (n : ClaimState) :
    (treat y running fresh c n).label = c.label := by
  unfold treat
  (repeat' split) <;> rfl

theorem Claim.evaluated_label (y : Nat) (running cancel : Bool) (fresh : List Source) (c : Claim) (n : ClaimState) :
    (c.evaluated y running cancel fresh n).label = c.label := by
  unfold Claim.evaluated
  rw [← treat_label y running fresh c n]
  dsimp only
  split <;> rfl

/-- Claims of one label differ in state and mark alone. -/
theorem Claim.eq_of_label {c d : Claim} (h : d.label = c.label) : d = { c with state := d.state, yielding := d.yielding } := by
  cases c
  cases d
  simp_all [Claim.label]

/-- R14: the mark is that of the treatment, and a state other than WAITING too. -/
theorem Claim.evaluated_yielding (y : Nat) (running cancel : Bool) (fresh : List Source) (c : Claim) (n : ClaimState) :
    (c.evaluated y running cancel fresh n).yielding = (treat y running fresh c n).yielding := by
  unfold Claim.evaluated
  dsimp only
  split <;> rfl

theorem Claim.evaluated_state {y : Nat} {running cancel : Bool} {fresh : List Source} {c : Claim} {n : ClaimState}
    (h : (treat y running fresh c n).state ≠ .waiting) :
    (c.evaluated y running cancel fresh n).state = (treat y running fresh c n).state := by
  simp only [Claim.evaluated, h, and_false, if_false]

/-- R11: a sounding claim, or a HELD one with the mark, that is not fresh is treated with its natural state. -/
theorem treat_standing (y : Nat) (running : Bool) {fresh : List Source} {c : Claim} (n : ClaimState) (hf : c.source ∉ fresh)
    (hs : c.state.sounds = true ∨ (c.state = .held ∧ c.yielding = true)) :
    treat y running fresh c n =
      { c with state := n, yielding := if isQuieter fresh c n then (if y = 0 then c.yielding else true)
                                       else if n = c.state then c.yielding else if n.sounds then false else c.yielding } := by
  have standing : (fresh.contains c.source || !(c.state.sounds || (c.state == .held && c.yielding))) = false := by
    rcases hs with h | ⟨h, hy⟩ <;> simp_all
  simp only [treat, standing, Bool.false_eq_true, if_false]
  split
  · rfl
  · split
    next h => cases c; simp_all
    next => rfl

/-- R11, R13: the other claims are HELD, WAITING or in their natural state, and carry no mark. -/
theorem treat_entering (y : Nat) (running : Bool) {fresh : List Source} {c : Claim} (n : ClaimState)
    (h : c.source ∈ fresh ∨ c.state = .waiting ∨ (c.state = .held ∧ c.yielding = false)) :
    treat y running fresh c n =
      { c with state := if n.sounds then (if running then .waiting else n) else .held, yielding := false } := by
  have entering : (fresh.contains c.source || !(c.state.sounds || (c.state == .held && c.yielding))) = true := by
    rcases h with h | h | ⟨h, hy⟩ <;> simp_all [ClaimState.sounds]
  simp only [treat, entering, if_true]

theorem ClaimState.sounds_of_natural {n : ClaimState} (hn : n ≠ .waiting) : n.sounds = true ↔ n ≠ .held := by
  cases n <;> simp_all [ClaimState.sounds]

/-- R11: a claim made quieter. -/
theorem Claim.evaluated_lower {y : Nat} {running cancel : Bool} {fresh : List Source} {c : Claim} {n : ClaimState}
    (hn : n ≠ .waiting) (hl : Lower n c.state) (hf : c.source ∉ fresh) :
    (c.evaluated y running cancel fresh n).state = n ∧
    ((c.evaluated y running cancel fresh n).yielding = true ↔ y ≠ 0 ∨ c.yielding = true) := by
  have treated := treat_standing y running n hf (.inl ((lower_iff hn).1 hl).1)
  have quieter : isQuieter fresh c n = true := (isQuieter_iff hn).2 ⟨hf, hl⟩
  refine ⟨(Claim.evaluated_state (by rwa [treated])).trans (by rw [treated]), ?_⟩
  rw [Claim.evaluated_yielding, treated]
  by_cases hy : y = 0 <;> simp [quieter, hy]

/-- R11: a sounding claim that is not made quieter. -/
theorem Claim.evaluated_sounding {y : Nat} {running cancel : Bool} {fresh : List Source} {c : Claim} {n : ClaimState}
    (hn : n ≠ .waiting) (hs : Sounds c.state) (hl : ¬ Lower n c.state) (hf : c.source ∉ fresh) :
    (c.evaluated y running cancel fresh n).state = n ∧
    ((c.evaluated y running cancel fresh n).yielding = true ↔ n = c.state ∧ c.yielding = true) := by
  have sounds := (sounds_iff c.state).2 hs
  have treated := treat_standing y running n hf (.inl sounds)
  have louder : isQuieter fresh c n = false := by
    rw [Bool.eq_false_iff, Ne, isQuieter_iff hn]
    exact fun h => hl h.2
  have natural : n.sounds = true := by
    rw [ClaimState.sounds_of_natural hn]
    rintro rfl
    exact hl (hs.imp (fun h => ⟨h, .inl rfl⟩) fun ⟨d, h⟩ => ⟨d, h, .inl rfl⟩)
  refine ⟨(Claim.evaluated_state (by rwa [treated])).trans (by rw [treated]), ?_⟩
  rw [Claim.evaluated_yielding, treated]
  simp only [louder, natural, Bool.false_eq_true, if_false, if_true]
  by_cases h : n = c.state <;> simp [h]

/-- R11: a HELD claim with the mark. -/
theorem Claim.evaluated_marked {y : Nat} {running cancel : Bool} {fresh : List Source} {c : Claim} {n : ClaimState}
    (hn : n ≠ .waiting) (hh : c.state = .held) (hy : c.yielding = true) (hf : c.source ∉ fresh) :
    (c.evaluated y running cancel fresh n).state = n ∧
    ((c.evaluated y running cancel fresh n).yielding = true ↔ n = .held) := by
  have treated := treat_standing y running n hf (.inr ⟨hh, hy⟩)
  have louder : isQuieter fresh c n = false := by simp [isQuieter, hh, ClaimState.sounds]
  refine ⟨(Claim.evaluated_state (by rwa [treated])).trans (by rw [treated]), ?_⟩
  rw [Claim.evaluated_yielding, treated]
  by_cases h : n = .held
  · simp [h, hh, hy]
  · simp [louder, h, hh, (ClaimState.sounds_of_natural hn).2 h]

/-- R11, R13, R14: every other claim. -/
theorem Claim.evaluated_entering {y : Nat} {running cancel : Bool} {fresh : List Source} {c : Claim} {n : ClaimState}
    (hn : n ≠ .waiting) (h : c.source ∈ fresh ∨ c.state = .waiting ∨ (c.state = .held ∧ c.yielding = false)) :
    (c.evaluated y running cancel fresh n).yielding = false ∧
    (c.evaluated y running cancel fresh n).state =
      if n = .held then .held else if running = true ∧ cancel = false then .waiting else n := by
  have treated := treat_entering y running n h
  refine ⟨by rw [Claim.evaluated_yielding, treated], ?_⟩
  simp only [Claim.evaluated, treated]
  by_cases hh : n = .held
  · simp [hh, ClaimState.sounds]
  · simp only [hh, (ClaimState.sounds_of_natural hn).2 hh]
    cases running <;> cases cancel <;> simp [hn]
end Sys2Proof.Machine
end

section
namespace Sys2Proof.Machine

/-! ## The evaluated list (R11 to R15) -/

theorem treatAll_eq_zipWith (y : Nat) (running : Bool) (fresh : List Source) (cs : List Claim) (ns : List ClaimState) :
    treatAll y running fresh cs ns = List.zipWith (treat y running fresh) cs ns := by
  induction cs generalizing ns with
  | nil => cases ns <;> rfl
  | cons c cs ih =>
    cases ns with
    | nil => rfl
    | cons n ns => simp [treatAll, ih]

theorem admitWaiting_treatAll (y : Nat) (running : Bool) (fresh : List Source) (cs : List Claim) (ns : List ClaimState) :
    admitWaiting (treatAll y running fresh cs ns) ns = List.zipWith (Claim.evaluated y running true fresh) cs ns := by
  induction cs generalizing ns with
  | nil => cases ns <;> rfl
  | cons c cs ih =>
    cases ns with
    | nil => rfl
    | cons n ns => simp [treatAll, admitWaiting, ih, Claim.evaluated]

theorem evaluated_going_on (y : Nat) (running : Bool) (fresh : List Source) :
    Claim.evaluated y running false fresh = treat y running fresh := by
  funext c n
  simp [Claim.evaluated]

/-- The sources made quieter are those of the claims made quieter. -/
theorem mem_quieterSources (fresh : List Source) (cs : List Claim) (ns : List ClaimState) (src : Source) :
    src ∈ quieterSources fresh cs ns ↔
      ∃ (i : Nat) (c : Claim) (n : ClaimState), cs[i]? = some c ∧ ns[i]? = some n ∧ c.source = src ∧ isQuieter fresh c n = true := by
  induction cs generalizing ns with
  | nil => simp [quieterSources]
  | cons c cs ih =>
    cases ns with
    | nil => simp [quieterSources]
    | cons n ns =>
      have split_first : (∃ (i : Nat) (d : Claim) (m : ClaimState), (c :: cs)[i]? = some d ∧ (n :: ns)[i]? = some m ∧
            d.source = src ∧ isQuieter fresh d m = true) ↔
          (c.source = src ∧ isQuieter fresh c n = true) ∨ src ∈ quieterSources fresh cs ns := by
        rw [ih]
        constructor
        · rintro ⟨i, d, m, hd, hm, h⟩
          cases i with
          | zero =>
            obtain rfl : c = d := by simpa using hd
            obtain rfl : n = m := by simpa using hm
            exact .inl h
          | succ i => exact .inr ⟨i, d, m, by simpa using hd, by simpa using hm, h⟩
        · rintro (h | ⟨i, d, m, hd, hm, h⟩)
          · exact ⟨0, c, n, rfl, rfl, h⟩
          · exact ⟨i + 1, d, m, hd, hm, h⟩
      rw [split_first, quieterSources]
      split
      next h => simp [h, eq_comm]
      next h => simp [h]

/-- The sources that the evaluation of a zone makes quieter. -/
def ZoneState.quieter (zs : ZoneState) (rows : PolicyRows) (fresh : List Source) : List Source :=
  quieterSources fresh zs.claims (naturals rows Above.none zs.claims)

/-- R12: the timer, started or restarted. -/
def ZoneState.timerSet (zs : ZoneState) (rows : PolicyRows) (y : Nat) (fresh : List Source) : Option Nat :=
  if (zs.quieter rows fresh).isEmpty ∨ y = 0 then zs.yieldTimer else some y

/-- R14: a yield runs and no claim carries its mark any more. -/
def ZoneState.cancels (zs : ZoneState) (rows : PolicyRows) (y : Nat) (fresh : List Source) : Bool :=
  (zs.timerSet rows y fresh).isSome &&
    !(treatAll y (zs.timerSet rows y fresh).isSome fresh zs.claims (naturals rows Above.none zs.claims)).any Claim.yielding

/-- The evaluation of a zone, claim by claim. -/
theorem ZoneState.evaluate_eq (zs : ZoneState) (rows : PolicyRows) (y : Nat) (fresh : List Source) :
    zs.evaluate rows y fresh = { zs with
      claims := List.zipWith (Claim.evaluated y (zs.timerSet rows y fresh).isSome (zs.cancels rows y fresh) fresh) zs.claims
        (naturals rows Above.none zs.claims)
      yieldTimer := if zs.cancels rows y fresh then none else zs.timerSet rows y fresh
      leading := leadingOf rows zs.claims } := by
  unfold ZoneState.evaluate
  dsimp only
  cases hc : zs.cancels rows y fresh with
  | true =>
    have cond := Bool.and_eq_true_iff.1 hc
    refine (if_pos cond).trans ?_
    rw [← admitWaiting_treatAll]
    rfl
  | false =>
    have cond := mt Bool.and_eq_true_iff.2 (Bool.eq_false_iff.1 hc)
    refine (if_neg cond).trans ?_
    rw [evaluated_going_on, ← treatAll_eq_zipWith]
    rfl

theorem ZoneState.evaluate_getElem? (zs : ZoneState) (rows : PolicyRows) (y : Nat) (fresh : List Source) (i : Nat) (d : Claim) :
    (zs.evaluate rows y fresh).claims[i]? = some d ↔ ∃ c n, zs.claims[i]? = some c ∧
      (naturals rows Above.none zs.claims)[i]? = some n ∧
      c.evaluated y (zs.timerSet rows y fresh).isSome (zs.cancels rows y fresh) fresh n = d := by
  rw [ZoneState.evaluate_eq]
  exact List.getElem?_zipWith_eq_some

theorem ZoneState.evaluate_labels (zs : ZoneState) (rows : PolicyRows) (y : Nat) (fresh : List Source) :
    (zs.evaluate rows y fresh).claims.map Claim.label = zs.claims.map Claim.label := by
  rw [ZoneState.evaluate_eq]
  exact map_label_zipWith (fun c n => Claim.evaluated_label ..) (naturals_length ..)

theorem ZoneState.evaluate_length (zs : ZoneState) (rows : PolicyRows) (y : Nat) (fresh : List Source) :
    (zs.evaluate rows y fresh).claims.length = zs.claims.length := by
  simpa using congrArg List.length (zs.evaluate_labels rows y fresh)

/-- The marks after an evaluation are those of the treatment. -/
theorem ZoneState.evaluate_any_yielding (zs : ZoneState) (rows : PolicyRows) (y : Nat) (fresh : List Source) :
    (zs.evaluate rows y fresh).claims.any Claim.yielding =
      (treatAll y (zs.timerSet rows y fresh).isSome fresh zs.claims (naturals rows Above.none zs.claims)).any Claim.yielding := by
  have marks : (zs.evaluate rows y fresh).claims.map Claim.yielding =
      (treatAll y (zs.timerSet rows y fresh).isSome fresh zs.claims (naturals rows Above.none zs.claims)).map Claim.yielding := by
    simp only [ZoneState.evaluate_eq, treatAll_eq_zipWith, List.map_zipWith, Claim.evaluated_yielding]
  have any_map (l : List Claim) : l.any Claim.yielding = (l.map Claim.yielding).any id := by simp
  rw [any_map, marks, ← any_map]

/-- R12: while a mark is left the timer is the one that was set. -/
theorem ZoneState.evaluate_timer_of_marked {zs : ZoneState} {rows : PolicyRows} {y : Nat} {fresh : List Source}
    (h : (zs.evaluate rows y fresh).claims.any Claim.yielding = true) :
    (zs.evaluate rows y fresh).yieldTimer = zs.timerSet rows y fresh := by
  rw [ZoneState.evaluate_any_yielding] at h
  simp [ZoneState.evaluate_eq, ZoneState.cancels, h]

/-- R14: without a mark no yield runs. -/
theorem ZoneState.evaluate_timer_of_unmarked {zs : ZoneState} {rows : PolicyRows} {y : Nat} {fresh : List Source}
    (h : (zs.evaluate rows y fresh).claims.any Claim.yielding = false) :
    (zs.evaluate rows y fresh).yieldTimer = none := by
  rw [ZoneState.evaluate_any_yielding] at h
  rw [ZoneState.evaluate_eq]
  simp only [ZoneState.cancels, h, Bool.not_false, Bool.and_true]
  cases zs.timerSet rows y fresh <;> rfl

/-- R14: a yield runs on, where one ran or began and is not cancelled. -/
theorem ZoneState.evaluate_timer_none_iff (zs : ZoneState) (rows : PolicyRows) (y : Nat) (fresh : List Source) :
    (zs.evaluate rows y fresh).yieldTimer = none ↔
      ¬ ((zs.timerSet rows y fresh).isSome = true ∧ zs.cancels rows y fresh = false) := by
  rw [ZoneState.evaluate_eq]
  cases zs.cancels rows y fresh <;> simp
end Sys2Proof.Machine
end

section
namespace Sys2Proof.Machine

/-! ## The rates after an evaluation (R12, R13, R16, R35) -/

theorem Renderer.mapMix_mix (r : Renderer) (z : Zone) (src x : Source) (f : MixPoint → MixPoint) :
    ((r.mapMix z src f).mix.get z).get x = if x = src then ((r.mix.get z).get x).map f else (r.mix.get z).get x := by
  unfold Renderer.mapMix
  rw [PerZone.get_set_same]
  split
  next h => rw [h, PerSource.get_set_same]
  next h => rw [PerSource.get_set_ne _ _ (Ne.symm h)]

theorem Renderer.mapMix_mix_ne (r : Renderer) {y z : Zone} (h : y ≠ z) (src : Source) (f : MixPoint → MixPoint) :
    (r.mapMix z src f).mix.get y = r.mix.get y :=
  PerZone.get_set_ne _ _ h.symm

/-- Changes of the mix points of one source after another, each by its own function. -/
theorem foldl_mix {z : Zone} {step : Renderer → Source → Renderer} (g : Source → MixPoint → MixPoint)
    (hs : ∀ r src x, ((step r src).mix.get z).get x = if x = src then ((r.mix.get z).get x).map (g src) else (r.mix.get z).get x)
    {l : List Source} (hl : l.Nodup) (r : Renderer) (x : Source) :
    ((l.foldl step r).mix.get z).get x = if x ∈ l then ((r.mix.get z).get x).map (g x) else (r.mix.get z).get x := by
  induction l generalizing r with
  | nil => rfl
  | cons a l ih =>
    obtain ⟨ha, hl⟩ := List.nodup_cons.1 hl
    rw [List.foldl_cons, ih hl, hs]
    by_cases hx : x = a
    · subst hx
      simp [ha]
    · simp [hx]

theorem foldl_mix_ne {y : Zone} {step : Renderer → Source → Renderer}
    (hs : ∀ r src, (step r src).mix.get y = r.mix.get y) (l : List Source) (r : Renderer) :
    (l.foldl step r).mix.get y = r.mix.get y := by
  induction l generalizing r with
  | nil => rfl
  | cons a l ih => rw [List.foldl_cons, ih, hs]

/-- What becomes of a mix point whose source is not made quieter. -/
def rateKept (before after : List Claim) (src : Source) : MixPoint → MixPoint :=
  if after.any (fun c => c.source == src && c.yielding) then id
  else if stateIn before src = stateIn after src then MixPoint.unmark
  else if before.any (fun c => c.source == src && c.state == .held && !c.yielding) then MixPoint.startAudible
  else MixPoint.plain

/-- What becomes of a mix point whose source is made quieter. -/
def rateQuieter (y : Nat) : MixPoint → MixPoint := if y = 0 then MixPoint.startJump else MixPoint.startYield y

theorem mem_sourceAll (src : Source) : src ∈ Source.all := by cases src <;> decide

/-- The rates of a zone, source by source. -/
theorem Renderer.rates_mix (r : Renderer) (z : Zone) (y : Nat) {quieter : List Source} (hq : quieter.Nodup) (before after : List Claim)
    (src : Source) :
    ((r.rates z y quieter before after).mix.get z).get src =
      ((r.mix.get z).get src).map (if src ∈ quieter then rateQuieter y else rateKept before after src) := by
  unfold Renderer.rates
  have lowered := foldl_mix (fun _ => rateQuieter y) (fun r src x => r.mapMix_mix z src x (rateQuieter y)) hq r src
  rw [foldl_mix (fun x => if x ∈ quieter then id else rateKept before after x) ?_ (by decide) _ src, if_pos (mem_sourceAll src)]
  · refine (congrArg (List.map _) lowered).trans ?_
    by_cases hs : src ∈ quieter <;> simp [hs]
  · intro r a x
    by_cases hx : x = a
    · subst hx
      by_cases hq : x ∈ quieter
      · simp [hq]
      · simp only [rateKept, hq, if_true, if_false, List.contains_eq_mem, decide_false, Bool.false_or]
        (repeat' split) <;> simp [Renderer.mapMix_mix]
    · rw [if_neg hx]
      (repeat' split) <;> simp [Renderer.mapMix_mix, hx]

theorem Renderer.rates_mix_ne (r : Renderer) {x z : Zone} (h : x ≠ z) (y : Nat) (quieter : List Source) (before after : List Claim) :
    (r.rates z y quieter before after).mix.get x = r.mix.get x := by
  unfold Renderer.rates
  rw [foldl_mix_ne, foldl_mix_ne]
  · exact fun r src => r.mapMix_mix_ne h src _
  · intro r src
    (repeat' split) <;> simp [Renderer.mapMix_mix_ne _ h]
end Sys2Proof.Machine
end

section
namespace Sys2Proof.Machine

/-! ## A source's claim before and after -/

section
variable {l a : List Claim}

theorem source_of_label {c d : Claim} (h : d.label = c.label) : d.source = c.source := by
  have sources := congrArg Claim.source h
  exact sources

/-- R4: a zone's list has one claim of a source, which a search finds. -/
theorem find_source (hn : (l.map Claim.source).Nodup) {j : Nat} {c : Claim} (h : l[j]? = some c) :
    l.find? (fun d => d.source == c.source) = some c := by
  induction l generalizing j with
  | nil => cases h
  | cons x xs ih =>
    obtain ⟨hx, hn⟩ := List.nodup_cons.1 hn
    cases j with
    | zero =>
      obtain rfl : x = c := by simpa using h
      simp
    | succ j =>
      have hj : xs[j]? = some c := by simpa using h
      have ne : x.source ≠ c.source := fun he => hx (he ▸ List.mem_map_of_mem (List.mem_of_getElem? hj))
      simp [ne, ih hn hj]

theorem stateIn_of_getElem? (hn : (l.map Claim.source).Nodup) {j : Nat} {c : Claim} (h : l[j]? = some c) :
    stateIn l c.source = some c.state := by
  rw [stateIn, find_source hn h]
  rfl

theorem stateIn_eq_none {src : Source} (h : ∀ c ∈ l, c.source ≠ src) : stateIn l src = none := by
  have none : l.find? (fun c => c.source == src) = none := List.find?_eq_none.2 fun c hc => by simpa using h c hc
  rw [stateIn, none]
  rfl

/-- Lists of the same labels have the same claims, states and marks apart, in the same places. -/
theorem getElem?_of_labels (h : a.map Claim.label = l.map Claim.label) {j : Nat} {c : Claim} (hc : l[j]? = some c) :
    ∃ d, a[j]? = some d ∧ d.label = c.label := by
  have labels := congrArg (fun m => m[j]?) h
  simp only [List.getElem?_map, hc, Option.map_some, Option.map_eq_some_iff] at labels
  exact labels

theorem sources_of_labels (h : a.map Claim.label = l.map Claim.label) : a.map Claim.source = l.map Claim.source := by
  have source (m : List Claim) : m.map Claim.source = (m.map Claim.label).map Claim.source := by simp [Claim.label]
  rw [source a, h, ← source]

/-- A source whose claim keeps its state has the state it had. -/
theorem stateIn_kept (hn : (l.map Claim.source).Nodup) (h : a.map Claim.label = l.map Claim.label) {src : Source}
    (hk : ∀ (j : Nat) c d, l[j]? = some c → a[j]? = some d → c.source = src → d.state = c.state) :
    stateIn l src = stateIn a src := by
  have hna : (a.map Claim.source).Nodup := sources_of_labels h ▸ hn
  by_cases hc : ∃ c ∈ l, c.source = src
  · obtain ⟨c, hm, rfl⟩ := hc
    obtain ⟨j, hj⟩ := List.mem_iff_getElem?.1 hm
    obtain ⟨d, hd, hl⟩ := getElem?_of_labels h hj
    rw [stateIn_of_getElem? hn hj, ← source_of_label hl, stateIn_of_getElem? hna hd, hk j c d hj hd rfl]
  · have none : ∀ m : List Claim, m.map Claim.source = l.map Claim.source → ∀ c ∈ m, c.source ≠ src := by
      intro m hm c hcm he
      have : src ∈ l.map Claim.source := hm ▸ he ▸ List.mem_map_of_mem hcm
      obtain ⟨d, hd, hs⟩ := List.mem_map.1 this
      exact hc ⟨d, hd, hs⟩
    rw [stateIn_eq_none (none l rfl), stateIn_eq_none (none a (sources_of_labels h))]

/-- A source whose claim changes its state does not have the state it had. -/
theorem stateIn_changed (hn : (l.map Claim.source).Nodup) (h : a.map Claim.label = l.map Claim.label) {j : Nat} {c d : Claim}
    (hc : l[j]? = some c) (hd : a[j]? = some d) (hk : d.state ≠ c.state) : stateIn l c.source ≠ stateIn a c.source := by
  have hna : (a.map Claim.source).Nodup := sources_of_labels h ▸ hn
  obtain ⟨e, he, hl⟩ := getElem?_of_labels h hc
  obtain rfl : e = d := Option.some.inj (he.symm.trans hd)
  rw [stateIn_of_getElem? hn hc, ← source_of_label hl, stateIn_of_getElem? hna hd]
  exact fun hs => hk (Option.some.inj hs).symm

/-- What holds of some claim of a source holds of its one claim. -/
theorem any_source_iff (hn : (l.map Claim.source).Nodup) {j : Nat} {c : Claim} (hc : l[j]? = some c) (p : Claim → Bool) :
    l.any (fun d => d.source == c.source && p d) = true ↔ p c = true := by
  simp only [List.any_eq_true, Bool.and_eq_true, beq_iff_eq]
  constructor
  · rintro ⟨d, hd, hs, hp⟩
    obtain ⟨i, hi⟩ := List.mem_iff_getElem?.1 hd
    have found := find_source hn hi
    rw [hs, find_source hn hc] at found
    rwa [Option.some.inj found]
  · exact fun hp => ⟨c, List.mem_of_getElem? hc, rfl, hp⟩

/-! ## A mix point's rate (R12, R13, R16, R35) -/

theorem rateKept_of_marked {src : Source} (h : ∃ c ∈ a, c.source = src ∧ c.yielding = true) (m : MixPoint) :
    rateKept l a src m = m := by
  have marked : a.any (fun c => c.source == src && c.yielding) = true := by
    simpa using h
  simp [rateKept, marked]

theorem not_marked {src : Source} (h : ¬ ∃ c ∈ a, c.source = src ∧ c.yielding = true) :
    a.any (fun c => c.source == src && c.yielding) = false := by
  rw [Bool.eq_false_iff]
  exact fun hm => h (by simpa using hm)

theorem MixPoint.eq_of_rest {m n : MixPoint} (target : n.target = m.target) (applied : n.applied = m.applied)
    (hushRate : n.hushRate = m.hushRate) : n = { m with yieldRate := n.yieldRate, jump := n.jump, restart := n.restart } := by
  rw [← target, ← applied, ← hushRate]

theorem MixPoint.startAudible_rest (m : MixPoint) : m.startAudible.target = m.target ∧ m.startAudible.applied = m.applied ∧
    m.startAudible.hushRate = m.hushRate ∧ m.startAudible.yieldRate = none := by
  unfold MixPoint.startAudible
  split <;> exact ⟨rfl, rfl, rfl, rfl⟩

theorem rateKept_yieldRate {src : Source} (h : ¬ ∃ c ∈ a, c.source = src ∧ c.yielding = true) (m : MixPoint) :
    (rateKept l a src m).yieldRate = none := by
  simp only [rateKept, not_marked h, Bool.false_eq_true, if_false]
  split
  · rfl
  · split
    · exact m.startAudible_rest.2.2.2
    · rfl

/-- What no change of a rate touches. -/
theorem rateKept_rest (l a : List Claim) (src : Source) (m : MixPoint) :
    (rateKept l a src m).target = m.target ∧ (rateKept l a src m).applied = m.applied ∧ (rateKept l a src m).hushRate = m.hushRate := by
  obtain ⟨target, applied, hushRate, -⟩ := m.startAudible_rest
  unfold rateKept
  split
  · exact ⟨rfl, rfl, rfl⟩
  · split
    · exact ⟨rfl, rfl, rfl⟩
    · split
      · exact ⟨target, applied, hushRate⟩
      · exact ⟨rfl, rfl, rfl⟩

theorem rateKept_of_kept (hn : (l.map Claim.source).Nodup) (h : a.map Claim.label = l.map Claim.label) {src : Source}
    (hm : ¬ ∃ c ∈ a, c.source = src ∧ c.yielding = true)
    (hk : ∀ (j : Nat) c d, l[j]? = some c → a[j]? = some d → c.source = src → d.state = c.state) (m : MixPoint) :
    rateKept l a src m = m.unmark := by
  simp [rateKept, not_marked hm, stateIn_kept hn h hk]

/-- R13, R16: a claim whose state changes and that is not made quieter: its jump is gone, and it starts from mute where the jump to mute
had not come. -/
theorem rateKept_of_changed (hn : (l.map Claim.source).Nodup) (h : a.map Claim.label = l.map Claim.label) {j : Nat} {c d : Claim}
    (hm : ¬ ∃ e ∈ a, e.source = c.source ∧ e.yielding = true) (hc : l[j]? = some c) (hd : a[j]? = some d) (hk : d.state ≠ c.state)
    (m : MixPoint) :
    (rateKept l a c.source m).jump = false ∧
    ((rateKept l a c.source m).restart = true ↔ m.restart = true ∨ (m.jump = true ∧ c.state = .held ∧ c.yielding = false)) := by
  have held := any_source_iff hn hc (fun e => e.state == .held && !e.yielding)
  simp only [← Bool.and_assoc] at held
  simp only [rateKept, not_marked hm, stateIn_changed hn h hc hd hk, if_false, Bool.false_eq_true, held]
  by_cases hh : c.state = .held ∧ c.yielding = false
  · cases hj : m.jump <;> simp [hh, hj, MixPoint.startAudible, MixPoint.plain, MixPoint.fromMute]
  · have test : (c.state == .held && !c.yielding) = false := by
      rw [Bool.eq_false_iff]
      simpa using hh
    simp only [test, hh, MixPoint.plain, if_false, Bool.false_eq_true, and_false, or_false, true_and]
end

theorem rateQuieter_rest (y : Nat) (m : MixPoint) :
    (rateQuieter y m).target = m.target ∧ (rateQuieter y m).applied = m.applied ∧ (rateQuieter y m).hushRate = m.hushRate ∧
    (rateQuieter y m).restart = m.restart := by
  unfold rateQuieter
  split <;> exact ⟨rfl, rfl, rfl, rfl⟩

/-- A quotient rounded up is the least number that reaches. -/
theorem ceilDiv_spec (n : Nat) {d : Nat} (hd : d ≠ 0) : n ≤ ceilDiv n d * d ∧ ∀ k, n ≤ k * d → ceilDiv n d ≤ k := by
  have pos := Nat.pos_of_ne_zero hd
  unfold ceilDiv
  constructor
  · have : n + d - 1 < (n + d - 1) / d * d + d := Nat.lt_div_mul_add pos
    omega
  · intro k hk
    refine Nat.lt_succ_iff.1 ((Nat.div_lt_iff_lt_mul pos).2 ?_)
    rw [Nat.succ_mul]
    omega

/-- R12: the yield rate takes the applied gain to mute within Y, and no lower rate does. -/
theorem MixPoint.startYield_rate {y : Nat} (hy : y ≠ 0) {m : MixPoint} {a : Int} (hr : m.restart = false) (ha : m.applied = some a) :
    ∃ r, (m.startYield y).yieldRate = some r ∧ 1 ≤ r ∧ a + 480 ≤ r * y ∧ ∀ k : Nat, 1 ≤ k → a + 480 ≤ k * y → r ≤ k := by
  obtain ⟨reach, least⟩ := ceilDiv_spec (a + 480).toNat hy
  refine ⟨max 1 (ceilDiv (a + 480).toNat y), by simp [MixPoint.startYield, MixPoint.level, hr, ha], le_max_left .., ?_, ?_⟩
  · have : ceilDiv (a + 480).toNat y * y ≤ max 1 (ceilDiv (a + 480).toNat y) * y := Nat.mul_le_mul_right y (le_max_right ..)
    have bound : ((a + 480).toNat : Int) ≤ ((max 1 (ceilDiv (a + 480).toNat y) * y : Nat) : Int) := by exact_mod_cast reach.trans this
    rw [Nat.cast_mul] at bound
    omega
  · intro k hk hle
    refine max_le hk (least k ?_)
    have : ((k * y : Nat) : Int) = (k : Int) * y := Nat.cast_mul ..
    omega

theorem MixPoint.startYield_mute (y : Nat) {m : MixPoint} (h : m.restart = true ∨ m.applied = none) :
    (m.startYield y).yieldRate = none := by
  rcases h with h | h
  · simp [MixPoint.startYield, MixPoint.level, h]
  · cases hr : m.restart <;> simp [MixPoint.startYield, MixPoint.level, h, hr]
end Sys2Proof.Machine
end

section
namespace Sys2Proof.Machine

/-! ## The evaluation in the statements' words -/

/-- A zone's evaluation makes a source quieter: the statements' words. -/
def Quieter (zs : ZoneState) (rows : PolicyRows) (fresh : List Source) (src : Source) : Prop :=
  ∃ (i : Nat) (c : Claim) (n : ClaimState), zs.claims[i]? = some c ∧ (naturals rows Above.none zs.claims)[i]? = some n ∧
    c.source = src ∧ src ∉ fresh ∧ Lower n c.state

/-- A source's claim carries the yielding mark: the statements' words. -/
def Marked (cs : List Claim) (src : Source) : Prop := ∃ c ∈ cs, c.source = src ∧ c.yielding = true

theorem natural_ne_waiting {rows : PolicyRows} {cs : List Claim} {i : Nat} {n : ClaimState}
    (h : (naturals rows Above.none cs)[i]? = some n) : n ≠ .waiting :=
  naturals_ne_waiting rows Above.none cs n (List.mem_of_getElem? h)

theorem quieter_iff (zs : ZoneState) (rows : PolicyRows) (fresh : List Source) (src : Source) :
    Quieter zs rows fresh src ↔ src ∈ zs.quieter rows fresh := by
  rw [ZoneState.quieter, mem_quieterSources]
  constructor
  · rintro ⟨i, c, n, hc, hn, rfl, hf, hl⟩
    exact ⟨i, c, n, hc, hn, rfl, (isQuieter_iff (natural_ne_waiting hn)).2 ⟨hf, hl⟩⟩
  · rintro ⟨i, c, n, hc, hn, rfl, hq⟩
    obtain ⟨hf, hl⟩ := (isQuieter_iff (natural_ne_waiting hn)).1 hq
    exact ⟨i, c, n, hc, hn, rfl, hf, hl⟩

theorem exists_marked_iff (cs : List Claim) : (∃ src, Marked cs src) ↔ cs.any Claim.yielding = true := by
  simp only [List.any_eq_true, Marked]
  constructor
  · rintro ⟨_, c, hc, -, hy⟩
    exact ⟨c, hc, hy⟩
  · rintro ⟨c, hc, hy⟩
    exact ⟨_, c, hc, rfl, hy⟩

/-- R11, R13, R14: each claim after an evaluation. -/
theorem ZoneState.evaluate_claim {zs : ZoneState} {rows : PolicyRows} (y : Nat) (fresh : List Source) {i : Nat} {c : Claim}
    {n : ClaimState} (hc : zs.claims[i]? = some c) (hn : (naturals rows Above.none zs.claims)[i]? = some n) :
    ∃ d, (zs.evaluate rows y fresh).claims[i]? = some d ∧ d = { c with state := d.state, yielding := d.yielding } ∧
      (Lower n c.state → c.source ∉ fresh → d.state = n ∧ (d.yielding = true ↔ y ≠ 0 ∨ c.yielding = true)) ∧
      (Sounds c.state → ¬ Lower n c.state → c.source ∉ fresh → d.state = n ∧
        (d.yielding = true ↔ n = c.state ∧ c.yielding = true)) ∧
      (c.state = .held → c.yielding = true → c.source ∉ fresh → d.state = n ∧ (d.yielding = true ↔ n = .held)) ∧
      (c.source ∈ fresh ∨ c.state = .waiting ∨ (c.state = .held ∧ c.yielding = false) →
        d.yielding = false ∧
        d.state = if n = .held then .held else if (zs.evaluate rows y fresh).yieldTimer = none then n else .waiting) := by
  have hw := natural_ne_waiting hn
  refine ⟨_, (zs.evaluate_getElem? rows y fresh i _).2 ⟨c, n, hc, hn, rfl⟩, Claim.eq_of_label (Claim.evaluated_label ..),
    fun hl hf => Claim.evaluated_lower hw hl hf, fun hs hl hf => Claim.evaluated_sounding hw hs hl hf,
    fun hh hy hf => Claim.evaluated_marked hw hh hy hf, fun h => ?_⟩
  obtain ⟨mark, state⟩ := Claim.evaluated_entering hw h
  refine ⟨mark, state.trans ?_⟩
  simp only [ZoneState.evaluate_timer_none_iff]
  split
  · rfl
  · split <;> simp_all

/-- R12, R14: the timer after an evaluation. -/
theorem ZoneState.evaluate_timer (zs : ZoneState) (rows : PolicyRows) (y : Nat) (fresh : List Source) :
    ((∃ src, Marked (zs.evaluate rows y fresh).claims src) →
      ((∃ src, Quieter zs rows fresh src) → y ≠ 0 → (zs.evaluate rows y fresh).yieldTimer = some y) ∧
      ((∀ src, ¬ Quieter zs rows fresh src) ∨ y = 0 → (zs.evaluate rows y fresh).yieldTimer = zs.yieldTimer)) ∧
    ((∀ src, ¬ Marked (zs.evaluate rows y fresh).claims src) → (zs.evaluate rows y fresh).yieldTimer = none) := by
  have empty : (zs.quieter rows fresh).isEmpty = true ↔ ∀ src, ¬ Quieter zs rows fresh src := by
    simp only [quieter_iff, List.isEmpty_iff, List.eq_nil_iff_forall_not_mem]
  refine ⟨fun hm => ?_, fun hm => ?_⟩
  · rw [ZoneState.evaluate_timer_of_marked ((exists_marked_iff _).1 hm), ZoneState.timerSet]
    refine ⟨fun ⟨src, hq⟩ hy => if_neg ?_, fun h => if_pos ?_⟩
    · rw [empty]
      exact fun h => h.elim (fun he => he src hq) hy
    · rwa [empty]
  · refine ZoneState.evaluate_timer_of_unmarked (Bool.eq_false_iff.2 fun h => ?_)
    obtain ⟨src, hs⟩ := (exists_marked_iff _).2 h
    exact hm src hs

theorem leadingOf_eq (rows : PolicyRows) (cs : List Claim) :
    leadingOf rows cs = ((cs.find? (fun c => c.effect rows != .mix)).or cs.head?).map Claim.source := by
  unfold leadingOf
  cases cs.find? (fun c => c.effect rows != .mix) <;> rfl

theorem ZoneState.quieter_nodup {zs : ZoneState} (h : (zs.claims.map Claim.source).Nodup) (rows : PolicyRows) (fresh : List Source) :
    (zs.quieter rows fresh).Nodup := by
  have sub (cs : List Claim) (ns : List ClaimState) : (quieterSources fresh cs ns).Sublist (cs.map Claim.source) := by
    induction cs generalizing ns with
    | nil => cases ns <;> exact .refl _
    | cons c cs ih =>
      cases ns with
      | nil => exact List.nil_sublist _
      | cons n ns =>
        rw [quieterSources]
        split
        · exact (ih ns).cons_cons _
        · exact (ih ns).cons _
  exact h.sublist (sub _ _)

/-- R12, R13, R16, R35: a mix point after an evaluation, `n` being what becomes of `m`. -/
theorem ZoneState.evaluate_point {zs : ZoneState} (h : (zs.claims.map Claim.source).Nodup) (rows : PolicyRows) (y : Nat)
    (fresh : List Source) (src : Source) (m : MixPoint) :
    let a := (zs.evaluate rows y fresh).claims
    let n := (if src ∈ zs.quieter rows fresh then rateQuieter y else rateKept zs.claims a src) m
    n = { m with yieldRate := n.yieldRate, jump := n.jump, restart := n.restart } ∧
    (Quieter zs rows fresh src → y = 0 → n.jump = true ∧ n.yieldRate = m.yieldRate) ∧
    (Quieter zs rows fresh src → n.restart = m.restart) ∧
    (Quieter zs rows fresh src → y ≠ 0 → n.jump = false ∧ ((m.restart = true ∨ m.applied = none) → n.yieldRate = none) ∧
      ∀ g, m.restart = false → m.applied = some g → ∃ r, n.yieldRate = some r ∧ 1 ≤ r ∧ g + 480 ≤ r * y ∧
        ∀ k : Nat, 1 ≤ k → g + 480 ≤ k * y → r ≤ k) ∧
    (¬ Quieter zs rows fresh src → Marked a src → n = m) ∧
    (¬ Quieter zs rows fresh src → ¬ Marked a src → n.yieldRate = none ∧
      ((∀ (j : Nat) c d, zs.claims[j]? = some c → a[j]? = some d → c.source = src → d.state = c.state) →
        n.jump = m.jump ∧ n.restart = m.restart) ∧
      ∀ (j : Nat) c d, zs.claims[j]? = some c → a[j]? = some d → c.source = src → d.state ≠ c.state → n.jump = false ∧
        (n.restart = true ↔ m.restart = true ∨ (m.jump = true ∧ c.state = .held ∧ c.yielding = false))) := by
  have labels := zs.evaluate_labels rows y fresh
  dsimp only
  simp only [quieter_iff]
  by_cases hq : src ∈ zs.quieter rows fresh
  · obtain ⟨target, applied, hushRate, restart⟩ := rateQuieter_rest y m
    simp only [hq, if_true, true_implies, not_true_eq_false, false_implies, and_true]
    refine ⟨MixPoint.eq_of_rest target applied hushRate, fun hy => ?_, restart, fun hy => ?_⟩
    · subst hy
      exact ⟨rfl, rfl⟩
    · simp only [rateQuieter, if_neg hy]
      exact ⟨rfl, MixPoint.startYield_mute y, fun g hr ha => MixPoint.startYield_rate hy hr ha⟩
  · obtain ⟨target, applied, hushRate⟩ := rateKept_rest zs.claims (zs.evaluate rows y fresh).claims src m
    simp only [hq, if_false, false_implies, not_false_eq_true, true_implies, true_and]
    refine ⟨MixPoint.eq_of_rest target applied hushRate, fun hm => rateKept_of_marked hm m,
      fun hm => ⟨rateKept_yieldRate hm m, fun hk => ?_, ?_⟩⟩
    · rw [rateKept_of_kept h labels hm hk]
      exact ⟨rfl, rfl⟩
    · rintro j c d hc hd rfl hk
      exact rateKept_of_changed h labels hm hc hd hk m
end Sys2Proof.Machine
end

section
namespace Sys2Proof.Machine

/-! ## The evaluation as an event (R11, R17, R18) -/

/-- R11: the part with the evaluated list and its rates, before anything is told of it. -/
def State.evaluating (s : State) (z : Zone) (fresh : List Source) : State :=
  let zs := s.zone z
  let rows := s.arb.policy.get z
  let y := (s.profile z).yieldTime
  (s.setZone z (zs.evaluate rows y fresh)).mapRend
    (·.rates z y (zs.quieter rows fresh) zs.claims (zs.evaluate rows y fresh).claims)

theorem State.evaluateAfter_eq (s base : State) (z : Zone) (fresh : List Source) (filed : Bool) :
    s.evaluateAfter base z fresh filed = (s.evaluating z fresh).tell base z
      (heldReportable (s.zone z) ((s.zone z).evaluate (s.arb.policy.get z) (s.profile z).yieldTime fresh) filed) := rfl

theorem State.evaluating_zone (s : State) (z : Zone) (fresh : List Source) :
    (s.evaluating z fresh).zone z = (s.zone z).evaluate (s.arb.policy.get z) (s.profile z).yieldTime fresh := by
  rw [State.evaluating, State.mapRend_zone, State.setZone_zone]

theorem State.evaluating_zone_ne (s : State) {x z : Zone} (h : x ≠ z) (fresh : List Source) :
    (s.evaluating z fresh).zone x = s.zone x := by
  rw [State.evaluating, State.mapRend_zone, State.setZone_zone_ne _ h]

/-- The list's ENTERTAINMENT claim is the same, its state and mark apart. -/
theorem find_ent_map_label (cs : List Claim) :
    (cs.map Claim.label).find? (fun c => c.cls == .entertainment) = (cs.find? (fun c => c.cls == .entertainment)).map Claim.label := by
  rw [List.find?_map]
  rfl

theorem State.evaluating_entClaim (s : State) (z : Zone) (fresh : List Source) :
    ((s.evaluating z fresh).entClaim z).map Claim.label = (s.entClaim z).map Claim.label := by
  rw [State.entClaim, State.evaluating_zone, ← find_ent_map_label, ZoneState.evaluate_labels, find_ent_map_label]
  rfl

theorem ZoneState.evaluate_rest (zs : ZoneState) (rows : PolicyRows) (y : Nat) (fresh : List Source) :
    (zs.evaluate rows y fresh).nextArrival = zs.nextArrival ∧ (zs.evaluate rows y fresh).entHeld = zs.entHeld ∧
    (zs.evaluate rows y fresh).leading = leadingOf rows zs.claims := by
  rw [ZoneState.evaluate_eq]
  exact ⟨rfl, rfl, rfl⟩

/-- R18: whether an evaluation may report HELD. -/
theorem heldReportable_iff {before after : ZoneState} {filed : Bool} {c : Claim}
    (h : before.claims.find? (fun c => c.cls == .entertainment) = some c) :
    heldReportable before after filed = true ↔
      filed = true ∨ (before.yieldTimer = none ∧ after.yieldTimer = none ∧ c.state ≠ .held) := by
  simp [heldReportable, entStateIn, h, and_assoc]

/-- R4: what a filing of a source without a claim, not a second ENTERTAINMENT claim, evaluates. -/
theorem State.file_evaluates {s : State} {z : Zone} {src : Source} (shadow : Bool) (hn : s.claim z src = none)
    (he : classOf src ≠ .entertainment ∨ s.entClaim z = none) :
    s.file z src shadow = State.evaluateAfter (s.setZone z ((s.zone z).insert src shadow)) (s.setZone z ((s.zone z).remove src)) z
      [src] (decide (classOf src = .entertainment)) := by
  have filed : (classOf src == .entertainment) = decide (classOf src = .entertainment) := by
    cases classOf src <;> rfl
  rw [State.file, State.evaluateAfter, ← filed, State.fileTold]
  rcases he with h | h
  · simp only [hn]
    cases hc : classOf src with
    | entertainment => exact absurd hc h
    | _ => rfl
  · rw [hn, h]
    cases classOf src <;> rfl

/-- R4: what a withdrawal evaluates. -/
theorem State.withdraw_evaluates {s : State} {z : Zone} {src : Source} (h : (s.claim z src).isSome = true) :
    ∃ u, s.withdraw z src = State.evaluateAfter u s z [] false ∧
      (u.zone z).claims = (s.zone z).claims.filter (fun c => c.source != src) ∧ ∀ y, y ≠ z → u.zone y = s.zone y := by
  obtain ⟨c, hc⟩ := Option.isSome_iff_exists.1 h
  refine ⟨(s.setZone z ((s.zone z).remove src)).mapRend (·.mapMix z src MixPoint.plain), ?_, ?_, fun y hy => ?_⟩
  · simp only [State.withdraw, State.withdrawTold, hc]
    rfl
  · rw [State.mapRend_zone, State.setZone_zone]
    rfl
  · rw [State.mapRend_zone, State.setZone_zone_ne _ hy]

/-- R4: what a replacement evaluates; the mix points of the new source start from mute. -/
theorem State.replaceEnt_evaluates (s : State) (z : Zone) (old new : Source) :
    ∃ u, s.replaceEnt z old new = State.evaluateAfter u s z [new] false ∧
      (u.zone z).claims = (s.zone z).claims.map (fun c => if c.source = old then { c with source := new } else c) ∧
      (old ≠ new → ∀ (i : Nat) m, ((s.rend.mix.get z).get new)[i]? = some m →
        ∃ n, ((u.rend.mix.get z).get new)[i]? = some n ∧ n.restart = true ∧ n.applied = m.applied) := by
  refine ⟨(s.setZone z ((s.zone z).replace old new)).mapRend
    (fun r => (r.mapMix z old MixPoint.plain).mapMix z new MixPoint.fromMute), rfl, ?_, fun hne i m hm => ?_⟩
  · rw [State.mapRend_zone, State.setZone_zone]
    rfl
  · have mix : ((s.setZone z ((s.zone z).replace old new)).rend.mix.get z).get new = (s.rend.mix.get z).get new := rfl
    refine ⟨m.fromMute, ?_, rfl, rfl⟩
    simp [State.mapRend, Renderer.mapMix_mix, hne.symm, mix, hm]

/-- R8: the natural states of a list, in the statements' words. -/
theorem naturals_spec (rows : PolicyRows) (l : List Claim) :
    (naturals rows Above.none l).length = l.length ∧
    ∀ (i : Nat) n, (naturals rows Above.none l)[i]? = some n →
      (n = .held ↔ ∃ c ∈ l.take i, c.effect rows = .exclusive) ∧
      (∀ d, n = .ducked d ↔ (∀ c ∈ l.take i, c.effect rows ≠ .exclusive) ∧ (∃ c ∈ l.take i, c.effect rows = .duck d) ∧
        ∀ c ∈ l.take i, ∀ e, c.effect rows = .duck e → e ≤ d) ∧
      (n = .audible ↔ ∀ c ∈ l.take i, c.effect rows = .mix) := by
  refine ⟨naturals_length .., fun i n hn => ?_⟩
  obtain ⟨-, rfl⟩ := (naturals_getElem? rows Above.none l i n).1 hn
  exact natural_under rows (l.take i)

/-- R18: the report after an evaluation, by the claim before and after it. -/
theorem State.evaluateAfter_report {s base : State} {z : Zone} {fresh : List Source} {filed : Bool} {c d : Claim}
    (hc : s.entClaim z = some c) (hd : (s.evaluateAfter base z fresh filed).entClaim z = some d) :
    let t := s.evaluateAfter base z fresh filed
    ((s.zone z).entHeld = true → ((t.zone z).entHeld = false ↔ Sounds d.state)) ∧
    ((s.zone z).entHeld = true → Sounds d.state → t.port.flags.getLsbD (6 + z.num) = true) ∧
    ((s.zone z).entHeld = false → ((t.zone z).entHeld = true ↔ d.state = .held ∧ d.yielding = false ∧ (filed = true ∨
      ((s.zone z).yieldTimer = none ∧ (t.zone z).yieldTimer = none ∧ c.state ≠ .held)))) ∧
    ((s.zone z).entHeld = false → (t.zone z).entHeld = true → t.port.flags.getLsbD (2 + z.num) = true) := by
  dsimp only
  rw [State.evaluateAfter_eq] at hd ⊢
  rw [State.tell_entClaim] at hd
  have before : ((s.evaluating z fresh).zone z).entHeld = (s.zone z).entHeld := by
    rw [State.evaluating_zone, (ZoneState.evaluate_rest ..).2.1]
  have resumed (hb : (s.zone z).entHeld = true) (mayHold : Bool) :
      (((s.evaluating z fresh).tell base z mayHold).zone z).entHeld = false ↔ Sounds d.state := by
    have sound : d.state.sounds = true ↔ Sounds d.state := sounds_iff d.state
    rw [State.tell_zone, hd, before, hb, ← sound]
    simp [heldAfter]
  refine ⟨fun hb => resumed hb _, fun hb hs => ?_, fun hb => ?_, fun hb ha => State.tell_raises_held (before.trans hb) ha⟩
  · exact State.tell_raises_resumed (before.trans hb) ((resumed hb _).2 hs) (by simp [hd])
  · have timer : (((s.evaluating z fresh).tell base z (heldReportable (s.zone z)
        ((s.zone z).evaluate (s.arb.policy.get z) (s.profile z).yieldTime fresh) filed)).zone z).yieldTimer =
        ((s.zone z).evaluate (s.arb.policy.get z) (s.profile z).yieldTime fresh).yieldTimer := by
      rw [State.tell_zone, State.evaluating_zone]
    rw [timer, ← heldReportable_iff hc, State.tell_zone, hd, before, hb]
    simp only [heldAfter, Bool.false_eq_true, if_false, Bool.and_eq_true, decide_eq_true_eq, Bool.not_eq_true']
    tauto

/-- R4: without an ENTERTAINMENT claim nothing is reported HELD. -/
theorem State.evaluateAfter_no_ent {s : State} (base : State) {z : Zone} (fresh : List Source) (filed : Bool)
    (h : s.entClaim z = none) : ((s.evaluateAfter base z fresh filed).zone z).entHeld = false := by
  have ent : (s.evaluating z fresh).entClaim z = none := by
    have labels := s.evaluating_entClaim z fresh
    rwa [h, Option.map_none, Option.map_eq_none_iff] at labels
  rw [State.evaluateAfter_eq, State.tell_zone, ent]
  rfl

/-- The zone after an evaluation, its report apart. -/
theorem State.evaluateAfter_zone (s base : State) (z : Zone) (fresh : List Source) (filed : Bool) :
    let a := (s.zone z).evaluate (s.arb.policy.get z) (s.profile z).yieldTime fresh
    ((s.evaluateAfter base z fresh filed).zone z).claims = a.claims ∧
    ((s.evaluateAfter base z fresh filed).zone z).yieldTimer = a.yieldTimer ∧
    ((s.evaluateAfter base z fresh filed).zone z).nextArrival = (s.zone z).nextArrival ∧
    ((s.evaluateAfter base z fresh filed).zone z).leading = leadingOf (s.arb.policy.get z) (s.zone z).claims := by
  obtain ⟨arrival, -, leading⟩ := (s.zone z).evaluate_rest (s.arb.policy.get z) (s.profile z).yieldTime fresh
  rw [State.evaluateAfter_eq, State.tell_zone, State.evaluating_zone]
  exact ⟨rfl, rfl, arrival, leading⟩

theorem State.evaluateAfter_rend (s base : State) (z : Zone) (fresh : List Source) (filed : Bool) :
    (s.evaluateAfter base z fresh filed).rend = s.rend.rates z (s.profile z).yieldTime ((s.zone z).quieter (s.arb.policy.get z) fresh)
      (s.zone z).claims ((s.zone z).evaluate (s.arb.policy.get z) (s.profile z).yieldTime fresh).claims := by
  rw [State.evaluateAfter_eq, State.tell_rend]
  rfl

/-- Settles O22: R8's naturals, the three operations of R4, and the evaluation claim by claim and mix point by mix point. -/
theorem evaluationTreatsEachClaim : Obligations.EvaluationTreatsEachClaim := by
  refine ⟨naturals_spec, fun s z src shadow => State.file_evaluates shadow, fun s z src => State.withdraw_evaluates,
    State.replaceEnt_evaluates, fun s base z fresh filed hok => ?_⟩
  obtain ⟨claims, timer, arrival, leading⟩ := s.evaluateAfter_zone base z fresh filed
  have rend := s.evaluateAfter_rend base z fresh filed
  have nodup := hok.2.1
  obtain ⟨marked, unmarked⟩ := (s.zone z).evaluate_timer (s.arb.policy.get z) (s.profile z).yieldTime fresh
  dsimp only
  rw [claims, timer, leading, rend]
  refine ⟨s.evaluateAfter_frame base z fresh filed, fun x hx => ?_, arrival, ZoneState.evaluate_length .., fun i c n hc hn =>
    ZoneState.evaluate_claim _ _ hc hn, marked, unmarked, leadingOf_eq .., fun src i m hm => ?_, fun x hx =>
    Renderer.rates_mix_ne _ hx .., (s.rend.rates_frame ..).2.2.2.2.2.2.2.2, State.evaluateAfter_no_ent base fresh filed,
    fun c d hc hd => ?_, fun h => ?_, fun v => ?_⟩
  · rw [State.evaluateAfter_eq, State.tell_zone_ne _ _ hx, State.evaluating_zone_ne _ hx]
  · refine ⟨_, ?_, ZoneState.evaluate_point nodup (s.arb.policy.get z) (s.profile z).yieldTime fresh src m⟩
    rw [Renderer.rates_mix _ _ _ (ZoneState.quieter_nodup nodup _ _), List.getElem?_map, hm]
    rfl
  · have report := State.evaluateAfter_report hc hd
    dsimp only at report
    rwa [timer] at report
  · have before : ((s.evaluating z fresh).zone z).entHeld = (s.zone z).entHeld := by
      rw [State.evaluating_zone, (ZoneState.evaluate_rest ..).2.1]
    rw [State.evaluateAfter_eq, State.tell_entClaim, ← before] at h
    rw [State.evaluateAfter_eq]
    exact State.tell_port_same h
  · exact VoiceRec.told_cases (State.tell_voice ..) (State.voiceHeard_iff ..)
end Sys2Proof.Machine
end

section
/-! SUPPORT. The requests that report. -/

namespace Sys2Proof.Machine

/-! ## What the requests run -/

theorem exec_zoneStatus (q : Byte) (m : Nat) (s : State) : exec (.zoneStatus q m) s = execZoneStatus q m s := rfl
theorem exec_zoneLevels (q : Byte) (m n : Nat) (s : State) : exec (.zoneLevels q m n) s = execZoneLevels q m n s := rfl
theorem exec_profileRead (q : Byte) (m : Nat) (c : Option ProfileCopy) (s : State) :
    exec (.profileRead q m c) s = execProfileRead q m c s := rfl
theorem exec_poolStatus (q : Byte) (s : State) : exec (.poolStatus q) s = execPoolStatus q s := rfl
theorem exec_poolClip (q : Byte) (n : Nat) (s : State) : exec (.poolClip q n) s = execPoolClip q n s := rfl
theorem exec_voiceStatus (q : Byte) (n : Nat) (s : State) : exec (.voiceStatus q n) s = execVoiceStatus q n s := rfl
theorem exec_tunerStatus (q : Byte) (s : State) : exec (.tunerStatus q) s = execTunerStatus q s := rfl
theorem exec_stationList (q : Byte) (n : Nat) (s : State) : exec (.stationList q n) s = execStationList q n s := rfl
theorem exec_stationRead (q : Byte) (n : Nat) (b : Bool) (s : State) : exec (.stationRead q n b) s = execStationRead q n b s := rfl
theorem exec_stationPresetQuery (q : Byte) (p : Nat) (b : Bool) (s : State) :
    exec (.stationPresetQuery q p b) s = execStationPresetQuery q p b s := rfl
theorem exec_trafficStatus (q : Byte) (s : State) : exec (.trafficStatus q) s = execTrafficStatus q s := rfl
theorem exec_callStatus (q : Byte) (s : State) : exec (.callStatus q) s = execCallStatus q s := rfl
theorem exec_watchQuery (q : Byte) (n : Nat) (s : State) : exec (.watchQuery q n) s = execWatchQuery q n s := rfl

theorem sourceOf_isNone {n : Nat} (h : 11 < n) : sourceOf n = none := by
  match n, h with
  | _ + 12, _ => rfl

theorem voiceOf_isNone {n : Nat} (h : 3 < n) : voiceOf n = none := by
  match n, h with
  | _ + 4, _ => rfl

/-! ## The gain terms of ZONE.LEVELS (R22 to R33, R43) -/

theorem rowH_eq (n : Nat) (es : List ChannelEntry) :
    rowH n es = ((List.range es.length).filter (fun k => es[k]?.map ChannelEntry.row == some .h)).map (n + ·) := by
  induction es generalizing n with
  | nil => rfl
  | cons e es ih =>
    have tail : ((List.range es.length).map Nat.succ).filter (fun k => (e :: es)[k]?.map ChannelEntry.row == some .h) =
        ((List.range es.length).filter (fun k => es[k]?.map ChannelEntry.row == some .h)).map Nat.succ := by
      rw [List.filter_map]
      rfl
    have shift (l : List Nat) : l.map (n + 1 + ·) = (l.map Nat.succ).map (n + ·) := by
      simp [Nat.add_assoc, Nat.add_comm 1]
    rw [rowH, ih, shift, ← tail, List.length_cons, List.range_succ_eq_map, List.filter_cons]
    cases h : e.row <;> simp [h]

/-- R1: the channels of a zone. -/
theorem Bank.channels_eq (b : Bank) (z : Zone) :
    b.channels z = (match z with
      | .cabin => List.range 22
      | .driver => (List.range b.map.length).filter (fun k => b.map[k]?.map ChannelEntry.row == some .h)
      | _ => [0, 1]) := by
  cases z with
  | driver => simpa [Bank.channels] using rowH_eq 0 b.map
  | _ => rfl

/-- R25: the volume term of a source, on the curve of its kind. -/
theorem State.volTerm_eq (s : State) (z : Zone) (src : Source) :
    let p := s.bank.current.get z
    let steps := s.rend.volume.get z
    let curve (index step : Nat) : Gain := if step = 0 then none else some ((s.bank.curves.getD index []).getD step 0)
    s.volTerm z src = (match src with
      | .mediaA | .mediaB | .radio1 | .radio2 | .traffic1 | .traffic2 => curve p.mediaCurve steps.media
      | .voicePrompt | .voiceTraffic | .voiceRing => curve p.voiceCurve steps.voice
      | .call | .telem => curve p.callCurve steps.call
      | .voiceChime => some 0) := by
  cases src <;> rfl

/-- R28: the duck term of a source. -/
theorem State.duckOf_eq (s : State) (z : Zone) (src : Source) :
    s.duckOf z src = (match (s.claim z src).map Claim.state with
      | some .audible => some 0
      | some (.ducked d) => some (-(d : Int))
      | _ => none) := by
  unfold State.duckOf
  cases s.claim z src with
  | none => rfl
  | some c => cases h : c.state <;> simp [duckTerm, levelOf, h]

/-- R29: the speed term of a source. -/
theorem State.speedTerm_eq (s : State) (z : Zone) (src : Source) :
    let cab := s.bank.current.cabin
    s.speedTerm z src = (if z = .cabin ∧ src ≠ .voiceChime ∧ src ≠ .telem then
      min (cab.smax : Int) (((cab.slope : Int) * max 0 ((s.veh.speed : Int) - cab.v0)) / 10) else 0) := by
  have above (v w : Nat) : max 0 ((v : Int) - w) = ((v - w : Nat) : Int) := by omega
  have value : s.speedValue = min (s.bank.current.cabin.smax : Int)
      (((s.bank.current.cabin.slope : Int) * max 0 ((s.veh.speed : Int) - s.bank.current.cabin.v0)) / 10) := by
    rw [above, State.speedValue]
    norm_cast
  dsimp only
  rw [← value]
  cases z <;> cases src <;> rfl

theorem State.levelLines_length (s : State) (z : Zone) (src : Source) (i : Nat) (ks : List Nat) :
    (s.levelLines z src i ks).length = ks.length := by
  induction ks generalizing i with
  | nil => rfl
  | cons k ks ih => simp [State.levelLines, ih]

theorem State.levelLines_getElem? (s : State) (z : Zone) (src : Source) {ks : List Nat} {i k : Nat} (h : ks[i]? = some k) (n : Nat) :
    (s.levelLines z src n ks)[i]? = some (s.levelLine z src (n + i) k) := by
  induction ks generalizing n i with
  | nil => cases h
  | cons x xs ih =>
    cases i with
    | zero =>
      obtain rfl : x = k := by simpa using h
      rfl
    | succ i =>
      have found := ih (by simpa using h) (n + 1)
      simpa [State.levelLines, Nat.add_assoc, Nat.add_comm 1] using found

theorem balanceTerm_eq (b : Int) (side : Side) :
    balanceTerm b side = if 0 < b ∧ side = .l then -8 * b else if b < 0 ∧ side = .r then 8 * b else 0 := by
  cases side <;> simp [balanceTerm]

theorem fadeTerm_eq (f : Int) (row : Row) :
    fadeTerm f row = if 0 < f ∧ (row = .r ∨ row = .x) then -8 * f else if f < 0 ∧ row = .f then 8 * f else 0 := by
  cases row <;> simp [fadeTerm]

/-- R33: the privacy term. -/
theorem State.privacyTerm_eq (s : State) (z : Zone) (src : Source) (k : Nat) :
    s.privacyTerm z src k =
      if z = .cabin ∧ (src = .mediaA ∨ src = .mediaB ∨ src = .radio1 ∨ src = .radio2) ∧ (s.bank.entry k).row = .r ∧
          ((s.entSource .rearL).isSome ∨ (s.entSource .rearR).isSome) then
        (if s.bank.current.cabin.privacy = 480 then none else some (-(s.bank.current.cabin.privacy : Int))) else some 0 := by
  have ent (y : Zone) : (s.entSource y).isSome = (s.entClaim y).isSome := by simp [State.entSource]
  have media : classOf src = .entertainment ↔ src = .mediaA ∨ src = .mediaB ∨ src = .radio1 ∨ src = .radio2 := by
    cases src <;> simp [classOf]
  cases z with
  | cabin => simp [State.privacyTerm, media, ent]
  | _ => simp [State.privacyTerm]

/-- R43: a channel's line, `e` being its entry in the map and `x` its thermal record where the zone has loudspeakers. -/
theorem State.levelLine_eq (s : State) (z : Zone) (src : Source) (i k : Nat) (e : ChannelEntry) (x : Thermal)
    (h : z.rear = false → s.bank.map[k]? = some e ∧ s.rend.thermal[k]? = some x) :
    let p := s.bank.current.get z
    let cab := s.bank.current.cabin
    let side : Side := if z.rear then (if k = 0 then .l else .r) else e.side
    s.levelLine z src i k = {
        channel := k
        balance := if 0 < p.balance ∧ side = .l then -8 * p.balance else if p.balance < 0 ∧ side = .r then 8 * p.balance else 0
        fade := if z ≠ .cabin then 0 else if 0 < cab.fade ∧ (e.row = .r ∨ e.row = .x) then -8 * cab.fade
          else if cab.fade < 0 ∧ e.row = .f then 8 * cab.fade else 0
        trim := if z.rear then 0 else e.trim
        privacy := if z = .cabin ∧ (src = .mediaA ∨ src = .mediaB ∨ src = .radio1 ∨ src = .radio2) ∧ e.row = .r ∧
            ((s.entSource .rearL).isSome ∨ (s.entSource .rearR).isSome) then
          (if cab.privacy = 480 then none else some (-(cab.privacy : Int))) else some 0
        reduction := if z.rear then 0 else x.reduction
        target := s.target z src k
        applied := ((s.rend.mix.get z).get src)[i]?.bind MixPoint.applied } := by
  have entry (hz : z.rear = false) : s.bank.entry k = e := by
    rw [Bank.entry, List.getD_eq_getElem?_getD, (h hz).1]
    rfl
  have applied : (((s.rend.mix.get z).get src).getD i MixPoint.mute).applied =
      ((s.rend.mix.get z).get src)[i]?.bind MixPoint.applied := by
    rw [List.getD_eq_getElem?_getD]
    cases ((s.rend.mix.get z).get src)[i]? <;> rfl
  have side : s.bank.side z k = if z.rear then (if k = 0 then .l else .r) else e.side := by
    unfold Bank.side
    split
    · rfl
    · rw [entry (Bool.eq_false_iff.2 ‹_›)]
  dsimp only
  rw [State.levelLine, applied, side, balanceTerm_eq, State.privacyTerm_eq]
  cases z with
  | cabin => simp [State.profile, State.fadeAt, fadeTerm_eq, State.trimAt, State.reductionAt, Zone.rear, entry rfl, (h rfl).2]
  | driver => simp [State.profile, State.fadeAt, State.trimAt, State.reductionAt, Zone.rear, entry rfl, (h rfl).2]
  | rearL => simp [State.profile, State.fadeAt, State.trimAt, State.reductionAt, Zone.rear]
  | rearR => simp [State.profile, State.fadeAt, State.trimAt, State.reductionAt, Zone.rear]

/-- R132: the lines of the slots from one on. -/
theorem listLines_eq (slots : List StaSlot) (d n : Nat) (h : slots.length - n = d) :
    listLines n (slots.drop n) = (List.range' n d).filterMap
      (fun i => ((slots[i]?).bind StaSlot.record).map (fun r => (⟨i, r.code, r.band, r.primary, r.name, r.preset⟩ : ListLine))) := by
  induction d generalizing n with
  | zero => rw [List.drop_eq_nil_of_le (by omega)]; rfl
  | succ d ih =>
    have lt : n < slots.length := by omega
    rw [List.drop_eq_getElem_cons lt, listLines, ih (n + 1) (by omega), List.range'_succ, List.filterMap_cons,
      List.getElem?_eq_getElem lt]
    cases hr : slots[n].record <;> simp [hr]

/-- R192: a name in eight bytes, byte by byte. -/
theorem nameBytes_eq (n : List Byte) : nameBytes n = (List.range 8).map (fun i => n.getD i 0) := by
  unfold nameBytes
  refine List.ext_getElem (by simp; omega) fun i h h' => ?_
  have lt : i < 8 := by simpa using h'
  rw [List.getElem_map, List.getElem_range]
  by_cases hi : i < n.length
  · rw [List.getElem_append_left (by simp; omega), List.getElem_take, List.getD_eq_getElem _ _ hi]
  · rw [List.getElem_append_right (by simp; omega), List.getElem_replicate, List.getD_eq_default _ _ (by omega)]

theorem recordBytes_eq (n : Nat) (v : BitVec 16) (r : StationRec) :
    recordBytes n v r =
      [0, BitVec.ofNat 8 n, v.extractLsb' 8 8, v.extractLsb' 0 8, BitVec.ofNat 8 (r.code / 256), BitVec.ofNat 8 r.code,
        (match r.band with | .fm => 0 | .am => 1),
        BitVec.ofNat 8 ((if r.tp then 1 else 0) + (if r.name.isSome then 2 else 0) + (if r.pty.isSome then 4 else 0) +
          (if r.preset.isSome then 8 else 0) + 16 * (match r.origin with | .scan => 0 | .tuned => 1 | .host => 2)),
        BitVec.ofNat 8 (r.pty.getD 0), BitVec.ofNat 8 (r.preset.getD 255), BitVec.ofNat 8 (r.age / 256), BitVec.ofNat 8 r.age,
        BitVec.ofNat 8 (r.name.getD []).length] ++
      (List.range 8).map (fun i => (r.name.getD []).getD i 0) ++ [BitVec.ofNat 8 r.freqs.length] ++
      r.freqs.flatMap (fun e => [BitVec.ofNat 8 (e.freq / 256), BitVec.ofNat 8 e.freq, BitVec.ofNat 8 e.q, BitVec.ofNat 8 (e.age / 256),
        BitVec.ofNat 8 e.age]) := by
  have high : hiByte v.toNat = v.extractLsb' 8 8 := by
    refine BitVec.eq_of_toNat_eq ?_
    simp [hiByte, BitVec.extractLsb'_toNat, Nat.shiftRight_eq_div_pow]
  have low : loByte v.toNat = v.extractLsb' 0 8 := by
    refine BitVec.eq_of_toNat_eq ?_
    simp [loByte, BitVec.extractLsb'_toNat]
  have bit (b : Bool) (k : Nat) : k * bitOf b = if b then k else 0 := by cases b <;> simp [bitOf]
  have one (b : Bool) : bitOf b = if b then 1 else 0 := rfl
  have entry (e : FreqEntry) : entryBytes e = [BitVec.ofNat 8 (e.freq / 256), BitVec.ofNat 8 e.freq, BitVec.ofNat 8 e.q,
      BitVec.ofNat 8 (e.age / 256), BitVec.ofNat 8 e.age] := rfl
  have band : loByte (bandNum r.band) = (match r.band with | .fm => 0 | .am => 1) := by cases r.band <;> rfl
  have origin : originNum r.origin = (match r.origin with | .scan => 0 | .tuned => 1 | .host => 2) := by
    cases r.origin <;> rfl
  simp only [recordBytes, twoBytes, high, low, bit, band, origin, nameBytes_eq]
  rfl
end Sys2Proof.Machine
end

section
namespace Sys2Proof.Machine

/-! ## The requests -/

/-- R43: the lines do not read the port. -/
theorem State.levelLines_taking (s : State) (z : Zone) (src : Source) (i : Nat) (ks : List Nat) :
    s.taking.levelLines z src i ks = s.levelLines z src i ks := by
  induction ks generalizing i with
  | nil => rfl
  | cons k ks ih =>
    rw [State.levelLines, ih]
    rfl

section
variable {s : State} {q : Byte}

theorem zoneStatus_answers {m : Nat} {z : Zone} (h : Serves s) (hz : zoneOf m = some z) :
    Answers (.zoneStatus q m) s s 0x12 q (.done (.zoneStatus ((s.zone z).claims.map Claim.report) (s.zone z).leading
      ((s.zone z).yieldTimer.getD 0) (s.zone z).entHeld)) := by
  refine answers_runOnly 1 2 h (exec_zoneStatus ..) rfl ?_
  rw [hz]
  rfl

theorem zoneLevels_answers {m n : Nat} {z : Zone} {src : Source} (h : Serves s) (hz : zoneOf m = some z) (hn : sourceOf n = some src) :
    Answers (.zoneLevels q m n) s s 0x15 q (.done (.levels (s.volTerm z src) ((s.rend.trims.get z).get src) (s.duckOf z src)
      (s.speedTerm z src) (s.rend.hush.get src) (s.levelLines z src 0 (s.bank.channels z)))) := by
  refine answers_runOnly 1 5 h (exec_zoneLevels ..) rfl ?_
  have lines := s.levelLines_taking z src 0 (s.bank.channels z)
  rw [hz, hn, ← lines]
  rfl

/-- R53: the copy that a PROFILE.READ names. -/
def Bank.copy (b : Bank) (z : Zone) : ProfileCopy → Profile
  | .staged => b.staged.get z
  | .current => b.current.get z

theorem profileRead_answers {m : Nat} {z : Zone} (h : Serves s) (hz : zoneOf m = some z) (c : ProfileCopy) :
    Answers (.profileRead q m (some c)) s s 0x21 q (.done (.profile (s.bank.copy z c) (s.bank.take.get z)
      (decide (s.bank.take.get z = .deferred ∧ s.veh.override = true))
      (decide (s.bank.take.get z = .deferred ∧ s.callWaits z = true)))) := by
  refine answers_runOnly 2 1 h (exec_profileRead ..) rfl ?_
  rw [hz]
  have waits (p : Prop) [Decidable p] (b : Bool) : decide (p ∧ b = true) = (decide p && b) := by simp
  rw [waits, waits]
  cases c <;> rfl

theorem poolStatus_answers (h : Serves s) :
    Answers (.poolStatus q) s s 0x38 q (.done (.poolStatus s.pool.freePages.length (pagesHeldBy .vehicle s.pool.clips)
      (pagesHeldBy .control s.pool.clips + pagesHeldBy .capture s.pool.clips) (96 - pagesHeldBy .vehicle s.pool.clips)
      (s.pool.clips.filter (fun c => c.state == .free)).length s.pool.vehicleSlot s.pool.controlSlot s.pool.capturing
      s.pool.cursor)) :=
  answers_runOnly 3 8 h (exec_poolStatus ..) rfl rfl

theorem poolClip_answers {n : Nat} (h : Serves s) (h1 : 1 ≤ n) (h2 : n ≤ 63) :
    Answers (.poolClip q n) s s 0x39 q (.done (.clip (s.pool.clip n).report)) := by
  refine answers_runOnly 3 9 h (exec_poolClip ..) rfl ?_
  have number : clipNumber n = true := decide_eq_true ⟨h1, h2⟩
  rw [number]
  rfl

theorem voiceStatus_answers {n : Nat} {v : Voice} (h : Serves s) (hv : voiceOf n = some v) :
    Answers (.voiceStatus q n) s s 0x44 q (.done (
      .voiceStatus (s.voice v).state (decide ((s.voice v).state = .retiring) && (s.voice v).fade.isSome)
        ((s.waiters (onControl v)).contains (.voice v))
        (if (s.voice v).state = .idle then none else (s.voice v).queue.head?) (s.voice v).position (s.voice v).passes
        (s.voice v).first ((s.voice v).gap.getD 0) ((s.voice v).maxWait.getD 0) ((s.voice v).queue.tail.map Entry.clip)
        (if v = .chime then s.voc.vehicle.length else s.voc.control.length) (s.waiters (onControl v)).length)) := by
  refine answers_runOnly 4 4 h (exec_voiceStatus ..) rfl ?_
  rw [hv]
  cases v <;> rfl

theorem tunerStatus_answers (h : Serves s) :
    Answers (.tunerStatus q) s s 0x55 q (.done (.tunerStatus (s.path .p1).report (s.path .p2).report s.radioQuality
      s.tun.wishL s.tun.wishR s.tun.flags (s.tun.check.map AfCheck.report) s.tun.holdCount)) :=
  answers_runOnly 5 5 h (exec_tunerStatus ..) rfl rfl

theorem stationPresetQuery_answers {p : Nat} (h : Serves s) (hp : p < s.sta.presets.length) :
    Answers (.stationPresetQuery q p true) s s 0x65 q (.done (.presets s.sta.presets)) := by
  refine answers_runOnly 6 5 h (exec_stationPresetQuery ..) rfl ?_
  exact if_neg (by simp [hp])

theorem trafficStatus_answers (h : Serves s) :
    Answers (.trafficStatus q) s s 0x80 q (.done (.traffic (s.ann .p1) (s.ann .p2) s.traf.capture s.captureFill)) :=
  answers_runOnly 8 0 h (exec_trafficStatus ..) rfl rfl

theorem callStatus_answers (h : Serves s) :
    Answers (.callStatus q) s s 0x98 q (.done (.callStatus s.call.state s.call.mode (micSetOf s.call.mode) s.call.downTrim
      s.call.upTrim s.call.ringClip s.call.savedTag s.call.route s.call.echo.report s.call.farActive
      (if s.call.setNow = .all then some s.call.selected else none) s.call.noise)) :=
  answers_runOnly 9 8 h (exec_callStatus ..) rfl rfl

theorem watchQuery_answers {n : Nat} (h : Serves s) (hn : n ≤ 15) :
    Answers (.watchQuery q n) s s 0xB2 q (.done (.watch (s.wat.slots.getD n none))) := by
  refine answers_runOnly 11 2 h (exec_watchQuery ..) rfl ?_
  exact if_neg (by omega)

theorem stationList_answers {n : Nat} (h : Serves s) (hn : n ≤ 39) :
    let l := listLines n (s.sta.slots.drop n)
    Answers (.stationList q n) s s 0x60 q (.done (.stationList (l.take 16) ((l.drop 16).head?.map ListLine.slot))) := by
  refine answers_runOnly 6 0 h (exec_stationList ..) rfl ?_
  exact if_neg (by omega)

/-! ### Refusals -/

theorem zoneStatus_refused {m : Nat} (h : Serves s) (hm : 3 < m) : Answers (.zoneStatus q m) s s 0x12 q (.refused .range []) := by
  refine answers_runOnly 1 2 h (exec_zoneStatus ..) rfl ?_
  rw [zoneOf_isNone hm]
  rfl

theorem profileRead_refused {m : Nat} (h : Serves s) (hm : 3 < m) (c : Option ProfileCopy) :
    Answers (.profileRead q m c) s s 0x21 q (.refused .range []) := by
  refine answers_runOnly 2 1 h (exec_profileRead ..) rfl ?_
  rw [zoneOf_isNone hm]
  rfl

theorem zoneLevels_refused {m n : Nat} (h : Serves s) (hm : 3 < m ∨ 11 < n) :
    Answers (.zoneLevels q m n) s s 0x15 q (.refused .range []) := by
  refine answers_runOnly 1 5 h (exec_zoneLevels ..) rfl ?_
  rcases hm with hm | hn
  · rw [zoneOf_isNone hm]
    rfl
  · rw [sourceOf_isNone hn]
    cases zoneOf m <;> rfl

theorem poolClip_refused {n : Nat} (h : Serves s) (hn : n = 0 ∨ 63 < n) : Answers (.poolClip q n) s s 0x39 q (.refused .range []) := by
  refine answers_runOnly 3 9 h (exec_poolClip ..) rfl ?_
  have number : clipNumber n = false := decide_eq_false (by omega)
  rw [number]
  rfl

theorem voiceStatus_refused {n : Nat} (h : Serves s) (hn : 3 < n) : Answers (.voiceStatus q n) s s 0x44 q (.refused .range []) := by
  refine answers_runOnly 4 4 h (exec_voiceStatus ..) rfl ?_
  rw [voiceOf_isNone hn]
  rfl

theorem stationList_refused {n : Nat} (h : Serves s) (hn : 39 < n) : Answers (.stationList q n) s s 0x60 q (.refused .range []) :=
  answers_runOnly 6 0 h (exec_stationList ..) rfl (if_pos hn)

theorem watchQuery_refused {n : Nat} (h : Serves s) (hn : 15 < n) : Answers (.watchQuery q n) s s 0xB2 q (.refused .range []) :=
  answers_runOnly 11 2 h (exec_watchQuery ..) rfl (if_pos hn)

/-! ### STATION.READ -/

theorem stationRead_outside {n : Nat} (h : Serves s) (b : Bool) (hn : s.sta.slots.length ≤ n) :
    Answers (.stationRead q n b) s s 0x61 q (.refused .range []) := by
  refine answers_runOnly 6 1 h (exec_stationRead ..) rfl ?_
  have slot : s.taking.sta.slots[n]? = none := List.getElem?_eq_none hn
  rw [slot]
  rfl

theorem stationRead_empty {n : Nat} (h : Serves s) (b : Bool) {v : BitVec 16} (hn : s.sta.slots[n]? = some ⟨none, v⟩) :
    Answers (.stationRead q n b) s s 0x61 q (.refused .state []) := by
  refine answers_runOnly 6 1 h (exec_stationRead ..) rfl ?_
  have slot : s.taking.sta.slots[n]? = some ⟨none, v⟩ := hn
  rw [slot]
  rfl

theorem stationRead_plain {n : Nat} (h : Serves s) {r : StationRec} {v : BitVec 16} (hn : s.sta.slots[n]? = some ⟨some r, v⟩) :
    Answers (.stationRead q n false) s s 0x61 q (.done (.stationRecord (recordBytes n v r))) := by
  refine answers_runOnly 6 1 h (exec_stationRead ..) rfl ?_
  have slot : s.taking.sta.slots[n]? = some ⟨some r, v⟩ := hn
  rw [slot]
  rfl

/-- R135: a reading with a reservation touches the reservation alone. -/
theorem stationRead_reserving {n : Nat} (h : Serves s) {r : StationRec} {v : BitVec 16} (hn : s.sta.slots[n]? = some ⟨some r, v⟩) :
    Answers (.stationRead q n true) s { s with sta := { s.sta with reservation := some (n, v) } } 0x61 q
      (.done (.stationRecord (recordBytes n v r))) := by
  have slot : s.taking.sta.slots[n]? = some ⟨some r, v⟩ := hn
  have ran : exec (.stationRead q n true) s = .next ((s.taking.mapSta (fun t => { t with reservation := some (n, v) })).reply 0x61 q
      (.done (.stationRecord (recordBytes n v r)))) := by
    rw [exec_stationRead, execStationRead, serve_runOnly h, slot]
    rfl
  have effect : s.untaken (s.taking.mapSta (fun t => { t with reservation := some (n, v) })) =
      { s with sta := { s.sta with reservation := some (n, v) } } :=
    congrArg (fun u => u.mapSta (fun t => { t with reservation := some (n, v) })) s.untaken_taking
  refine ⟨_, ran, ?_⟩
  rw [← effect]
  exact repliesWith_untaken _ _ _ rfl rfl
end

/-- R160: the mic set that serves, in the statement's words. -/
theorem Call.setNow_eq (c : Call) : c.setNow = if c.route = .none then micSetOf c.mode else c.routeSet := by
  unfold Call.setNow
  cases c.route <;> simp

/-- Settles O60, request by request. -/
theorem queriesReportWhatIsHeld : Obligations.QueriesReportWhatIsHeld := by
  refine ⟨fun s q m z h hz => ⟨zoneStatus_answers h hz, fun n src hn => zoneLevels_answers h hz hn, profileRead_answers h hz .staged,
      profileRead_answers h hz .current⟩,
    fun s z src => ⟨s.bank.channels_eq z, s.volTerm_eq z src, s.duckOf_eq z src, s.speedTerm_eq z src, s.levelLines_length .., 
      fun i k e x hk hx => ?_⟩,
    fun s q h => ⟨poolStatus_answers h, fun n h1 h2 => poolClip_answers h h1 h2, fun n v hv => ⟨_, voiceStatus_answers h hv, rfl⟩,
      tunerStatus_answers h, fun p hp => stationPresetQuery_answers h hp, trafficStatus_answers h, ?_,
      fun n hn => watchQuery_answers h hn⟩,
    fun s q n h hn => ?_,
    fun s q m n h => ⟨fun hm => ⟨zoneStatus_refused h hm, profileRead_refused h hm⟩, zoneLevels_refused h, poolClip_refused h,
      voiceStatus_refused h, stationList_refused h, watchQuery_refused h, stationRead_outside h, fun b v => stationRead_empty h b⟩,
    fun s q n r v h hn => ⟨stationRead_plain h hn, stationRead_reserving h hn⟩, recordBytes_eq⟩
  · have line := s.levelLines_getElem? z src hk 0
    rw [Nat.zero_add, s.levelLine_eq z src i k e x hx] at line
    exact line
  · have status := @callStatus_answers s q h
    rw [Call.setNow_eq] at status
    exact status
  · have listed := @stationList_answers s q n h hn
    rw [listLines_eq _ _ _ rfl] at listed
    exact listed
end Sys2Proof.Machine
end

section
/-! SUPPORT. The zones' ENTERTAINMENT sources: what the filings and withdrawals of other classes, the traffic monitor and the plan of P2
leave. -/

namespace Sys2Proof.Machine

/-! ## One list -/

/-- R5: each claim has its source's class. -/
def ClassesOk (cs : List Claim) : Prop := ∀ c ∈ cs, c.cls = classOf c.source

/-- The source of the list's ENTERTAINMENT claim. -/
def entSourceIn (cs : List Claim) : Option Source := (cs.find? (fun c => c.cls == .entertainment)).map Claim.source

/-- A change of a list that keeps the classes in order keeps its ENTERTAINMENT source. -/
def ListKeeps (cs ds : List Claim) : Prop := ClassesOk cs → ClassesOk ds ∧ entSourceIn ds = entSourceIn cs

theorem ListKeeps.refl (cs : List Claim) : ListKeeps cs cs := fun h => ⟨h, rfl⟩

theorem ListKeeps.trans {cs ds es : List Claim} (h : ListKeeps cs ds) (h' : ListKeeps ds es) : ListKeeps cs es := fun hc =>
  have ⟨hd, eq⟩ := h hc
  have ⟨he, eq'⟩ := h' hd
  ⟨he, eq'.trans eq⟩

theorem entSourceIn_labels (cs : List Claim) : entSourceIn (cs.map Claim.label) = entSourceIn cs := by
  rw [entSourceIn, find_ent_map_label, entSourceIn]
  cases cs.find? (fun c => c.cls == .entertainment) <;> rfl

theorem classesOk_labels (cs : List Claim) : ClassesOk (cs.map Claim.label) ↔ ClassesOk cs := by
  simp [ClassesOk, Claim.label]

/-- States and marks have no say. -/
theorem ListKeeps.of_labels {cs ds : List Claim} (h : ds.map Claim.label = cs.map Claim.label) : ListKeeps cs ds := fun hc =>
  ⟨(classesOk_labels ds).1 (h ▸ (classesOk_labels cs).2 hc), by rw [← entSourceIn_labels ds, h, entSourceIn_labels]⟩

/-- R4: a claim of another class joins the list. -/
theorem ListKeeps.insertClaim {c : Claim} (hc : c.cls = classOf c.source) (he : c.cls ≠ .entertainment) (cs : List Claim) :
    ListKeeps cs (insertClaim c cs) := fun h => by
  refine ⟨fun d hd => ?_, ?_⟩
  · rcases List.mem_cons.1 ((insertClaim_perm c cs).mem_iff.1 hd) with rfl | hd
    · exact hc
    · exact h d hd
  · have found : (Machine.insertClaim c cs).find? (fun c => c.cls == .entertainment) = cs.find? (fun c => c.cls == .entertainment) := by
      clear h
      induction cs with
      | nil => simp [Machine.insertClaim, he]
      | cons d ds ih =>
        rw [Machine.insertClaim]
        split
        · simp [he]
        · rw [List.find?_cons, List.find?_cons, ih]
    rw [entSourceIn, found]
    rfl

/-- R4: the claim of a source of another class leaves the list. -/
theorem ListKeeps.remove {src : Source} (he : classOf src ≠ .entertainment) (cs : List Claim) :
    ListKeeps cs (cs.filter (fun c => c.source != src)) := fun h => by
  refine ⟨fun d hd => h d (List.mem_filter.1 hd).1, ?_⟩
  have found : (cs.filter (fun c => c.source != src)).find? (fun c => c.cls == .entertainment) =
      cs.find? (fun c => c.cls == .entertainment) := by
    rw [List.find?_filter]
    refine List.find?_congr fun c hc => ?_
    by_cases hs : c.source = src
    · have other : c.cls ≠ .entertainment := by rw [h c hc, hs]; exact he
      simp [other]
    · simp [hs, Bool.beq_eq_decide_eq]
  rw [entSourceIn, found]
  rfl

/-- R3: renumbering leaves sources and classes. -/
theorem ListKeeps.renumber (n : Nat) (cs : List Claim) : ListKeeps cs (renumber n cs) := by
  have tags (m : Nat) : (Machine.renumber m cs).map (fun c => (c.source, c.cls)) = cs.map (fun c => (c.source, c.cls)) := by
    induction cs generalizing m with
    | nil => rfl
    | cons c cs ih => simp [Machine.renumber, ih]
  have source (ds : List Claim) : entSourceIn ds =
      ((ds.map (fun c => (c.source, c.cls))).find? (fun x => x.2 == .entertainment)).map Prod.fst := by
    rw [List.find?_map]
    simp [entSourceIn, Function.comp_def]
  have classes (ds : List Claim) : ClassesOk ds ↔ ∀ x ∈ ds.map (fun c => (c.source, c.cls)), x.2 = classOf x.1 := by
    simp [ClassesOk]
  intro h
  rw [classes, source, tags]
  exact ⟨(classes cs).1 h, (source cs).symm⟩

theorem ListKeeps.makeRoom (zs : ZoneState) : ListKeeps zs.claims zs.makeRoom.claims := by
  unfold ZoneState.makeRoom
  split
  · exact ListKeeps.renumber 1 zs.claims
  · exact .refl _

theorem ListKeeps.insert {src : Source} (he : classOf src ≠ .entertainment) (zs : ZoneState) (shadow : Bool) :
    ListKeeps zs.claims (zs.insert src shadow).claims :=
  (ListKeeps.makeRoom zs).trans (.insertClaim rfl he _)

theorem ListKeeps.refile {src : Source} (he : classOf src ≠ .entertainment) (zs : ZoneState) (shadow : Bool) :
    ListKeeps zs.claims (zs.refile src shadow).claims := by
  unfold ZoneState.refile
  split
  · exact .refl _
  next c hc =>
    have source : c.source = src := by simpa using List.find?_some hc
    exact (ListKeeps.remove he zs.claims).trans (.insertClaim (by rw [← source]) he _)

/-! ## The zones -/

/-- The zones keep their ENTERTAINMENT sources, where the classes are in order. -/
structure KeepsSources (s t : State) : Prop where
  list : ∀ z, ListKeeps (s.zone z).claims (t.zone z).claims

theorem KeepsSources.trans {s t u : State} (h : KeepsSources s t) (h' : KeepsSources t u) : KeepsSources s u :=
  ⟨fun z => (h.list z).trans (h'.list z)⟩

theorem KeepsSources.of_arb {s t : State} (h : t.arb = s.arb) : KeepsSources s t := ⟨fun z => by
  have same : t.zone z = s.zone z := congrArg (fun a => a.zones.get z) h
  rw [same]
  exact .refl _⟩

theorem KeepsSources.mapRend (s : State) (f : Renderer → Renderer) : KeepsSources s (s.mapRend f) := .of_arb rfl

theorem KeepsSources.mapTraf (s : State) (f : Traffic → Traffic) : KeepsSources s (s.mapTraf f) := .of_arb rfl

theorem KeepsSources.refl (s : State) : KeepsSources s s := .of_arb rfl

theorem KeepsSources.setZone {s : State} {z : Zone} {zs : ZoneState} (h : ListKeeps (s.zone z).claims zs.claims) :
    KeepsSources s (s.setZone z zs) := ⟨fun y => by
  by_cases hy : y = z
  · subst hy
    rw [State.setZone_zone]
    exact h
  · rw [State.setZone_zone_ne _ hy]
    exact .refl _⟩

theorem State.evaluateTold_zone_claims (s : State) (z : Zone) (fresh : List Source) (filed : Bool) (y : Zone) :
    ((s.evaluateTold z fresh filed).zone y).claims = ((s.evaluating z fresh).zone y).claims := by
  have told : (s.evaluateTold z fresh filed).arb = (s.evaluateAfter s z fresh filed).arb :=
    ((State.captureAfter_rest _ s).2.1).symm
  rw [State.zone, told, ← State.zone, State.evaluateAfter_eq]
  by_cases hy : y = z
  · subst hy
    rw [State.tell_zone]
  · rw [State.tell_zone_ne _ _ hy]

theorem State.evaluateTold_keeps (s : State) (z : Zone) (fresh : List Source) (filed : Bool) :
    KeepsSources s (s.evaluateTold z fresh filed) := ⟨fun y => by
  rw [State.evaluateTold_zone_claims]
  by_cases hy : y = z
  · subst hy
    rw [State.evaluating_zone]
    exact .of_labels (ZoneState.evaluate_labels ..)
  · rw [State.evaluating_zone_ne _ hy]
    exact .refl _⟩

theorem State.captureAfter_keeps (s base : State) : KeepsSources s (s.captureAfter base) := .of_arb (State.captureAfter_rest s base).2.1

/-! ## Filing and withdrawing other classes -/

section
variable {src : Source} (he : classOf src ≠ .entertainment)
include he

theorem State.fileTold_keeps (s : State) (z : Zone) (shadow : Bool) : KeepsSources s (s.fileTold z src shadow) := by
  unfold State.fileTold
  split
  · exact (KeepsSources.setZone (.refile he _ shadow)).trans (State.evaluateTold_keeps ..)
  · split
    next h _ => exact absurd h he
    · exact (KeepsSources.setZone (.insert he _ shadow)).trans (State.evaluateTold_keeps ..)

theorem State.file_keeps (s : State) (z : Zone) (shadow : Bool) : KeepsSources s (s.file z src shadow) :=
  (s.fileTold_keeps he z shadow).trans (State.captureAfter_keeps ..)

theorem State.withdrawTold_keeps (s : State) (z : Zone) : KeepsSources s (s.withdrawTold z src) := by
  unfold State.withdrawTold
  split
  · exact .refl s
  · have removed : KeepsSources s (s.setZone z ((s.zone z).remove src)) := .setZone (.remove he _)
    exact (removed.trans (.mapRend ..)).trans (State.evaluateTold_keeps ..)

theorem State.withdraw_keeps (s : State) (z : Zone) : KeepsSources s (s.withdraw z src) := by
  unfold State.withdraw
  split
  · exact .refl s
  · exact (s.withdrawTold_keeps he z).trans (State.captureAfter_keeps ..)

theorem State.withdrawAll_keeps (s : State) : KeepsSources s (s.withdrawAll src) :=
  (((s.withdraw_keeps he _).trans (State.withdraw_keeps he ..)).trans (State.withdraw_keeps he ..)).trans (State.withdraw_keeps he ..)
end

theorem trafficSource_class (p : Path) : classOf (trafficSource p) ≠ .entertainment := by cases p <;> decide

theorem voiceSource_class (v : Voice) : classOf (voiceSource v) ≠ .entertainment := by cases v <;> decide

theorem State.takeZone_keeps (s : State) (p : Path) (was now : ZoneSet) (z : Zone) : KeepsSources s (s.takeZone p was now z) := by
  unfold State.takeZone
  split
  · exact State.file_keeps (trafficSource_class p) ..
  · split
    · exact State.withdraw_keeps (trafficSource_class p) ..
    · exact .refl s

theorem State.takingPath_keeps (s : State) (p : Path) : KeepsSources s (s.takingPath p) := by
  unfold State.takingPath
  dsimp only
  split
  · exact .refl s
  · exact (((KeepsSources.mapTraf s _).trans (State.takeZone_keeps ..)).trans (State.takeZone_keeps ..)).trans (State.takeZone_keeps ..)

theorem State.takingUpdate_keeps (s : State) : KeepsSources s s.takingUpdate :=
  (s.takingPath_keeps .p1).trans (State.takingPath_keeps ..)
end Sys2Proof.Machine
end

section
namespace Sys2Proof.Machine

/-! ## What leaves the arbiter alone -/

@[simp] theorem State.setUse_arb (s : State) (n : Nat) (u : UseMarker) : (s.setUse n u).arb = s.arb := rfl

@[simp] theorem State.deliverFree_arb (s : State) (old : Nat) : (s.deliverFree old).arb = s.arb := by
  simp [State.deliverFree]

@[simp] theorem State.orderHush_arb (s : State) (src : Source) (n : Nat) : (s.orderHush src n).arb = s.arb := by
  unfold State.orderHush
  split <;> rfl

@[simp] theorem State.liftHush_arb (s : State) (src : Source) : (s.liftHush src).arb = s.arb := by
  unfold State.liftHush
  split <;> rfl

@[simp] theorem State.attemptSlot_arb (s : State) (o : LinkOwner) : (s.attemptSlot o).arb = s.arb := by
  unfold State.attemptSlot
  (repeat' split) <;> simp

@[simp] theorem State.grantAttempt_arb (s : State) : s.grantAttempt.arb = s.arb := by simp [State.grantAttempt]

@[simp] theorem State.freeClip_arb (s : State) (n : Nat) : (s.freeClip n).arb = s.arb := by
  simp [State.freeClip]

@[simp] theorem State.closeClip_arb (s : State) (n len : Nat) : (s.closeClip n len).arb = s.arb := by
  unfold State.closeClip
  dsimp only
  split <;> simp

@[simp] theorem State.buildChimeDone_arb (s : State) : s.buildChimeDone.arb = s.arb := by
  unfold State.buildChimeDone
  split <;> rfl

@[simp] theorem State.append_arb (s : State) (control : Bool) (c : Completion) : (s.append control c).arb = s.arb := by
  unfold State.append
  split <;> simp

@[simp] theorem State.setWaiters_arb (s : State) (control : Bool) (l : List Waiter) : (s.setWaiters control l).arb = s.arb := by
  unfold State.setWaiters
  split <;> rfl

theorem State.oweCapture_arb (s : State) (n : Nat) (st : CompStatus) : (s.oweCapture n st).arb = s.arb := by
  unfold State.oweCapture
  split <;> simp [State.setCapture]

/-! ## Voices and announcements -/

theorem State.bringClaim_keeps (s : State) (v : Voice) (mask : ZoneSet) (z : Zone) : KeepsSources s (s.bringClaim v mask z) := by
  unfold State.bringClaim
  dsimp only
  split
  · exact .refl s
  · exact s.fileTold_keeps (voiceSource_class v) ..
  · exact s.withdrawTold_keeps (voiceSource_class v) ..
  · exact .refl s

theorem State.becomeCurrent_keeps (s : State) (v : Voice) (e : Entry) : KeepsSources s (s.becomeCurrent v e) := by
  unfold State.becomeCurrent
  dsimp only
  have ready (r : VoiceRec) : KeepsSources s ((s.setUse e.clip (.playing v)).setVoice v r) := .of_arb rfl
  exact ((((((ready _).trans (State.bringClaim_keeps ..)).trans (State.bringClaim_keeps ..)).trans
    (State.bringClaim_keeps ..)).trans (State.bringClaim_keeps ..)).trans (State.captureAfter_keeps ..)).trans
    (.of_arb (State.liftHush_arb ..))

theorem State.accept_keeps (s : State) (v : Voice) (e : Entry) : KeepsSources s (s.accept v e) := by
  unfold State.accept
  dsimp only
  have queued (r : VoiceRec) : KeepsSources s ((s.setUse e.clip (.queued v)).setVoice v r) := .of_arb rfl
  split
  · exact (queued _).trans (State.becomeCurrent_keeps ..)
  · exact queued _

theorem State.placeReplay_keeps (s : State) (p : Path) (n : Nat) : KeepsSources s (s.placeReplay p n) := by
  unfold State.placeReplay State.place
  split
  next t h =>
    split at h
    · cases h
    · obtain rfl := Except.ok.inj h
      exact State.accept_keeps ..
  · exact .refl s

theorem State.closeCapture_keeps (s : State) (p : Path) (n : Nat) (st : CompStatus) : KeepsSources s (s.closeCapture p n st) := by
  unfold State.closeCapture
  dsimp only
  split
  · exact .of_arb (by simp [State.setCapture])
  · have closed : KeepsSources s (s.closeClip n (s.pool.clip n).fill) := .of_arb (State.closeClip_arb ..)
    exact (closed.trans (State.placeReplay_keeps ..)).trans (.of_arb (State.oweCapture_arb ..))

theorem State.closeOwn_keeps (s : State) (p : Path) : KeepsSources s (s.closeOwn p) := by
  unfold State.closeOwn
  split
  · split
    · exact s.closeCapture_keeps ..
    · exact .refl s
  · exact .refl s

theorem State.endAnn_keeps (s : State) (p : Path) : KeepsSources s (s.endAnn p) := by
  unfold State.endAnn
  split
  · exact .refl s
  · dsimp only
    have ended (t : State) : KeepsSources t ((t.setAnn p Announcement.quiet).raise .taEnded) := .of_arb (by simp [State.setAnn])
    exact ((((s.closeOwn_keeps p).trans (.mapTraf ..)).trans (State.withdrawAll_keeps (trafficSource_class p) _)).trans
      (ended _)).trans (State.captureAfter_keeps ..)

theorem State.beginAnn_keeps (s : State) (p : Path) : KeepsSources s (s.beginAnn p) := by
  unfold State.beginAnn
  exact ((KeepsSources.mapTraf s _).trans (State.takingPath_keeps ..)).trans (.of_arb (State.raise_rest ..).1)

theorem State.annSync_keeps (s : State) (p : Path) : KeepsSources s (s.annSync p) := by
  unfold State.annSync
  dsimp only
  split
  · exact s.endAnn_keeps p
  · split
    · split
      · exact s.beginAnn_keeps p
      · exact .refl s
    · split
      · exact .refl s
      · exact .mapTraf s _
    · split
      · exact .mapTraf s _
      · exact .refl s
end Sys2Proof.Machine
end

section
namespace Sys2Proof.Machine

/-! ## The plan of P2 -/

/-- What the plan of P2 keeps: the ENTERTAINMENT sources, the rear wishes, and that no AF check runs. -/
structure KeepsWishes (s t : State) : Prop where
  sources : KeepsSources s t
  wishL : t.tun.wishL = s.tun.wishL
  wishR : t.tun.wishR = s.tun.wishR
  check : s.tun.check = none → t.tun.check = none

theorem KeepsWishes.trans {s t u : State} (h : KeepsWishes s t) (h' : KeepsWishes t u) : KeepsWishes s u :=
  ⟨h.sources.trans h'.sources, h'.wishL.trans h.wishL, h'.wishR.trans h.wishR, fun hc => h'.check (h.check hc)⟩

theorem KeepsWishes.of_tun {s t : State} (h : KeepsSources s t) (ht : t.tun = s.tun) : KeepsWishes s t :=
  ⟨h, by rw [ht], by rw [ht], fun hc => by rw [ht, hc]⟩

theorem KeepsWishes.refl (s : State) : KeepsWishes s s := .of_tun (.refl s) rfl

theorem KeepsWishes.mapSta (s : State) (f : Table → Table) : KeepsWishes s (s.mapSta f) := .of_tun (.of_arb rfl) rfl

theorem KeepsWishes.mapScan (s : State) (f : Scan → Scan) : KeepsWishes s (s.mapScan f) := .of_tun (.of_arb rfl) rfl

theorem KeepsWishes.setPath (s : State) (p : Path) (x : PathRec) : KeepsWishes s (s.setPath p x) :=
  ⟨.of_arb rfl, rfl, rfl, id⟩

theorem State.annSync_wishes (s : State) (p : Path) : KeepsWishes s (s.annSync p) :=
  .of_tun (s.annSync_keeps p) (by simp)

theorem State.beginTune_wishes (s : State) (p : Path) (st : Station) : KeepsWishes s (s.beginTune p st) := by
  have started (t : State) (h : KeepsWishes s t) (x : PathRec) : KeepsWishes s ((t.setPath p x).dropAssoc p) :=
    (h.trans (.setPath ..)).trans (.mapSta ..)
  have emptied : KeepsWishes s (if p = .p1 then s.mapTun Tuner.emptyHold else s) := by
    split
    · exact ⟨.of_arb rfl, rfl, rfl, id⟩
    · exact .refl s
  unfold State.beginTune
  dsimp only
  generalize (if p = .p1 then s.mapTun Tuner.emptyHold else s) = t at emptied ⊢
  split
  · exact ((started _ emptied _).trans (.of_tun (.of_arb (State.orderHush_arb ..)) (by simp))).trans (State.annSync_wishes ..)
  · exact (started _ emptied _).trans (State.annSync_wishes ..)

theorem State.startTune_wishes (s : State) (p : Path) (st : Station) : KeepsWishes s (s.startTune p st) := by
  unfold State.startTune
  dsimp only
  split
  · exact .setPath ..
  · exact .setPath ..
  · exact s.beginTune_wishes p st

theorem State.enterRear_wishes (s : State) (st : Station) : KeepsWishes s (s.enterRear st) := by
  have window : KeepsWishes s s.endWindow := by
    unfold State.endWindow
    split
    · exact .refl s
    · exact (KeepsWishes.mapScan s _).trans (.mapScan ..)
  have cut : KeepsWishes s s.endWindow.cancelTrial :=
    window.trans ⟨.of_arb rfl, rfl, rfl, fun h => by simp [State.cancelTrial, State.mapTun, h]⟩
  unfold State.enterRear
  dsimp only
  split
  · exact ((cut.trans (.mapSta ..)).trans (.of_tun (.of_arb (State.liftHush_arb ..)) (by simp))).trans (State.annSync_wishes ..)
  · exact cut

theorem State.setRole_wishes (s : State) (r : Role) (st : Option Station) : KeepsWishes s (s.setRole r st) := by
  have left (x : PathRec) : KeepsWishes s
      (if (s.path .p2).role = .rear then ((s.setPath .p2 x).dropAssoc .p2).annSync .p2 else s.setPath .p2 x) := by
    split
    · exact ((KeepsWishes.setPath s _ _).trans (.mapSta ..)).trans (State.annSync_wishes ..)
    · exact .setPath ..
  unfold State.setRole
  dsimp only
  split
  · exact .refl s
  · split
    · exact (left _).trans (State.enterRear_wishes ..)
    · exact left _

theorem State.sendP2_wishes (s : State) (st : Option Station) : KeepsWishes s (s.sendP2 st) := by
  unfold State.sendP2
  dsimp only
  split
  · split
    · exact .refl s
    · exact s.startTune_wishes ..
  · split
    · exact .refl s
    · exact .setPath ..

/-- R109: re-planning P2 while no AF check runs. -/
theorem State.replan_wishes {s : State} (h : s.tun.check = none) : KeepsWishes s s.replan := by
  have planned : KeepsWishes s s.planP2 := (s.setRole_wishes _ _).trans (State.sendP2_wishes ..)
  have still : s.replan = s.planP2 := by
    rw [State.replan, State.afAdvance, planned.check h]
  rw [still]
  exact planned

theorem State.countDevice_wishes (old s : State) : KeepsWishes s (State.countDevice old s) := by
  unfold State.countDevice
  dsimp only
  split
  · exact .of_tun (.of_arb (State.raise_rest ..).1) (by simp)
  · exact .mapSta ..

/-! ## The ENTERTAINMENT claim (R4, R19) -/

theorem State.entSource_eq (s : State) (z : Zone) : s.entSource z = entSourceIn (s.zone z).claims := rfl

theorem ClaimsOk.classes {zs : ZoneState} (h : ClaimsOk zs) : ClassesOk zs.claims := fun c hc => (h.2.2.1 c hc).1

/-- R4: the ENTERTAINMENT source of one zone has been put on `src`; the other zones keep theirs. -/
structure PutsEnt (s t : State) (z : Zone) (src : Option Source) : Prop where
  list : ClassesOk (t.zone z).claims ∧ entSourceIn (t.zone z).claims = src
  others : ∀ y, y ≠ z → ListKeeps (s.zone y).claims (t.zone y).claims

theorem PutsEnt.trans {s t u : State} {z : Zone} {src : Option Source} (h : PutsEnt s t z src) (h' : KeepsSources t u) :
    PutsEnt s u z src := by
  obtain ⟨⟨classes, source⟩, others⟩ := h
  obtain ⟨classes', source'⟩ := h'.list z classes
  exact ⟨⟨classes', source'.trans source⟩, fun y hy => (others y hy).trans (h'.list y)⟩

theorem PutsEnt.setZone {s : State} {z : Zone} {zs : ZoneState} {src : Option Source} (hc : ClassesOk zs.claims)
    (hs : entSourceIn zs.claims = src) : PutsEnt s (s.setZone z zs) z src :=
  ⟨by rw [State.setZone_zone]; exact ⟨hc, hs⟩, fun y hy => by rw [State.setZone_zone_ne _ hy]; exact .refl _⟩

theorem entSourceIn_eq_none {cs : List Claim} : entSourceIn cs = none ↔ ∀ c ∈ cs, c.cls ≠ .entertainment := by
  simp [entSourceIn]

theorem entSourceIn_insertClaim {c : Claim} (hc : c.cls = .entertainment) {cs : List Claim} (hn : entSourceIn cs = none) :
    entSourceIn (insertClaim c cs) = some c.source := by
  induction cs with
  | nil => simp [insertClaim, entSourceIn, hc]
  | cons d ds ih =>
    obtain ⟨hd, hds⟩ := List.forall_mem_cons.1 (entSourceIn_eq_none.1 hn)
    rw [insertClaim]
    split
    · simp [entSourceIn, hc]
    · have rest := ih (entSourceIn_eq_none.2 hds)
      simpa [entSourceIn, hd] using rest

/-- R4: a replacement puts the ENTERTAINMENT claim on the new source. -/
theorem State.replaceEnt_puts {s : State} {z : Zone} {c : Claim} {x : Source} (h : ClassesOk (s.zone z).claims)
    (hc : s.entClaim z = some c) (hx : classOf x = .entertainment) : PutsEnt s (s.replaceEnt z c.source x) z (some x) := by
  obtain ⟨hmem, hcls⟩ := State.entClaim_some hc
  have cls (d : Claim) : (if d.source = c.source then { d with source := x } else d).cls = d.cls := by split <;> rfl
  have replaced : PutsEnt s (s.setZone z ((s.zone z).replace c.source x)) z (some x) := by
    refine .setZone (fun d hd => ?_) ?_
    · obtain ⟨e, he, rfl⟩ := List.mem_map.1 hd
      rw [cls, h e he]
      split
      next hs => rw [hs, ← h c hmem, hcls, hx]
      next => rfl
    · have found : (fun d : Claim => d.cls == .entertainment) ∘ (fun d => if d.source = c.source then { d with source := x } else d) =
          fun d => d.cls == .entertainment := by
        funext d
        simp only [Function.comp_apply, cls]
      rw [State.entClaim] at hc
      rw [ZoneState.replace, entSourceIn, List.find?_map, found, hc]
      simp
  exact ((replaced.trans (.mapRend ..)).trans (State.evaluateTold_keeps ..)).trans (State.captureAfter_keeps ..)

/-- R4: a filing of an ENTERTAINMENT source where none stood. -/
theorem State.file_puts {s : State} {z : Zone} {x : Source} (h : ClassesOk (s.zone z).claims) (hn : s.entClaim z = none)
    (hx : classOf x = .entertainment) (shadow : Bool) : PutsEnt s (s.file z x shadow) z (some x) := by
  have absent : s.claim z x = none := by
    refine List.find?_eq_none.2 fun c hc => ?_
    have other := State.entClaim_none hn c hc
    rw [h c hc] at other
    simp only [beq_iff_eq]
    rintro rfl
    exact other hx
  obtain ⟨classes, source⟩ := ListKeeps.makeRoom (s.zone z) h
  have filed : PutsEnt s (s.setZone z ((s.zone z).insert x shadow)) z (some x) := by
    refine .setZone (fun d hd => ?_) ?_
    · rcases List.mem_cons.1 ((insertClaim_perm _ _).mem_iff.1 hd) with rfl | hd
      · rfl
      · exact classes d hd
    · refine entSourceIn_insertClaim hx (source.trans ?_)
      rw [← State.entSource_eq, State.entSource, hn]
      rfl
  rw [State.file_evaluates shadow absent (.inr hn)]
  exact (filed.trans (State.evaluateTold_keeps ..)).trans (State.captureAfter_keeps ..)

/-- R4: a withdrawal of the ENTERTAINMENT claim. -/
theorem State.withdraw_puts {s : State} {z : Zone} {c : Claim} (h : ClaimsOk (s.zone z)) (hc : s.entClaim z = some c) :
    PutsEnt s (s.withdraw z c.source) z none := by
  obtain ⟨hmem, hcls⟩ := State.entClaim_some hc
  have present : (s.claim z c.source).isSome = true := List.find?_isSome.2 ⟨c, hmem, by simp⟩
  obtain ⟨d, hd⟩ := Option.isSome_iff_exists.1 present
  have removed : PutsEnt s (s.setZone z ((s.zone z).remove c.source)) z none := by
    refine .setZone (fun d hd => h.classes d (List.mem_filter.1 hd).1) (entSourceIn_eq_none.2 fun d hd he => ?_)
    obtain ⟨hm, hs⟩ := List.mem_filter.1 hd
    simp [h.2.2.2 d hm c hmem he hcls] at hs
  simp only [State.withdraw, State.withdrawTold, hd]
  exact ((removed.trans (.mapRend ..)).trans (State.evaluateTold_keeps ..)).trans (State.captureAfter_keeps ..)

/-- R4, R19: the zone's ENTERTAINMENT claim is put on a source, or withdrawn. -/
theorem State.setEnt_puts {s : State} {z : Zone} {src : Option Source} (h : ClaimsOk (s.zone z))
    (hx : ∀ x, src = some x → classOf x = .entertainment) : PutsEnt s (s.setEnt z src) z src := by
  have stays (he : s.entSource z = src) : PutsEnt s s z src := ⟨⟨h.classes, he⟩, fun _ _ => .refl _⟩
  unfold State.setEnt
  split
  next c x hc =>
    split
    next he => exact stays (by rw [State.entSource, hc, ← he]; rfl)
    next => exact (State.replaceEnt_puts h.classes hc (hx x rfl)).trans (State.takingUpdate_keeps _)
  next x hn => exact (State.file_puts h.classes hn (hx x rfl) false).trans (State.takingUpdate_keeps _)
  next c hc => exact (State.withdraw_puts h hc).trans (State.takingUpdate_keeps _)
  next hn => exact stays (by rw [State.entSource, hn]; rfl)
end Sys2Proof.Machine
end

section
/-! SUPPORT. ZONE.SELECT. -/

namespace Sys2Proof.Machine

/-- What a request's effect leaves of the state in which the reply before has left, it leaves of the state it found. -/
theorem TunerFrame.untaken {s v : State} (h : TunerFrame s.taking v) : TunerFrame s (s.untaken v) := by
  have count : (s.untaken v).port.tx.countP TxFrame.isReply = s.port.tx.countP TxFrame.isReply :=
    State.untaken_countP (by simp_all only [TunerFrame])
  have reset : s.taking.port.lastReset = s.port.lastReset ∧ s.taking.port.rx = s.port.rx ∧ s.taking.port.held = s.port.held ∧
      s.taking.port.assembly = s.port.assembly ∧ s.taking.port.lastReply = s.port.lastReply := by
    rw [State.taking, State.mapPort, Port.replyLeaves_eq]
    simp
  simp_all [TunerFrame, State.untaken]

@[simp] theorem State.selectEnt_frame (s : State) (z : Zone) (src : Option Source) : TunerFrame s (s.selectEnt z src) := by
  unfold State.selectEnt
  dsimp only
  split <;> simp [TunerFrame]

theorem KeepsSources.setWish (s : State) (z : Zone) (w : Wish) : KeepsSources s (s.setWish z w) := by
  unfold State.setWish
  split <;> exact .of_arb rfl

theorem State.setWish_check (s : State) (z : Zone) (w : Wish) : (s.setWish z w).tun.check = s.tun.check := by
  unfold State.setWish
  split <;> rfl

theorem State.wish_setWish {s : State} {z : Zone} (hz : z.rear = true) (w : Wish) : (s.setWish z w).wish z = w := by
  cases z with
  | cabin => cases hz
  | driver => cases hz
  | rearL => rfl
  | rearR => rfl

theorem KeepsWishes.wish {s t : State} (h : KeepsWishes s t) (z : Zone) : t.wish z = s.wish z := by
  cases z with
  | cabin => rfl
  | driver => rfl
  | rearL => exact h.wishL
  | rearR => exact h.wishR

/-- R19: an accepted selection, counted. -/
def State.selected (s : State) (z : Zone) (src : Option Source) : State := State.countDevice s (s.selectEnt z src)

theorem State.selected_frame (s : State) (z : Zone) (src : Option Source) : TunerFrame s (s.selected z src) := by
  simp [State.selected, TunerFrame]

/-- R19: a selection puts the ENTERTAINMENT claim on its source, and a rear zone's wish on the cabin's station for RADIO_1. -/
theorem State.selected_puts {s : State} {z : Zone} {src : Option Source} (h : ClaimsOk (s.zone z))
    (hx : ∀ x, src = some x → classOf x = .entertainment) (hc : z.rear = true → s.tun.check = none) :
    PutsEnt s (s.selected z src) z src ∧ (z.rear = true → (s.selected z src).wish z = wishOf src) := by
  have put := State.setEnt_puts h hx
  have tuner : (s.setEnt z src).tun = s.tun := by simp
  have counted := State.countDevice_wishes s (s.selectEnt z src)
  by_cases hz : z.rear = true
  · have check : ((s.setEnt z src).setWish z (wishOf src)).tun.check = none := by
      rw [State.setWish_check, tuner, hc hz]
    have planned := (State.replan_wishes check).trans (State.countDevice_wishes s _)
    have selected : s.selected z src = State.countDevice s ((s.setEnt z src).setWish z (wishOf src)).replan := by
      simp only [State.selected, State.selectEnt, hz, if_true]
    rw [selected]
    exact ⟨(put.trans (.setWish ..)).trans planned.sources, fun _ => (planned.wish z).trans (State.wish_setWish hz _)⟩
  · have selected : s.selectEnt z src = s.setEnt z src := by
      simp only [State.selectEnt, hz, Bool.false_eq_true, if_false]
    rw [selected] at counted
    rw [State.selected, selected]
    exact ⟨put.trans counted.sources, fun h => absurd h hz⟩

theorem exec_zoneSelect (q : Byte) (m n : Nat) (s : State) : exec (.zoneSelect q m n) s = execZoneSelect q m n s := rfl

/-- An accepted ZONE.SELECT. -/
theorem zoneSelect_accepted {s : State} {q : Byte} {m n : Nat} {z : Zone} {src : Option Source} (hs : Unlocked s)
    (hz : zoneOf m = some z) (hn : selectOf z n = some src) :
    exec (.zoneSelect q m n) s = .next ((s.taking.selected z src).reply 0x10 q
      (.done (.entertainment ((s.taking.selected z src).entSource z) ((s.taking.selected z src).entState z)))) := by
  rw [exec_zoneSelect, execZoneSelect, serve_lockable hs, hz]
  dsimp only
  rw [hn]
  rfl

/-- R19: the sources that a number names. -/
theorem selectOf_named {z : Zone} {n : Nat} {src : Option Source}
    (h : (n = 255 ∧ src = none) ∨ (z ≠ .driver ∧ ((n = 0 ∧ src = some .mediaA) ∨ (n = 1 ∧ src = some .mediaB) ∨
      (n = 2 ∧ src = some .radio1)))) :
    selectOf z n = some src ∧ ∀ x, src = some x → classOf x = .entertainment := by
  rcases h with ⟨rfl, rfl⟩ | ⟨hz, ⟨rfl, rfl⟩ | ⟨rfl, rfl⟩ | ⟨rfl, rfl⟩⟩
  · exact ⟨by cases z <;> rfl, nofun⟩
  all_goals
    refine ⟨?_, fun x hx => ?_⟩
    · cases z <;> simp_all [selectOf]
    · obtain rfl := Option.some.inj hx
      rfl

theorem selectOf_eq_none {z : Zone} {n : Nat} (h : (2 < n ∧ n ≠ 255) ∨ (z = .driver ∧ n ≠ 255)) : selectOf z n = none := by
  unfold selectOf
  split <;> simp_all

theorem wishOf_eq (src : Option Source) : wishOf src = if src = some .radio1 then .cabin else .none := by
  unfold wishOf
  split <;> simp_all

/-- Settles O18: the selection on the state in which the reply before has left. -/
theorem zoneSelectSetsTheEntertainment : Obligations.ZoneSelectSetsTheEntertainment := by
  refine ⟨fun s q m z n src hs hok hz hn hc => ?_, fun s q m n hs h => ?_⟩
  · obtain ⟨named, classes⟩ := selectOf_named hn
    have frame := s.taking.selected_frame z src
    have put : PutsEnt s.taking (s.taking.selected z src) z src ∧ (z.rear = true → (s.taking.selected z src).wish z = wishOf src) :=
      State.selected_puts (hok z) classes hc
    obtain ⟨⟨⟨-, source⟩, others⟩, wish⟩ := put
    have count : (s.taking.selected z src).port.tx.countP TxFrame.isReply = s.taking.port.tx.countP TxFrame.isReply := by
      simp_all only [TunerFrame]
    have line : (s.taking.selected z src).port.lineOut = s.taking.port.lineOut := by simp_all only [TunerFrame]
    have answer := @zoneSelect_accepted s q m n z src hs hz named
    rw [State.entSource_eq, source] at answer
    refine ⟨s.untaken (s.taking.selected z src), ⟨_, answer, repliesWith_untaken _ _ _ count line⟩, TunerFrame.untaken frame, source,
      fun y hy => (others y hy (hok y).classes).2, fun hr => (wish hr).trans (wishOf_eq src)⟩
  · refine answers_lockable 1 0 hs (exec_zoneSelect ..) rfl ?_
    cases hz : zoneOf m with
    | none => rfl
    | some z =>
      have unnamed : selectOf z n = none := by
        refine selectOf_eq_none ?_
        rcases h with hm | hn | ⟨rfl, hn⟩
        · rw [zoneOf_isNone hm] at hz
          cases hz
        · exact .inl hn
        · exact .inr ⟨(Option.some.inj hz).symm, hn⟩
      dsimp only
      rw [unnamed]
      rfl
end Sys2Proof.Machine
end

section
/-! SUPPORT. A render frame as a chain of named parts, and the registers that every part keeps. -/

namespace Sys2Proof.Machine

/-! ## The parts of a render frame -/

/-- A render frame before its voices play: the timers have counted, and the gains have moved. -/
def State.frameOpened (s : State) : State := (((s.tick).applyNotice).thermalFalls).ramps

/-- The four voices have played on the state that the frame opened. -/
def State.framePlayed (s : State) : State :=
  ((((s.voiceFrame .chime).state.voiceFrame .prompt).state.voiceFrame .traffic).state.voiceFrame .ring).state

/-- What the voices' samples have ended has taken place. -/
def State.frameEnded (s : State) : State :=
  let c := s.voiceFrame .chime
  let p := c.state.voiceFrame .prompt
  let t := p.state.voiceFrame .traffic
  let r := t.state.voiceFrame .ring
  (((s.framePlayed.endFrame .chime c.ends).endFrame .prompt p.ends).endFrame .traffic t.ends).endFrame .ring r.ends

/-- The twelve sources' samples of the frame. -/
def State.frameSounds (s : State) (inp : FrameInput) : PerSource (List (Int × Int)) :=
  let c := s.voiceFrame .chime
  let p := c.state.voiceFrame .prompt
  let t := p.state.voiceFrame .traffic
  let r := t.state.voiceFrame .ring
  s.framePlayed.sources inp c.out p.out t.out r.out

/-- The samples have been mixed and put out. -/
def State.frameMixed (s : State) (inp : FrameInput) : State :=
  s.frameOpened.frameEnded.mixdown (s.frameOpened.frameSounds inp)

theorem State.renderStep_eq (s : State) (inp : FrameInput) :
    s.renderStep inp =
      (((((s.frameMixed inp).thermalStep).captureFrame s.frameOpened.traf.capture (s.frameOpened.frameSounds inp)).uplinkFrame
        inp).adapt).farFrame inp := rfl

theorem exec_renderFrame {s : State} (h : s.port.op = .run) (inp : FrameInput) :
    exec (.renderFrame inp) s = .next (s.renderStep inp) := by
  have run : s.running = true := s.running_iff.mpr h
  change execRenderFrame inp s = _
  rw [execRenderFrame, if_pos run]

/-! ## What every part keeps -/

/-- What a render frame keeps: the queue, the port's settings, the policy, the volumes and trims, the bank, the station table, and the
settings of the tuner, the scan, the call, the vehicle port and the watches. -/
abbrev KeepsSettings (s t : State) : Prop :=
  t.pending = s.pending ∧ t.port.op = s.port.op ∧ t.port.mask = s.port.mask ∧ t.port.held = s.port.held ∧
  t.port.lastReply = s.port.lastReply ∧ t.arb.policy = s.arb.policy ∧ t.rend.volume = s.rend.volume ∧
  t.rend.trims = s.rend.trims ∧ t.bank = s.bank ∧ t.sta = s.sta ∧ t.tun.flags = s.tun.flags ∧
  t.tun.settings = s.tun.settings ∧ t.scan.interval = s.scan.interval ∧ t.scan.permit = s.scan.permit ∧
  t.call.state = s.call.state ∧ t.call.mode = s.call.mode ∧ t.call.downTrim = s.call.downTrim ∧
  t.call.upTrim = s.call.upTrim ∧ t.call.route = s.call.route ∧ t.call.echo.tc = s.call.echo.tc ∧
  t.call.echo.tt = s.call.echo.tt ∧ t.veh.speed = s.veh.speed ∧ t.veh.override = s.veh.override ∧
  t.veh.base = s.veh.base ∧ t.veh.step = s.veh.step ∧ t.veh.savedStep = s.veh.savedStep ∧
  t.wat.slots.length = s.wat.slots.length

/-- What the parts of a frame after its opening keep besides: the vehicle's age and the tuner. -/
abbrev KeepsRegisters (s t : State) : Prop := KeepsSettings s t ∧ t.veh.age = s.veh.age ∧ t.tun = s.tun

theorem KeepsSettings.trans {s t u : State} (h : KeepsSettings s t) (h' : KeepsSettings t u) : KeepsSettings s u := by
  simp_all only [KeepsSettings, and_self]

theorem KeepsRegisters.trans {s t u : State} (h : KeepsRegisters s t) (h' : KeepsRegisters t u) : KeepsRegisters s u :=
  ⟨h.1.trans h'.1, h'.2.1.trans h.2.1, h'.2.2.trans h.2.2⟩

theorem keepsRegisters_of_claim {s t : State} (h : ClaimFrame s t) : KeepsRegisters s t := by
  simp_all only [ClaimFrame, KeepsRegisters, KeepsSettings, and_self]

@[simp] theorem State.tick_settings (s : State) : KeepsSettings s s.tick := by
  simp [KeepsSettings, State.tick, Tuner.tick, Scan.tick, Vehicle.tick]

@[simp] theorem State.applyNotice_settings (s : State) : KeepsSettings s s.applyNotice := by
  unfold State.applyNotice
  dsimp only
  (repeat' split) <;> simp [KeepsSettings, Echo.startTest]

@[simp] theorem State.thermalFalls_settings (s : State) : KeepsSettings s s.thermalFalls := by
  simp [KeepsSettings, State.thermalFalls, State.deliverThermal]

@[simp] theorem State.frameOpened_settings (s : State) : KeepsSettings s s.frameOpened :=
  (((s.tick_settings.trans s.tick.applyNotice_settings).trans (State.thermalFalls_settings _)).trans
    (keepsRegisters_of_claim (State.ramps_frame _)).1)

@[simp] theorem State.voiceFrame_frame (s : State) (v : Voice) : ClaimFrame s (s.voiceFrame v).state := by
  unfold State.voiceFrame State.leaveStarting State.playFrame State.output
  dsimp only
  (repeat' split) <;> simp [ClaimFrame]

@[simp] theorem State.endFrame_frame (s : State) (v : Voice) (e : Option FrameEnd) : ClaimFrame s (s.endFrame v e) := by
  unfold State.endFrame State.endPass
  dsimp only
  (repeat' split) <;> simp [ClaimFrame]

theorem ClaimFrame.trans {s t u : State} (h : ClaimFrame s t) (h' : ClaimFrame t u) : ClaimFrame s u := by
  simp_all only [ClaimFrame, and_self]

theorem State.framePlayed_frame (s : State) : ClaimFrame s s.framePlayed :=
  (((s.voiceFrame_frame .chime).trans (State.voiceFrame_frame _ .prompt)).trans (State.voiceFrame_frame _ .traffic)).trans
    (State.voiceFrame_frame _ .ring)

@[simp] theorem State.frameEnded_frame (s : State) : ClaimFrame s s.frameEnded := by
  unfold State.frameEnded
  dsimp only
  iterate 4 refine ClaimFrame.trans ?_ (State.endFrame_frame _ _ _)
  exact s.framePlayed_frame

end Sys2Proof.Machine
end

section
namespace Sys2Proof.Machine

/-! ## Mixing, the thermal model and the capture -/

@[simp] theorem State.clipZone_frame (s : State) (z : Zone) (l : List Nat) : ClaimFrame s (s.clipZone z l) := by
  unfold State.clipZone
  split <;> simp [ClaimFrame]

@[simp] theorem State.mixdown_registers (s : State) (snd : PerSource (List (Int × Int))) :
    KeepsRegisters s (s.mixdown snd) := by
  unfold State.mixdown
  dsimp only
  iterate 4 refine KeepsRegisters.trans ?_ (keepsRegisters_of_claim (State.clipZone_frame _ _ _))
  simp [KeepsRegisters, KeepsSettings]

theorem State.mixdown_thermal (s : State) (snd : PerSource (List (Int × Int))) :
    (s.mixdown snd).rend.thermal = s.rend.thermal := by
  simp [State.mixdown]

@[simp] theorem State.thermalStep_registers (s : State) : KeepsRegisters s s.thermalStep := by
  unfold State.thermalStep State.deliverThermal
  dsimp only
  split <;> simp [KeepsRegisters, KeepsSettings]

theorem State.thermalStep_rend (s : State) :
    s.thermalStep.rend = { s.rend with thermal := thermalFrames s.bank 0 s.rend.thermal s.rend.out.speakers } := by
  unfold State.thermalStep State.deliverThermal State.deliverChange
  dsimp only
  (repeat' split) <;> rfl

theorem State.thermalFalls_thermal (s : State) : s.thermalFalls.rend.thermal = s.rend.thermal.map Thermal.fall := by
  simp [State.thermalFalls, State.deliverThermal]

/-- What the storing of captured samples keeps: all that an operation on claims keeps, the samples apart. -/
abbrev CaptureFrame (s t : State) : Prop :=
  KeepsRegisters s t ∧ t.rend.thermal = s.rend.thermal ∧ t.rend.out = s.rend.out

theorem CaptureFrame.trans {s t u : State} (h : CaptureFrame s t) (h' : CaptureFrame t u) : CaptureFrame s u :=
  ⟨h.1.trans h'.1, h'.2.1.trans h.2.1, h'.2.2.trans h.2.2⟩

theorem captureFrame_of_claim {s t : State} (h : ClaimFrame s t) : CaptureFrame s t :=
  ⟨keepsRegisters_of_claim h, by simp_all only [ClaimFrame], by simp_all only [ClaimFrame]⟩

theorem CaptureFrame.refl (s : State) : CaptureFrame s s := by
  simp [CaptureFrame, KeepsRegisters, KeepsSettings]

theorem State.captureSample_frame {s t : State} {n : Nat} {v : Sample} (h : s.captureSample n v = some t) : CaptureFrame s t := by
  unfold State.captureSample at h
  obtain ⟨u, hu, rfl⟩ := Option.map_eq_some_iff.mp h
  have extended : CaptureFrame s u := by
    split at hu
    · obtain rfl := Option.some.inj hu
      exact .refl s
    · exact captureFrame_of_claim (State.captureExtend_frame hu)
  exact extended.trans (.refl u)

theorem State.captureSamples_frame (p : Path) (n : Nat) (l : List Sample) (s : State) :
    CaptureFrame s (State.captureSamples p n l s) := by
  induction l generalizing s with
  | nil => exact .refl s
  | cons v vs ih =>
    unfold State.captureSamples
    split
    · rename_i h
      exact (State.captureSample_frame h).trans (ih _)
    · exact captureFrame_of_claim (State.truncate_frame _ _ _)

@[simp] theorem State.captureFrame_frame (s : State) (was : Capture) (snd : PerSource (List (Int × Int))) :
    CaptureFrame s (s.captureFrame was snd) := by
  unfold State.captureFrame
  dsimp only
  split
  · split
    · exact .refl s
    · split
      · exact (State.captureSamples_frame _ _ _ s).trans (captureFrame_of_claim (State.raise_frame _ _))
      · exact State.captureSamples_frame _ _ _ s
  · exact .refl s

/-! ## The uplink -/

@[simp] theorem State.uplinkFrame_frame (s : State) (inp : FrameInput) : CaptureFrame s (s.uplinkFrame inp) := by
  unfold State.uplinkFrame
  dsimp only
  split
  · exact .refl s
  · split <;> simp [CaptureFrame, KeepsRegisters, KeepsSettings]

@[simp] theorem State.adapt_frame (s : State) : CaptureFrame s s.adapt := by
  unfold State.adapt
  split
  · simp [CaptureFrame, KeepsRegisters, KeepsSettings]
  · exact .refl s

@[simp] theorem State.farFrame_frame (s : State) (inp : FrameInput) : CaptureFrame s (s.farFrame inp) := by
  simp [CaptureFrame, KeepsRegisters, KeepsSettings, State.farFrame]

/-! ## The whole frame -/

/-- What follows the thermal model keeps the thermal records and the outputs. -/
theorem State.renderStep_after (s : State) (inp : FrameInput) :
    CaptureFrame (s.frameMixed inp).thermalStep (s.renderStep inp) := by
  rw [State.renderStep_eq]
  exact (((State.captureFrame_frame _ _ _).trans (State.uplinkFrame_frame _ inp)).trans (State.adapt_frame _)).trans
    (State.farFrame_frame _ inp)

theorem State.frameMixed_registers (s : State) (inp : FrameInput) : KeepsRegisters s.frameOpened (s.frameMixed inp) :=
  (keepsRegisters_of_claim s.frameOpened.frameEnded_frame).trans (State.mixdown_registers _ _)

theorem State.renderStep_registers (s : State) (inp : FrameInput) : KeepsRegisters s.frameOpened (s.renderStep inp) :=
  ((s.frameMixed_registers inp).trans (State.thermalStep_registers _)).trans (s.renderStep_after inp).1

/-- R34: a render frame keeps the settings. -/
theorem State.renderStep_settings (s : State) (inp : FrameInput) : KeepsSettings s (s.renderStep inp) :=
  s.frameOpened_settings.trans (s.renderStep_registers inp).1

theorem State.renderStep_out (s : State) (inp : FrameInput) : (s.renderStep inp).rend.out = (s.frameMixed inp).rend.out := by
  rw [(s.renderStep_after inp).2.2, State.thermalStep_rend]

/-- R41: the thermal records that the thermal model finds: those of the state, with the falls still due. -/
theorem State.frameMixed_thermal (s : State) (inp : FrameInput) :
    (s.frameMixed inp).rend.thermal = s.rend.thermal.map Thermal.fall := by
  have notice : s.tick.applyNotice.rend.thermal = s.tick.rend.thermal := by
    have := s.tick.applyNotice_frame
    simp_all only [CallFrame]
  have opened : s.frameOpened.rend.thermal = s.tick.applyNotice.thermalFalls.rend.thermal := by
    simp [State.frameOpened]
  have ended : (s.frameMixed inp).rend.thermal = s.frameOpened.rend.thermal := by
    rw [State.frameMixed, State.mixdown_thermal]
    simp
  rw [ended, opened, State.thermalFalls_thermal, notice]
  rfl

/-- R41: the thermal records at the end of a frame. -/
theorem State.renderStep_thermal (s : State) (inp : FrameInput) :
    (s.renderStep inp).rend.thermal =
      thermalFrames s.bank 0 (s.rend.thermal.map Thermal.fall) (s.renderStep inp).rend.out.speakers := by
  have bank : (s.frameMixed inp).bank = s.bank := by
    have := s.frameOpened_settings.trans (s.frameMixed_registers inp).1
    simp_all only [KeepsSettings]
  rw [s.renderStep_out, (s.renderStep_after inp).2.1, State.thermalStep_rend, bank, State.frameMixed_thermal]

end Sys2Proof.Machine
end

section
/-! SUPPORT. Every move keeps the numbered registers within their ranges. -/

namespace Sys2Proof.Machine

/-! ## Registers that stand -/

/-- The registers of `RendererInRange` and `SettingsInRange` have the values they had. -/
abbrev SameRegisters (s t : State) : Prop :=
  t.rend.volume = s.rend.volume ∧ t.rend.trims = s.rend.trims ∧ t.rend.thermal = s.rend.thermal ∧
  t.tun.settings = s.tun.settings ∧ t.scan.interval = s.scan.interval ∧ t.scan.permit = s.scan.permit ∧
  t.sta.admitQ = s.sta.admitQ ∧ t.call.downTrim = s.call.downTrim ∧ t.call.upTrim = s.call.upTrim ∧
  t.call.echo.tc = s.call.echo.tc ∧ t.call.echo.tt = s.call.echo.tt ∧ t.veh.speed = s.veh.speed ∧
  t.veh.age = s.veh.age ∧ t.veh.base = s.veh.base ∧ t.veh.step = s.veh.step ∧ t.veh.savedStep = s.veh.savedStep ∧
  t.wat.slots.length = s.wat.slots.length

/-- R24, R27, R41, R112, R127, R158, R162, R168, R169: the registers are within their ranges. -/
def RegistersInRange (s : State) : Prop := RendererInRange s.rend ∧ SettingsInRange s

theorem SameRegisters.inRange {s t : State} (h : SameRegisters s t) (hs : RegistersInRange s) : RegistersInRange t := by
  obtain ⟨hv, ht, hth, hset, hi, hp, ha, hd, hu, htc, htt, hsp, hage, hb, hst, hsv, hw⟩ := h
  unfold RegistersInRange RendererInRange SettingsInRange
  rw [hv, ht, hth, hset, hi, hp, ha, hd, hu, htc, htt, hsp, hage, hb, hst, hsv, hw]
  exact hs

theorem SameRegisters.trans {s t u : State} (h : SameRegisters s t) (h' : SameRegisters t u) : SameRegisters s u := by
  simp_all only [SameRegisters, and_self]

theorem SameRegisters.refl (s : State) : SameRegisters s s := by simp only [SameRegisters, and_self]

theorem sameRegisters_of_claim {s t : State} (h : ClaimFrame s t) : SameRegisters s t := by
  simp_all only [ClaimFrame, SameRegisters, and_self]

theorem sameRegisters_of_tuner {s t : State} (h : TunerFrame s t) : SameRegisters s t := by
  simp_all only [TunerFrame, SameRegisters, and_self]

theorem sameRegisters_of_call {s t : State} (h : CallFrame s t) : SameRegisters s t := by
  simp_all only [CallFrame, SameRegisters, and_self]

/-! ## The thermal model (R41) -/

/-- R41: a channel's thermal record is within its ranges. -/
def Thermal.inRange (t : Thermal) : Prop := t.energy ≤ 2147483647 ∧ t.reduction ≤ 96 ∧ t.cool ≤ 16

theorem Thermal.fall_inRange {t : Thermal} (h : t.inRange) : t.fall.inRange := by
  obtain ⟨he, hr, hc⟩ := h
  unfold Thermal.fall
  split
  · exact ⟨he, (Nat.sub_le _ _).trans hr, Nat.zero_le _⟩
  · exact ⟨he, hr, hc⟩

theorem Thermal.fall_cool {t : Thermal} (h : t.inRange) : t.fall.cool ≤ 15 := by
  obtain ⟨-, -, hc⟩ := h
  unfold Thermal.fall
  split
  · exact Nat.zero_le _
  · omega

/-- A frame adds 1 to the cool count at most. -/
theorem Thermal.frame_inRange {t : Thermal} (h : t.inRange) (hc : t.cool ≤ 15) (e : ChannelEntry) (p : Nat) :
    (t.frame e p).inRange := by
  obtain ⟨-, hr, -⟩ := h
  have energy : min Config.energyMax (t.energy + p - t.energy / e.tau) ≤ 2147483647 := Nat.min_le_left ..
  unfold Thermal.frame
  dsimp only
  (repeat' split)
  · exact ⟨energy, Nat.min_le_left .., Nat.zero_le _⟩
  · exact ⟨energy, hr, Nat.zero_le _⟩
  · exact ⟨energy, hr, Nat.succ_le_succ hc⟩
  · exact ⟨energy, hr, Nat.zero_le _⟩

theorem thermalFrames_length (b : Bank) : ∀ (k : Nat) (ts : List Thermal) (outs : List (List Rat)),
    (thermalFrames b k ts outs).length = ts.length
  | _, [], [] => rfl
  | _, [], _ :: _ => rfl
  | _, _ :: _, [] => rfl
  | k, _ :: ts, _ :: outs => by
    simp only [thermalFrames, List.length_cons, thermalFrames_length b (k + 1) ts outs]

theorem thermalFrames_inRange (b : Bank) : ∀ (k : Nat) (ts : List Thermal) (outs : List (List Rat)),
    (∀ t ∈ ts, t.inRange ∧ t.cool ≤ 15) → ∀ t ∈ thermalFrames b k ts outs, t.inRange
  | _, [], [], _, t, ht => by cases ht
  | _, [], _ :: _, _, t, ht => by cases ht
  | _, x :: ts, [], h, t, ht => (h t ht).1
  | k, x :: ts, o :: outs, h, t, ht => by
    rcases List.mem_cons.mp ht with rfl | ht
    · obtain ⟨hx, hc⟩ := h x List.mem_cons_self
      exact x.frame_inRange hx hc _ _
    · exact thermalFrames_inRange b (k + 1) ts outs (fun t h' => h t (List.mem_cons_of_mem _ h')) t ht

/-- A renderer with other thermal records. -/
theorem RendererInRange.withThermal {r t : Renderer} (h : RendererInRange r) (hv : t.volume = r.volume) (ht : t.trims = r.trims)
    (hl : t.thermal.length = r.thermal.length) (hx : ∀ x ∈ t.thermal, x.inRange) : RendererInRange t := by
  obtain ⟨volumes, trims, length, -⟩ := h
  unfold RendererInRange
  rw [hv, ht, hl]
  exact ⟨volumes, trims, length, hx⟩

theorem RendererInRange.thermal_inRange {r : Renderer} (h : RendererInRange r) : ∀ x ∈ r.thermal, x.inRange := h.2.2.2

theorem State.coolFall_inRange (s : State) (k : Nat) (h : RegistersInRange s) : RegistersInRange (s.coolFall k) := by
  have thermal : (s.coolFall k).rend.thermal = updateAt Thermal.fall k s.rend.thermal := by
    simp [State.coolFall, State.deliverThermal]
  refine ⟨h.1.withThermal (by simp [State.coolFall, State.deliverThermal]) (by simp [State.coolFall, State.deliverThermal])
    (by rw [thermal, updateAt_length]) (fun x hx => ?_), ?_⟩
  · rw [thermal] at hx
    rcases mem_updateAt hx with hx | ⟨y, hy, rfl⟩
    · exact h.1.thermal_inRange x hx
    · exact Thermal.fall_inRange (h.1.thermal_inRange y hy)
  · simpa [SettingsInRange, State.coolFall, State.deliverThermal] using h.2

/-- R41, R169: a render frame moves the thermal records and the age of the speed. -/
theorem State.renderStep_inRange (s : State) (inp : FrameInput) (h : RegistersInRange s) : RegistersInRange (s.renderStep inp) := by
  have opened : s.frameOpened.veh.age = min 1000 (s.veh.age + 1) := by
    have notice : s.tick.applyNotice.veh.age = s.tick.veh.age := by
      have := s.tick.applyNotice_frame
      simp_all only [CallFrame]
    have moved : s.frameOpened.veh.age = s.tick.applyNotice.veh.age := by
      simp [State.frameOpened, State.thermalFalls, State.deliverThermal]
    rw [moved, notice]
    rfl
  have age : (s.renderStep inp).veh.age ≤ 1000 := by
    rw [(s.renderStep_registers inp).2.1, opened]
    exact Nat.min_le_left ..
  obtain ⟨-, -, -, -, -, -, hv, ht, -, hsta, -, hset, hi, hp, -, -, hd, hu, -, htc, htt, hsp, -, hb, hst, hsv, hw⟩ :=
    s.renderStep_settings inp
  have falls : ∀ x ∈ s.rend.thermal.map Thermal.fall, x.inRange ∧ x.cool ≤ 15 := by
    intro x hx
    obtain ⟨y, hy, rfl⟩ := List.mem_map.mp hx
    exact ⟨Thermal.fall_inRange (h.1.thermal_inRange y hy), Thermal.fall_cool (h.1.thermal_inRange y hy)⟩
  refine ⟨h.1.withThermal hv ht ?_ ?_, ?_⟩
  · rw [s.renderStep_thermal, thermalFrames_length, List.length_map]
  · rw [s.renderStep_thermal]
    exact thermalFrames_inRange _ _ _ _ falls
  · obtain ⟨threshold, hold, margin, seek, interval, permit, admission, down, up, tc, tt, speed, -, base, step, saved, slots⟩ := h.2
    unfold SettingsInRange
    rw [hset, hi, hp, hsta, hd, hu, htc, htt, hsp, hb, hst, hsv, hw]
    exact ⟨threshold, hold, margin, seek, interval, permit, admission, down, up, tc, tt, speed, age, base, step, saved, slots⟩

end Sys2Proof.Machine
end

section
namespace Sys2Proof.Machine

/-! ## The volumes, the trims and the override (R24, R27, R174, R176) -/

/-- R24: one step is set within its range. -/
theorem RendererInRange.withStep {r : Renderer} (h : RendererInRange r) (z : Zone) (k : Kind) {step : Nat} (hs : step ≤ 63) :
    RendererInRange { r with volume := r.volume.set z ((r.volume.get z).set k step) } := by
  obtain ⟨volumes, rest⟩ := h
  refine ⟨fun y j => ?_, rest⟩
  by_cases hy : z = y
  · subst hy
    rw [PerZone.get_set_same]
    by_cases hj : k = j
    · subst hj
      rwa [PerKind.get_set_same]
    · rw [PerKind.get_set_ne _ _ hj]
      exact volumes z j
  · rw [PerZone.get_set_ne _ _ hy]
    exact volumes y j

/-- R27: one trim is set within its range. -/
theorem RendererInRange.withTrim {r : Renderer} (h : RendererInRange r) (z : Zone) (src : Source) {v : Int} (hv : -48 ≤ v ∧ v ≤ 24) :
    RendererInRange { r with trims := r.trims.set z ((r.trims.get z).set src v) } := by
  obtain ⟨volumes, trims, rest⟩ := h
  refine ⟨volumes, fun y x => ?_, rest⟩
  by_cases hy : z = y
  · subst hy
    rw [PerZone.get_set_same]
    by_cases hx : src = x
    · subst hx
      rwa [PerSource.get_set_same]
    · rw [PerSource.get_set_ne _ _ hx]
      exact trims z x
  · rw [PerZone.get_set_ne _ _ hy]
    exact trims y x

theorem clampInt_bounds {a b : Int} (h : a ≤ b) (x : Int) : a ≤ clampInt a b x ∧ clampInt a b x ≤ b := by
  unfold clampInt
  split <;> [skip; split] <;> omega

theorem State.setStep_inRange (s : State) (z : Zone) (k : Kind) (step : Nat) (h : RegistersInRange s) :
    RegistersInRange (s.setStep z k (min step 63)) :=
  have written : RegistersInRange (s.mapRend (fun r => { r with volume := r.volume.set z ((r.volume.get z).set k (min step 63)) })) :=
    ⟨h.1.withStep z k (Nat.min_le_right ..), h.2⟩
  (sameRegisters_of_claim (State.deliverVolumes_frame _ s z)).inRange written

/-- R174, R176: the CABIN CALL step takes a step within the range. -/
theorem State.setCallStep_inRange (s : State) {step : Nat} (hs : step ≤ 63) (h : RegistersInRange s) :
    RegistersInRange (s.setCallStep step) := ⟨h.1.withStep .cabin .call hs, h.2⟩

/-- R174: the step in use at the entry is within the range, and so is the emergency step that takes its place. -/
theorem State.overrideEnterRecord_inRange (s : State) (h : RegistersInRange s) : RegistersInRange s.overrideEnterRecord := by
  unfold State.overrideEnterRecord
  split
  · exact h
  · dsimp only
    refine (sameRegisters_of_claim (State.raise_frame _ _)).inRange ?_
    refine (sameRegisters_of_claim (State.deliverVolumes_frame _ _ _)).inRange ?_
    generalize ht : State.setRoute _ _ _ = t
    have entered : RegistersInRange t := by
      rw [← ht]
      refine SameRegisters.inRange ?_ h
      simp [SameRegisters]
    obtain ⟨rend, threshold, hold, margin, seek, interval, permit, admission, down, up, tc, tt, speed, age, base, step, saved, slots⟩ :=
      entered
    have kept : RegistersInRange (t.mapVeh (fun x => { x with savedStep := some t.rend.volume.cabin.call })) :=
      ⟨rend, threshold, hold, margin, seek, interval, permit, admission, down, up, tc, tt, speed, age, base, step,
        fun n hn => Option.some.inj hn ▸ rend.1 .cabin .call, slots⟩
    exact State.setCallStep_inRange _ step.2 kept

theorem State.exitCheck_registers (s base : State) : SameRegisters s (s.exitCheck base) := by
  unfold State.exitCheck
  dsimp only
  split <;> simp [SameRegisters]

/-- R176: the step that the entry put by is given back. -/
theorem State.overrideExitRecord_inRange (s : State) (drop : Bool) (h : RegistersInRange s) :
    RegistersInRange (s.overrideExitRecord drop) := by
  unfold State.overrideExitRecord
  split
  · exact h
  · obtain ⟨rend, threshold, hold, margin, seek, interval, permit, admission, down, up, tc, tt, speed, age, base, step, saved, slots⟩ := h
    have given : s.veh.savedStep.getD s.rend.volume.cabin.call ≤ 63 := by
      cases hs : s.veh.savedStep with
      | none => exact rend.1 .cabin .call
      | some n => exact saved n hs
    have cleared : RegistersInRange (s.mapVeh (fun x => { x with savedStep := none })) :=
      ⟨rend, threshold, hold, margin, seek, interval, permit, admission, down, up, tc, tt, speed, age, base, step, nofun, slots⟩
    have back := State.setCallStep_inRange _ given cleared
    dsimp only
    refine (sameRegisters_of_claim (State.raise_frame _ _)).inRange ?_
    refine (State.exitCheck_registers _ s).inRange ?_
    refine SameRegisters.inRange ?_ back
    split <;> simp [SameRegisters]

/-- R169: a SPEED record. -/
theorem State.speedRecord_inRange (s : State) (v : Nat) (h : RegistersInRange s) : RegistersInRange (s.speedRecord v) := by
  obtain ⟨rend, threshold, hold, margin, seek, interval, permit, admission, down, up, tc, tt, -, -, base, step, saved, slots⟩ := h
  refine (sameRegisters_of_claim (State.deliver_frame _ _ _)).inRange ⟨rend, ?_⟩
  exact ⟨threshold, hold, margin, seek, interval, permit, admission, down, up, tc, tt, Nat.min_le_right .., Nat.zero_le _, base, step,
    saved, slots⟩

theorem State.chimeRecord_registers (s : State) (c m r g : Nat) : SameRegisters s (s.chimeRecord c m r g) := by
  unfold State.chimeRecord
  split
  · rename_i h
    exact (sameRegisters_of_claim (State.place_frame h)).trans (.refl _)
  · exact .refl s

theorem State.chimeStopRecord_registers (s : State) : SameRegisters s s.chimeStopRecord := by
  unfold State.chimeStopRecord
  split
  · rename_i h
    exact (sameRegisters_of_claim (State.flush_frame h)).trans (.refl _)
  · exact .refl s

theorem State.vehicleRecord_inRange (s : State) (r : VehicleRecord) (h : RegistersInRange s) : RegistersInRange (s.vehicleRecord r) := by
  cases r with
  | speed v => exact s.speedRecord_inRange v h
  | chime c m r g => exact (s.chimeRecord_registers c m r g).inRange h
  | chimeStop => exact s.chimeStopRecord_registers.inRange h
  | enter => exact s.overrideEnterRecord_inRange h
  | exit drop => exact s.overrideExitRecord_inRange drop h

/-! ## The tables and the resets -/

theorem Renderer.attachDriver_frame (r : Renderer) (old new : List Nat) :
    (r.attachDriver old new).volume = r.volume ∧ (r.attachDriver old new).trims = r.trims ∧
      (r.attachDriver old new).thermal = r.thermal := by
  unfold Renderer.attachDriver
  split
  · exact ⟨rfl, rfl, rfl⟩
  · obtain ⟨volume, trims, thermal, -⟩ := FrameR.foldl (fun r src => r.mapMix .driver src MixPoint.fromMute)
      (by intro r src; simp [FrameR]) Source.all r
    dsimp only
    exact ⟨volume, trims, thermal⟩

theorem State.loadMap_registers (s : State) (t : List ChannelEntry) : SameRegisters s (s.loadMap t) := by
  unfold State.loadMap
  dsimp only
  split
  · refine SameRegisters.trans ?_ (sameRegisters_of_call (State.reconverge_frame _))
    simp [SameRegisters, Renderer.regroup, Renderer.attachDriver_frame]
  · exact .refl s

theorem State.loadCurves_registers (s : State) (t : List (List Int)) : SameRegisters s (s.loadCurves t) := by
  unfold State.loadCurves
  dsimp only
  split <;> simp [SameRegisters]

theorem State.loadEq_registers (s : State) (l : List GroupRecord) : SameRegisters s (s.loadEq l) := by
  unfold State.loadEq
  dsimp only
  (repeat' split) <;> simp [SameRegisters, Renderer.reequalise]

theorem State.loadPolicy_registers (s : State) (t : PerZone PolicyRows) : SameRegisters s (s.loadPolicy t) := by
  unfold State.loadPolicy
  dsimp only
  split <;> simp [SameRegisters]

/-- R168: an accepted VEHICLE table names a base of 2038 at most and a step of 1 to 63. -/
theorem vehicleTable_inRange {bytes : List Byte} {x : Nat × Nat} (h : vehicleTable bytes = some x) :
    x.1 ≤ 2038 ∧ 1 ≤ x.2 ∧ x.2 ≤ 63 := by
  unfold vehicleTable at h
  split at h
  · split at h
    · rename_i hr
      obtain rfl := Option.some.inj h
      exact hr
    · cases h
  · cases h

theorem State.loadVehicle_inRange (s : State) {x : Nat × Nat} (hx : x.1 ≤ 2038 ∧ 1 ≤ x.2 ∧ x.2 ≤ 63) (h : RegistersInRange s) :
    RegistersInRange (s.loadVehicle x) := by
  obtain ⟨rend, threshold, hold, margin, seek, interval, permit, admission, down, up, tc, tt, speed, age, -, -, saved, slots⟩ := h
  exact ⟨rend, threshold, hold, margin, seek, interval, permit, admission, down, up, tc, tt, speed, age, hx.1, hx.2, saved, slots⟩

theorem State.loadTable_inRange {s t : State} {table : Nat} {bytes : List Byte} (ho : s.loadTable table bytes = some t)
    (h : RegistersInRange s) : RegistersInRange t := by
  unfold State.loadTable at ho
  split at ho
  · obtain ⟨x, -, rfl⟩ := Option.map_eq_some_iff.mp ho; exact (s.loadMap_registers x).inRange h
  · obtain ⟨x, -, rfl⟩ := Option.map_eq_some_iff.mp ho; exact (s.loadCurves_registers x).inRange h
  · obtain ⟨x, -, rfl⟩ := Option.map_eq_some_iff.mp ho; exact (s.loadEq_registers x).inRange h
  · obtain ⟨x, -, rfl⟩ := Option.map_eq_some_iff.mp ho; exact (s.loadPolicy_registers x).inRange h
  · obtain ⟨x, hx, rfl⟩ := Option.map_eq_some_iff.mp ho; exact s.loadVehicle_inRange (vehicleTable_inRange hx) h
  · cases ho

theorem State.coldReset_inRange (s : State) : RegistersInRange s.coldReset := ⟨rendererInRange_reset, settingsInRange_reset⟩

/-- R189, 12.4: what a warm reset keeps was within its range, and what it clears is. -/
theorem State.warmReset_inRange (s : State) (h : RegistersInRange s) : RegistersInRange s.warmReset := by
  obtain ⟨-, threshold, hold, margin, seek, interval, permit, admission, -, -, tc, tt, -, -, base, step, -, -⟩ := h
  obtain ⟨-, -, -, -, -, -, -, down, up, -, -, speed, age, -, -, saved, slots⟩ := settingsInRange_reset
  exact ⟨rendererInRange_reset, threshold, hold, margin, seek, interval, permit, admission, down, up, tc, tt, speed, age, base, step,
    saved, slots⟩

end Sys2Proof.Machine
end

section
namespace Sys2Proof.Machine

/-! ## The moves and the registers -/

@[simp] theorem State.writeSamples_registers (s : State) (l : List Sample) : SameRegisters s (s.writeSamples l) := by
  unfold State.writeSamples
  dsimp only
  split <;> simp [SameRegisters]

@[simp] theorem State.setFlags_registers (s : State) (f : TunerFlags) : SameRegisters s (s.setFlags f) := by
  unfold State.setFlags
  dsimp only
  (repeat' split) <;> simp [SameRegisters]

@[simp] theorem State.setRow_registers (s : State) (z : Zone) (n : Nat) (e : Effect) : SameRegisters s (s.setRow z n e) := by
  simp [SameRegisters, State.setRow]

@[simp] theorem State.start_registers (s : State) : SameRegisters s s.start := by
  simp [SameRegisters, State.start, State.buildStatus, Renderer.clearFilters]

@[simp] theorem State.sendChimeDone_registers (s : State) : SameRegisters s s.sendChimeDone := by
  unfold State.sendChimeDone
  dsimp only
  split <;> simp [SameRegisters]

@[simp] theorem State.goStale_registers (s : State) : SameRegisters s s.goStale := by
  unfold State.goStale
  split <;> exact .refl _

@[simp] theorem State.sendStatus_registers (s : State) : SameRegisters s s.sendStatus := by
  unfold State.sendStatus
  split <;> exact .refl _

theorem Echo.converge_thresholds (e : Echo) : e.converge.tc = e.tc ∧ e.converge.tt = e.tt := by
  unfold Echo.converge
  split <;> exact ⟨rfl, rfl⟩

theorem Echo.thaw_thresholds (e : Echo) : e.thaw.tc = e.tc ∧ e.thaw.tt = e.tt := by
  unfold Echo.thaw
  split <;> exact ⟨rfl, rfl⟩

theorem Echo.test_thresholds (e : Echo) : e.test.tc = e.tc ∧ e.test.tt = e.tt := by
  unfold Echo.test
  (repeat' split) <;> exact ⟨rfl, rfl⟩

theorem Echo.estimateActive_thresholds (e : Echo) (far : Bool) (erle : Nat) (dt : Bool) :
    (e.estimateActive far erle dt).tc = e.tc ∧ (e.estimateActive far erle dt).tt = e.tt := by
  unfold Echo.estimateActive
  dsimp only
  (repeat' split) <;> simp [Echo.freeze, Echo.converge_thresholds, Echo.test_thresholds, Echo.runTimer]

/-- R162: an estimate leaves the thresholds. -/
theorem Echo.estimate_thresholds (e : Echo) (far : Bool) (erle : Nat) (dt : Bool) :
    (e.estimate far erle dt).tc = e.tc ∧ (e.estimate far erle dt).tt = e.tt := by
  unfold Echo.estimate
  split
  · exact ⟨rfl, rfl⟩
  · exact e.estimateActive_thresholds far erle dt
  · exact e.estimateActive_thresholds far erle dt
  · exact ⟨rfl, rfl⟩

@[simp] theorem State.setWatch_registers (s : State) (n : Nat) (w : Option Watch) : SameRegisters s (s.setWatch n w) := by
  simp [SameRegisters, State.setWatch]

@[simp] theorem State.formNoise_registers (s : State) : SameRegisters s s.formNoise := by
  simp [SameRegisters, State.formNoise]

/-- A canceller with the same thresholds takes the place of the one before. -/
theorem State.setEcho_registers (s : State) {e : Echo} (h : e.tc = s.call.echo.tc ∧ e.tt = s.call.echo.tt) :
    SameRegisters s (s.setEcho e) := by
  simp [SameRegisters, h]

theorem State.echoEstimate_registers (s : State) (erle : Nat) (dt : Bool) : SameRegisters s (s.echoEstimate erle dt) := by
  unfold State.echoEstimate
  split
  · exact .refl s
  · refine SameRegisters.trans ?_ (sameRegisters_of_claim (State.deliver_frame _ _ _))
    refine SameRegisters.trans ?_ (State.setEcho_registers _ (Echo.estimate_thresholds _ _ _ _))
    have converged := s.call.echo.converge_thresholds
    have thawed := s.call.echo.converge.thaw_thresholds
    exact s.setEcho_registers ⟨thawed.1.trans converged.1, thawed.2.trans converged.2⟩

theorem Move.registers {s t : State} (hm : Move s t) (h : RegistersInRange s) : RegistersInRange t := by
  cases hm with
  | coldReset => exact s.coldReset_inRange
  | warmReset => exact s.warmReset_inRange h
  | loadTable ho => exact State.loadTable_inRange ho h
  | setStep _ z k step => exact s.setStep_inRange z k step h
  | setTrim _ z src v => exact ⟨h.1.withTrim z src (clampInt_bounds (by decide) v), h.2⟩
  | renderStep _ inp => exact s.renderStep_inRange inp h
  | coolFall _ k => exact s.coolFall_inRange k h
  | setTuner _ ht =>
    obtain ⟨rend, -, -, -, -, interval, permit, admission, down, up, tc, tt, speed, age, base, step, saved, slots⟩ := h
    obtain ⟨threshold, hold, margin, seek⟩ := ht
    exact ⟨rend, threshold, hold, margin, seek, interval, permit, admission, down, up, tc, tt, speed, age, base, step, saved, slots⟩
  | setScan _ i p =>
    obtain ⟨rend, threshold, hold, margin, seek, -, -, admission, down, up, tc, tt, speed, age, base, step, saved, slots⟩ := h
    exact ⟨rend, threshold, hold, margin, seek, clampNat_bounds (by decide) i, Nat.min_le_right .., admission, down, up, tc, tt, speed,
      age, base, step, saved, slots⟩
  | setAdmitQ _ q =>
    obtain ⟨rend, threshold, hold, margin, seek, interval, permit, -, down, up, tc, tt, speed, age, base, step, saved, slots⟩ := h
    exact ⟨rend, threshold, hold, margin, seek, interval, permit, Nat.min_le_right .., down, up, tc, tt, speed, age, base, step, saved,
      slots⟩
  | setTrims _ d u =>
    obtain ⟨rend, threshold, hold, margin, seek, interval, permit, admission, -, -, tc, tt, speed, age, base, step, saved, slots⟩ := h
    exact ⟨rend, threshold, hold, margin, seek, interval, permit, admission, clampInt_bounds (by decide) d, clampInt_bounds (by decide) u,
      tc, tt, speed, age, base, step, saved, slots⟩
  | setThresholds _ tc tt =>
    obtain ⟨rend, threshold, hold, margin, seek, interval, permit, admission, down, up, -, -, speed, age, base, step, saved, slots⟩ := h
    exact ⟨rend, threshold, hold, margin, seek, interval, permit, admission, down, up, clampNat_bounds (by decide) tc,
      clampNat_bounds (by decide) tt, speed, age, base, step, saved, slots⟩
  | vehicleRecord _ r => exact s.vehicleRecord_inRange r h
  | echoEstimate _ erle dt => exact (s.echoEstimate_registers erle dt).inRange h
  | converge => exact (s.setEcho_registers s.call.echo.converge_thresholds).inRange h
  | thaw => exact (s.setEcho_registers s.call.echo.thaw_thresholds).inRange h
  | place ho => exact (sameRegisters_of_claim (State.place_frame ho)).inRange h
  | flush ho => exact (sameRegisters_of_claim (State.flush_frame ho)).inRange h
  | rearTune ho => exact (sameRegisters_of_tuner (State.rearTune_frame ho)).inRange h
  | stage | discard | levels | buildStatus => exact SameRegisters.inRange (.refl s) h
  | _ => exact SameRegisters.inRange (by simp [SameRegisters]) h

end Sys2Proof.Machine
end

section
/-! SUPPORT. Every move keeps the profiles' fields within their ranges: a CURRENT profile is changed by a take alone. -/

namespace Sys2Proof.Machine

/-! ## Takes (R59) -/

/-- R59: the STAGED profiles stand, and each CURRENT profile is the one it was or its zone's STAGED one. -/
def TakesOnly (s t : State) : Prop :=
  t.bank.staged = s.bank.staged ∧ ∀ z, t.bank.current.get z = s.bank.current.get z ∨ t.bank.current.get z = s.bank.staged.get z

theorem TakesOnly.trans {s t u : State} (h : TakesOnly s t) (h' : TakesOnly t u) : TakesOnly s u := by
  refine ⟨h'.1.trans h.1, fun z => ?_⟩
  rcases h'.2 z with hz | hz
  · rw [hz]
    exact h.2 z
  · exact .inr (hz.trans (by rw [h.1]))

theorem takesOnly_of_bank {s t : State} (h : t.bank = s.bank) : TakesOnly s t := by
  unfold TakesOnly
  rw [h]
  exact ⟨rfl, fun z => .inl rfl⟩

theorem TakesOnly.refl (s : State) : TakesOnly s s := takesOnly_of_bank rfl

theorem takesOnly_of_claim {s t : State} (h : ClaimFrame s t) : TakesOnly s t :=
  takesOnly_of_bank (by simp_all only [ClaimFrame])

theorem takesOnly_of_tuner {s t : State} (h : TunerFrame s t) : TakesOnly s t :=
  takesOnly_of_bank (by simp_all only [TunerFrame])

theorem State.takeCopyFrom_takes (s base : State) (z : Zone) : TakesOnly s (s.takeCopyFrom base z) := by
  have taken : TakesOnly s ((s.mapBank (fun b => { b with current := b.current.set z (s.bank.staged.get z) })).setTake z .idle) := by
    refine ⟨rfl, fun y => ?_⟩
    by_cases hy : z = y
    · subst hy
      exact .inr (PerZone.get_set_same ..)
    · exact .inl (PerZone.get_set_ne _ _ hy)
  unfold State.takeCopyFrom
  dsimp only
  split
  · exact taken
  · refine taken.trans (takesOnly_of_bank ?_)
    (repeat' split) <;> simp [State.reconverge]

theorem State.checkDeferred_takes (s : State) (z : Zone) : TakesOnly s (s.checkDeferred z) := by
  unfold State.checkDeferred
  split
  · exact s.takeCopyFrom_takes s z
  · exact .refl s

theorem State.deferredCheck_takes (s : State) : TakesOnly s s.deferredCheck :=
  (((s.checkDeferred_takes .cabin).trans (State.checkDeferred_takes _ _)).trans (State.checkDeferred_takes _ _)).trans
    (State.checkDeferred_takes _ _)

theorem State.setTake_takes (s : State) (z : Zone) (x : TakeState) : TakesOnly s (s.setTake z x) := ⟨rfl, fun _ => .inl rfl⟩

theorem State.watchOrder_takes (s : State) (z : Zone) (release : Bool) : TakesOnly s (s.watchOrder z release) := by
  unfold State.watchOrder
  (repeat' split)
  · exact s.setTake_takes z _
  · exact s.takeCopyFrom_takes s z
  · exact s.setTake_takes z _
  · exact s.takeCopyFrom_takes s z
  · exact .refl s

theorem State.watchFire_takes (s : State) (n : Nat) : TakesOnly s (s.watchFire n) := by
  unfold State.watchFire
  split
  · rename_i a l _
    refine TakesOnly.trans (t := (s.mapWat (fun w => { w with owed := l })).raise (.watch n)) (takesOnly_of_bank (by simp)) ?_
    unfold State.fire
    cases a with
    | notify => exact .refl _
    | take z => exact State.watchOrder_takes _ z false
    | release z => exact State.watchOrder_takes _ z true
  · exact .refl s

/-! ## The call and the override -/

@[simp] theorem State.callClaims_bank (s : State) (mode : Zone) : (s.callClaims mode).bank = s.bank := by
  have told (t : State) (z : Zone) : (t.callZone mode z).bank = t.bank := by
    unfold State.callZone
    split <;> simp
  simp [State.callClaims, told]

@[simp] theorem State.setRoute_bank (s : State) (r : Route) (set : MicSet) : (s.setRoute r set).bank = s.bank := by
  unfold State.setRoute
  dsimp only
  split <;> simp

@[simp] theorem State.callEnter_bank (s : State) : s.callEnter.bank = s.bank := by
  simp [State.callEnter]

@[simp] theorem State.changeSet_bank (s : State) (set : MicSet) : (s.changeSet set).bank = s.bank := by
  unfold State.changeSet
  dsimp only
  split <;> simp

@[simp] theorem State.moveCall_bank (s : State) (mode : Zone) : (s.moveCall mode).bank = s.bank := by
  unfold State.moveCall
  dsimp only
  split <;> simp

theorem State.callLeave_takes (s : State) (dest : CallState) : TakesOnly s (s.callLeave dest) :=
  (takesOnly_of_bank (by simp)).trans (State.deferredCheck_takes _)

theorem State.endCall_takes (s : State) : TakesOnly s s.endCall := by
  unfold State.endCall
  dsimp only
  split
  · exact TakesOnly.trans (s.callLeave_takes .idle) (takesOnly_of_bank (State.mapCall_bank _ _))
  · exact takesOnly_of_bank rfl

theorem State.forceHold_takes (s : State) : TakesOnly s s.forceHold := by
  unfold State.forceHold
  dsimp only
  split
  · exact TakesOnly.trans (takesOnly_of_bank (State.mapCall_bank _ _)) (State.callLeave_takes _ .held)
  · exact takesOnly_of_bank rfl

@[simp] theorem State.resumeCall_bank (s : State) : s.resumeCall.bank = s.bank := by
  unfold State.resumeCall
  dsimp only
  split <;> simp

@[simp] theorem State.dropCall_bank (s : State) : s.dropCall.bank = s.bank := by
  unfold State.dropCall
  dsimp only
  split
  · rename_i h
    have := State.flush_frame h
    simp_all only [ClaimFrame, State.mapCall_bank]
  · rfl

theorem State.overrideEnterRecord_takes (s : State) : TakesOnly s s.overrideEnterRecord := by
  unfold State.overrideEnterRecord
  split
  · exact .refl s
  · dsimp only
    refine TakesOnly.trans ?_ (takesOnly_of_claim (State.raise_frame _ _))
    refine TakesOnly.trans ?_ (takesOnly_of_claim (State.deliverVolumes_frame _ _ _))
    refine TakesOnly.trans ?_ (takesOnly_of_bank rfl)
    refine TakesOnly.trans ?_ (takesOnly_of_bank (State.setRoute_bank _ _ _))
    refine TakesOnly.trans ?_ (State.forceHold_takes _)
    exact takesOnly_of_bank (by simp)

theorem State.exitCheck_takes (s base : State) : TakesOnly s (s.exitCheck base) := by
  unfold State.exitCheck
  dsimp only
  refine TakesOnly.trans (TakesOnly.trans (TakesOnly.trans ?_ (State.checkDeferred_takes _ _)) (State.checkDeferred_takes _ _))
    (State.checkDeferred_takes _ _)
  split
  · exact s.takeCopyFrom_takes base .cabin
  · exact (s.checkDeferred_takes .cabin).trans (takesOnly_of_claim (State.deliverVolumes_frame _ _ _))

theorem State.overrideExitRecord_takes (s : State) (drop : Bool) : TakesOnly s (s.overrideExitRecord drop) := by
  unfold State.overrideExitRecord
  split
  · exact .refl s
  · dsimp only
    refine TakesOnly.trans ?_ (takesOnly_of_claim (State.raise_frame _ _))
    refine TakesOnly.trans (takesOnly_of_bank ?_) (State.exitCheck_takes _ s)
    split <;> simp [State.setCallStep]

theorem State.vehicleRecord_takes (s : State) (r : VehicleRecord) : TakesOnly s (s.vehicleRecord r) := by
  cases r with
  | speed v => exact takesOnly_of_bank (by simp [State.vehicleRecord, State.speedRecord])
  | chime c m n g =>
    simp only [State.vehicleRecord, State.chimeRecord]
    split
    · rename_i h
      exact (takesOnly_of_claim (State.place_frame h)).trans (takesOnly_of_bank rfl)
    · exact takesOnly_of_bank rfl
  | chimeStop =>
    simp only [State.vehicleRecord, State.chimeStopRecord]
    split
    · rename_i h
      exact (takesOnly_of_claim (State.flush_frame h)).trans (takesOnly_of_bank rfl)
    · exact takesOnly_of_bank rfl
  | enter => exact s.overrideEnterRecord_takes
  | exit drop => exact s.overrideExitRecord_takes drop

/-! ## Staging (R51, R52) -/

/-- R51: every STAGED and CURRENT profile is within its ranges. -/
def ProfilesInRange (s : State) : Prop := ∀ z, ProfileInRange (s.bank.staged.get z) ∧ ProfileInRange (s.bank.current.get z)

theorem TakesOnly.inRange {s t : State} (h : TakesOnly s t) (hs : ProfilesInRange s) : ProfilesInRange t := by
  intro z
  rw [h.1]
  refine ⟨(hs z).1, ?_⟩
  rcases h.2 z with hz | hz <;> rw [hz]
  · exact (hs z).2
  · exact (hs z).1

/-- R52: a field takes its value clamped to its range. -/
theorem Profile.write_inRange {p : Profile} (h : ProfileInRange p) (f : ProfileField) (v : Int) :
    ProfileInRange (p.write f (stagedValue f v)) := by
  have clamped {a b : Int} (hf : fieldRange f = some (a, b)) (hab : a ≤ b) : a ≤ stagedValue f v ∧ stagedValue f v ≤ b := by
    rw [stagedValue, hf]
    exact clampInt_bounds hab v
  obtain ⟨media, voice, call, eq, balance, fade, slope, v0, smax, ramp, yield, cap, privacy⟩ := h
  unfold ProfileInRange
  cases f with
  | loudness | trafficMode => exact ⟨media, voice, call, eq, balance, fade, slope, v0, smax, ramp, yield, cap, privacy⟩
  | _ =>
    have bounds := clamped rfl (by decide)
    refine ⟨?_, ?_, ?_, ?_, ?_, ?_, ?_, ?_, ?_, ?_, ?_, ?_, ?_⟩ <;> simp only [Profile.write] <;> omega

theorem Profile.writeAll_inRange (l : List (ProfileField × Int)) : ∀ {p : Profile}, ProfileInRange p → ProfileInRange (p.writeAll l) := by
  induction l with
  | nil => exact fun h => h
  | cons x l ih => exact fun h => ih (Profile.write_inRange h x.1 x.2)

theorem State.stage_inRange (s : State) (z : Zone) (l : List (ProfileField × Int)) (h : ProfilesInRange s) :
    ProfilesInRange (s.stage z l) := by
  intro y
  refine ⟨?_, (h y).2⟩
  by_cases hy : z = y
  · subst hy
    simp only [State.stage, State.mapBank_bank, PerZone.get_set_same]
    exact Profile.writeAll_inRange l (h z).1
  · simp only [State.stage, State.mapBank_bank, PerZone.get_set_ne _ _ hy]
    exact (h y).1

/-- R56: a discard makes the STAGED profile the CURRENT one. -/
theorem State.discard_inRange (s : State) (z : Zone) (h : ProfilesInRange s) : ProfilesInRange (s.discard z) := by
  intro y
  refine ⟨?_, (h y).2⟩
  by_cases hy : z = y
  · subst hy
    simp only [State.discard, State.setTake, State.mapBank_bank, PerZone.get_set_same]
    exact (h z).2
  · simp only [State.discard, State.setTake, State.mapBank_bank, PerZone.get_set_ne _ _ hy]
    exact (h y).1

/-! ## The moves and the profiles -/

/-- The profiles stand. -/
abbrev SameProfiles (s t : State) : Prop := t.bank.staged = s.bank.staged ∧ t.bank.current = s.bank.current

theorem SameProfiles.takes {s t : State} (h : SameProfiles s t) : TakesOnly s t := ⟨h.1, fun z => .inl (by rw [h.2])⟩

theorem State.loadTable_profiles {s t : State} {table : Nat} {bytes : List Byte} (ho : s.loadTable table bytes = some t) :
    SameProfiles s t := by
  unfold State.loadTable at ho
  split at ho <;> [skip; skip; skip; skip; skip; cases ho]
  all_goals obtain ⟨x, -, rfl⟩ := Option.map_eq_some_iff.mp ho
  · unfold State.loadMap
    dsimp only
    split <;> simp [SameProfiles, State.reconverge]
  · unfold State.loadCurves
    dsimp only
    split <;> simp [SameProfiles]
  · unfold State.loadEq
    dsimp only
    (repeat' split) <;> simp [SameProfiles, State.reconverge]
  · unfold State.loadPolicy
    dsimp only
    split <;> simp [SameProfiles]
  · exact ⟨rfl, rfl⟩

end Sys2Proof.Machine
end

section
namespace Sys2Proof.Machine

theorem State.coldReset_profiles (s : State) : ProfilesInRange s.coldReset := fun z => by
  have staged : s.coldReset.bank.staged.get z = Profile.zeroed := PerZone.get_all ..
  have current : s.coldReset.bank.current.get z = Profile.zeroed := PerZone.get_all ..
  rw [staged, current]
  exact ⟨profileInRange_zeroed, profileInRange_zeroed⟩

@[simp] theorem State.start_bank (s : State) : s.start.bank = s.bank := by
  simp [State.start, State.buildStatus]

@[simp] theorem State.setFlags_bank (s : State) (f : TunerFlags) : (s.setFlags f).bank = s.bank := by
  unfold State.setFlags
  dsimp only
  (repeat' split) <;> simp

@[simp] theorem State.writeSamples_bank (s : State) (l : List Sample) : (s.writeSamples l).bank = s.bank := by
  unfold State.writeSamples
  dsimp only
  split <;> simp

@[simp] theorem State.echoEstimate_bank (s : State) (erle : Nat) (dt : Bool) : (s.echoEstimate erle dt).bank = s.bank := by
  unfold State.echoEstimate
  split <;> simp

@[simp] theorem State.goStale_bank (s : State) : s.goStale.bank = s.bank := by
  unfold State.goStale
  split <;> rfl

@[simp] theorem State.sendStatus_bank (s : State) : s.sendStatus.bank = s.bank := by
  unfold State.sendStatus
  split <;> rfl

@[simp] theorem State.sendChimeDone_bank (s : State) : s.sendChimeDone.bank = s.bank := by
  unfold State.sendChimeDone
  dsimp only
  split <;> simp

theorem Move.profiles {s t : State} (hm : Move s t) (h : ProfilesInRange s) : ProfilesInRange t := by
  cases hm with
  | coldReset => exact s.coldReset_profiles
  | stage _ z l => exact s.stage_inRange z l h
  | discard _ z => exact s.discard_inRange z h
  | takeCopy _ z => exact (s.takeCopyFrom_takes s z).inRange h
  | setTake _ z x => exact (s.setTake_takes z x).inRange h
  | callHeld => exact (s.callLeave_takes .held).inRange h
  | endCall => exact s.endCall_takes.inRange h
  | vehicleRecord _ r => exact (s.vehicleRecord_takes r).inRange h
  | watchFire _ n => exact (s.watchFire_takes n).inRange h
  | loadTable ho => exact (State.loadTable_profiles ho).takes.inRange h
  | renderStep _ inp =>
    obtain ⟨-, -, -, -, -, -, -, -, bank, -⟩ := s.renderStep_settings inp
    exact (takesOnly_of_bank bank).inRange h
  | place ho => exact (takesOnly_of_claim (State.place_frame ho)).inRange h
  | flush ho => exact (takesOnly_of_claim (State.flush_frame ho)).inRange h
  | rearTune ho => exact (takesOnly_of_tuner (State.rearTune_frame ho)).inRange h
  | warmReset => exact SameProfiles.takes ⟨rfl, rfl⟩ |>.inRange h
  | buildStatus | levels | setTrim | setTrims | setThresholds | setWatch | startRinging => exact (TakesOnly.refl s).inRange h
  | answer => exact (takesOnly_of_bank (State.callEnter_bank _)).inRange h
  | coolFall => exact (takesOnly_of_bank (by simp [State.coolFall, State.deliverThermal])).inRange h
  | formNoise => exact (takesOnly_of_bank (by simp [State.formNoise])).inRange h
  | setStep => exact (takesOnly_of_bank (by simp [State.setStep])).inRange h
  | setRow => exact (takesOnly_of_bank (by simp [State.setRow])).inRange h
  | _ => exact (takesOnly_of_bank (by simp)).inRange h

/-- Settles O7: each `Move` keeps the registers and the profiles within their ranges, and every step is a sequence of moves. -/
theorem stepsKeepRegistersInRange : Obligations.StepsKeepRegistersInRange :=
  ⟨fun _ _ hr hs ho => step_keeps (fun _ _ => Move.registers) (fun _ _ h => h) ho ⟨hr, hs⟩,
    fun _ _ h ho => step_keeps (fun _ _ => Move.profiles) (fun _ _ h => h) ho h⟩

end Sys2Proof.Machine
end

section
/-! SUPPORT. ZONE.VOLUME and ZONE.TRIM. -/

namespace Sys2Proof.Machine

/-- R24: one step of one zone is set. -/
def State.withStep (s : State) (z : Zone) (k : Kind) (step : Nat) : State :=
  { s with rend := { s.rend with volume := s.rend.volume.set z ((s.rend.volume.get z).set k step) } }

theorem State.withStep_get_same (s : State) (z : Zone) (k : Kind) (step : Nat) :
    ((s.withStep z k step).rend.volume.get z).get k = step := by
  simp [State.withStep]

/-- R25: the VOLUME settings of the other kinds do not read the step. -/
theorem State.withStep_volSetting_ne (s : State) (z : Zone) {k j : Kind} (h : k ≠ j) (step : Nat) :
    (s.withStep z k step).volSetting z j = s.volSetting z j := by
  have stands : ((s.withStep z k step).rend.volume.get z).get j = (s.rend.volume.get z).get j := by
    simp [State.withStep, PerKind.get_set_ne _ _ h]
  simp only [State.volSetting, State.volFigure, State.vol, stands]
  rfl

/-- R179: the setting of a kind changes exactly where its step does. -/
theorem State.withStep_volSetting_same (s : State) (z : Zone) (k : Kind) (step : Nat) :
    s.volSetting z k = (s.withStep z k step).volSetting z k ↔ (s.rend.volume.get z).get k = step := by
  have written := s.withStep_get_same z k step
  constructor
  · intro h
    exact (congrArg Prod.fst h).trans written
  · intro h
    have stands : ((s.withStep z k step).rend.volume.get z).get k = (s.rend.volume.get z).get k := written.trans h.symm
    simp only [State.volSetting, State.volFigure, State.vol, stands]
    rfl

/-- R179: a new setting is delivered, whether or not its figure differs. -/
theorem State.deliverVolume_eq (s old new : State) (z : Zone) (k : Kind) :
    s.deliverVolume old new z k =
      { s with wat := if old.volSetting z k = new.volSetting z k then s.wat else s.wat.deliver (.volume z k) (new.volFigure z k) } := by
  unfold State.deliverVolume
  split <;> rfl

/-- R24, R179: what a new step does: the register, and one delivery where the step is a new one. -/
theorem State.setStep_eq (s : State) (z : Zone) (k : Kind) (step : Nat) :
    s.setStep z k step = { s.withStep z k step with
      wat := if (s.rend.volume.get z).get k = step then s.wat
        else s.wat.deliver (.volume z k) ((s.withStep z k step).volFigure z k) } := by
  have one (u : State) (j : Kind) (h : k ≠ j) : u.deliverVolume s (s.withStep z k step) z j = u := by
    rw [State.deliverVolume_eq, s.withStep_volSetting_ne z h, if_pos rfl]
  have own (u : State) : u.deliverVolume s (s.withStep z k step) z k =
      { u with wat := if (s.rend.volume.get z).get k = step then u.wat
        else u.wat.deliver (.volume z k) ((s.withStep z k step).volFigure z k) } := by
    simp only [State.deliverVolume_eq, s.withStep_volSetting_same z k step]
  change (s.withStep z k step).deliverVolumes s z = _
  rw [State.deliverVolumes, Kind.all]
  cases k <;> simp only [List.foldl_cons, List.foldl_nil, own, one, ne_eq, reduceCtorEq, not_false_eq_true] <;> rfl

theorem exec_zoneVolume (q : Byte) (m n step : Nat) (s : State) : exec (.zoneVolume q m n step) s = execZoneVolume q m n step s := rfl
theorem exec_zoneTrim (q : Byte) (m n : Nat) (v : Int) (s : State) : exec (.zoneTrim q m n v) s = execZoneTrim q m n v s := rfl

theorem kindOf_isNone {n : Nat} (h : 2 < n) : kindOf n = none := by
  obtain ⟨k, rfl⟩ : ∃ k, n = k + 3 := ⟨n - 3, by omega⟩
  rfl

theorem clampInt_eq_max_min {a b : Int} (h : a ≤ b) (x : Int) : clampInt a b x = max a (min b x) := by
  unfold clampInt
  split <;> [skip; split] <;> omega

section
variable {s : State} {q : Byte}

theorem zoneVolume_answers {m n : Nat} {z : Zone} {k : Kind} (step : Nat) (h : Unlocked s) (hz : zoneOf m = some z)
    (hk : kindOf n = some k) :
    Answers (.zoneVolume q m n step) s (s.setStep z k (min step 63)) 0x13 q
      (.done (.volume (min step 63) (decide (63 < step)))) := by
  refine ⟨_, (exec_zoneVolume ..).trans (serve_lockable h), ?_⟩
  rw [hz, hk]
  refine repliesWith_reply (v := s.taking.setStep z k (min step 63)) _ q _ ?_ ?_
  · rw [State.setStep_eq, State.setStep_eq, State.taking, State.mapPort, Port.replyLeaves_eq]
    rfl
  · simp [State.setStep]

theorem zoneTrim_answers {m n : Nat} {z : Zone} {src : Source} (v : Int) (h : Serves s) (hz : zoneOf m = some z)
    (hn : sourceOf n = some src) :
    Answers (.zoneTrim q m n v) s (s.setTrim z src (clampInt (-48) 24 v)) 0x14 q
      (.done (.trim (clampInt (-48) 24 v) (decide (clampInt (-48) 24 v ≠ v)))) := by
  refine ⟨_, (exec_zoneTrim ..).trans (serve_runOnly h), ?_⟩
  rw [hz, hn]
  refine repliesWith_reply (v := s.taking.setTrim z src (clampInt (-48) 24 v)) _ q _ ?_ ?_
  · rw [State.taking, State.mapPort, Port.replyLeaves_eq]
    rfl
  · simp [State.setTrim]

theorem zoneVolume_refused {m n step : Nat} (h : Unlocked s) (hm : 3 < m ∨ 2 < n) :
    Answers (.zoneVolume q m n step) s s 0x13 q (.refused .range []) := by
  refine answers_lockable 1 3 h (exec_zoneVolume ..) rfl ?_
  rcases hm with hm | hn
  · rw [zoneOf_isNone hm]
    rfl
  · rw [kindOf_isNone hn]
    cases zoneOf m <;> rfl

theorem zoneTrim_refused {m n : Nat} {v : Int} (h : Serves s) (hm : 3 < m ∨ 11 < n) :
    Answers (.zoneTrim q m n v) s s 0x14 q (.refused .range []) := by
  refine answers_runOnly 1 4 h (exec_zoneTrim ..) rfl ?_
  rcases hm with hm | hn
  · rw [zoneOf_isNone hm]
    rfl
  · rw [sourceOf_isNone hn]
    cases zoneOf m <;> rfl

end

/-- Settles O20: the effect of a new step (`setStep_eq`), and of a new trim. -/
theorem volumeAndTrimEdits : Obligations.VolumeAndTrimEdits := by
  refine ⟨fun s q m z n k step h hz hk => ?_, fun s q m z n src v h hz hn => ?_, fun s q m n step h hm => zoneVolume_refused h hm,
    fun s q m n v h hm => zoneTrim_refused h hm⟩
  · have answered := zoneVolume_answers (q := q) step h hz hk
    rwa [State.setStep_eq] at answered
  · have answered := zoneTrim_answers (q := q) v h hz hn
    rwa [clampInt_eq_max_min (by decide)] at answered

end Sys2Proof.Machine
end

section
/-! SUPPORT. The target of a mix point: the nine terms, resolved. -/

namespace Sys2Proof.Machine

/-- R23: a sum with a mute term is mute. -/
theorem Gain.add_eq_none {a b : Gain} : Gain.add a b = none ↔ a = none ∨ b = none := by
  cases a <;> cases b <;> simp [Gain.add]

/-- R23: the resolution of a sum of the nine terms that are numbers. -/
theorem resolveGain_some (top g : Int) : resolveGain top (some g) = if g < -480 then none else some (min g top) := by
  unfold resolveGain
  dsimp only
  split
  · rfl
  · split <;> congr 1 <;> omega

/-- R23: the terms at a mix point that are numbers in every zone: T, S, B, F, P and L. -/
def State.plainTerms (s : State) (z : Zone) (src : Source) (k : Nat) : Int :=
  (s.rend.trims.get z).get src + s.speedTerm z src + balanceTerm (s.profile z).balance (s.bank.side z k) + s.fadeAt z k +
    s.trimAt z k - (s.reductionAt z k : Int)

theorem State.gainSum_eq (s : State) (z : Zone) (src : Source) (k : Nat) :
    s.gainSum z src k =
      Gain.add (s.volTerm z src) (Gain.add (s.duckOf z src) (Gain.add (s.privacyTerm z src k) (some (s.plainTerms z src k)))) := rfl

theorem State.gainSum_eq_none {s : State} {z : Zone} {src : Source} {k : Nat}
    (h : s.volTerm z src = none ∨ s.duckOf z src = none ∨ s.privacyTerm z src k = none) : s.gainSum z src k = none := by
  rw [State.gainSum_eq]
  simp only [Gain.add_eq_none]
  tauto

theorem State.gainSum_eq_some {s : State} {z : Zone} {src : Source} {k : Nat} {v d q : Int} (hv : s.volTerm z src = some v)
    (hd : s.duckOf z src = some d) (hq : s.privacyTerm z src k = some q) :
    s.gainSum z src k = some (v + (d + (q + s.plainTerms z src k))) := by
  rw [State.gainSum_eq, hv, hd, hq]
  rfl

/-- R23, R36: a hushed source, or one without a claim, has mute targets. -/
theorem State.target_mute {s : State} {z : Zone} {src : Source} (k : Nat)
    (h : s.rend.hush.get src = true ∨ s.claim z src = none) : s.target z src k = none := by
  unfold State.target
  rcases h with h | h
  · rw [if_pos h]
  · rw [h]
    split <;> rfl

/-- R23: the target of a source that is not hushed and has a claim. -/
theorem State.target_claimed {s : State} {z : Zone} {src : Source} {c : Claim} (k : Nat) (hh : s.rend.hush.get src = false)
    (hc : s.claim z src = some c) :
    s.target z src k = if c.shadow then none else resolveGain (s.gainTop z) (s.gainSum z src k) := by
  unfold State.target
  rw [hh, hc]
  rfl

/-- Settles O25: each term has its own lemma, and a mute one of Vol, D and Q makes the sum mute. -/
theorem targetsSumTheNineTerms : Obligations.TargetsSumTheNineTerms := by
  intro s z src k e x here
  dsimp only
  refine ⟨s.target_mute k, fun c hc hh => ?_⟩
  have entry (hz : z.rear = false) : s.bank.entry k = e := by
    rw [Bank.entry, List.getD_eq_getElem?_getD, (here hz).1]
    rfl
  have record (hz : z.rear = false) : s.rend.thermal.getD k ⟨0, 0, 0⟩ = x := by
    rw [List.getD_eq_getElem?_getD, (here hz).2]
    rfl
  have duck : s.duckOf z src = (match c.state with | .audible => some 0 | .ducked d => some (-(d : Int)) | .held => none | .waiting => none) := by
    rw [State.duckOf_eq, hc]
    cases hs : c.state <;> simp [hs]
  have privacy : s.privacyTerm z src k = (if z = .cabin ∧ (src = .mediaA ∨ src = .mediaB ∨ src = .radio1 ∨ src = .radio2) ∧
      e.row = .r ∧ ((s.entSource .rearL).isSome ∨ (s.entSource .rearR).isSome) then
      (if s.bank.current.cabin.privacy = 480 then none else some (-(s.bank.current.cabin.privacy : Int))) else some 0) := by
    rw [State.privacyTerm_eq]
    by_cases hz : z = .cabin
    · rw [entry (by rw [hz]; rfl)]
    · simp [hz]
  have vol := s.volTerm_eq z src
  rw [s.target_claimed k hh hc]
  refine ⟨fun mute => ?_, fun v d q hs hv hd hq => ?_⟩
  · split
    · rfl
    · rename_i shadow
      have sum : s.gainSum z src k = none := by
        rcases mute with hs | hv | hd | hq
        · exact absurd hs shadow
        · exact State.gainSum_eq_none (.inl (vol.trans hv))
        · exact State.gainSum_eq_none (.inr (.inl (duck.trans hd)))
        · exact State.gainSum_eq_none (.inr (.inr (privacy.trans hq)))
      rw [sum]
      rfl
  · rw [hs, if_neg Bool.false_ne_true, State.gainSum_eq_some (vol.trans hv) (duck.trans hd) (privacy.trans hq), resolveGain_some]
    have sum : v + (d + (q + s.plainTerms z src k)) = v + (s.rend.trims.get z).get src + d + s.speedTerm z src +
        balanceTerm (s.profile z).balance (s.bank.side z k) + s.fadeAt z k + s.trimAt z k + q - (s.reductionAt z k : Int) := by
      unfold State.plainTerms
      omega
    have side : s.bank.side z k = if z.rear then (if k = 0 then .l else .r) else e.side := by
      unfold Bank.side
      split
      · rfl
      · rw [entry (Bool.eq_false_iff.2 ‹_›)]
    have fade : s.fadeAt z k = if z ≠ .cabin then 0
        else if 0 < s.bank.current.cabin.fade ∧ (e.row = .r ∨ e.row = .x) then -8 * s.bank.current.cabin.fade
        else if s.bank.current.cabin.fade < 0 ∧ e.row = .f then 8 * s.bank.current.cabin.fade else 0 := by
      cases z with
      | cabin => simp [State.fadeAt, fadeTerm_eq, entry rfl]
      | _ => rfl
    have trim : s.trimAt z k = if z.rear then 0 else e.trim := by
      unfold State.trimAt
      split
      · rfl
      · rw [entry (Bool.eq_false_iff.2 ‹_›)]
    have reduction : (s.reductionAt z k : Int) = if z.rear then 0 else (x.reduction : Int) := by
      unfold State.reductionAt
      split
      · rfl
      · rw [record (Bool.eq_false_iff.2 ‹_›)]
    rw [sum, State.speedTerm_eq, balanceTerm_eq, side, fade, trim, reduction]
    rfl

end Sys2Proof.Machine
end

section
/-! SUPPORT. What a render frame puts out: 48 saturated samples on each channel. -/

namespace Sys2Proof.Machine

/-! ## Lengths -/

theorem mixIn_length (side : Side) (m : Int) : ∀ (acc : List Int) (l : List (Int × Int)), (mixIn side m acc l).length = acc.length
  | [], [] => rfl
  | [], _ :: _ => rfl
  | _ :: _, [] => rfl
  | _ :: acc, _ :: l => by simp [mixIn, mixIn_length side m acc l]

theorem contribution_length (mix : PerSource (List MixPoint)) (snd : PerSource (List (Int × Int))) (side : Side) (i : Nat) :
    (contribution mix snd side i).length = 48 := by
  refine List.foldlRecOn (motive := fun acc : List Int => acc.length = 48) Source.all _ List.length_replicate fun acc h src _ => ?_
  dsimp only
  split
  · exact h
  · rw [mixIn_length, h]

theorem sectionRun_length (c : Biquad) : ∀ (m : SectionMem) (l : List Rat), (sectionRun c m l).2.length = l.length
  | _, [] => rfl
  | m, x :: l => by simp [sectionRun, sectionRun_length c _ l]

theorem sectionsRun_length : ∀ (cs : List Biquad) (ms : List SectionMem) (l : List Rat), (sectionsRun cs ms l).2.length = l.length
  | [], _, _ => rfl
  | c :: cs, ms, l => by simp [sectionsRun, sectionsRun_length cs, sectionRun_length]

theorem State.channelAudio_length (s : State) (snd : PerSource (List (Int × Int))) (z : Zone) (i k : Nat) :
    (s.channelAudio snd z i k).out.length = 48 := by
  unfold State.channelAudio
  dsimp only
  split <;> simp [sectionRun_length, sectionsRun_length, contribution_length]

theorem State.zoneAudio_getElem? (s : State) (snd : PerSource (List (Int × Int))) (z : Zone) : ∀ (ks : List Nat) (n i : Nat),
    (s.zoneAudio snd z n ks)[i]? = (ks[i]?).map (fun k => s.channelAudio snd z (n + i) k)
  | [], _, _ => rfl
  | k :: ks, n, 0 => rfl
  | k :: ks, n, i + 1 => by
    simp only [State.zoneAudio, List.getElem?_cons_succ, s.zoneAudio_getElem? snd z ks (n + 1) i]
    rw [Nat.add_right_comm, Nat.add_assoc]

theorem State.zoneAudio_count (s : State) (snd : PerSource (List (Int × Int))) (z : Zone) (n : Nat) (ks : List Nat) :
    (s.zoneAudio snd z n ks).length = ks.length := by
  induction ks generalizing n with
  | nil => rfl
  | cons k ks ih => simp [State.zoneAudio, ih]

theorem State.zoneAudio_length {s : State} {snd : PerSource (List (Int × Int))} {z : Zone} {n : Nat} {ks : List Nat}
    {c : ChannelAudio} (h : c ∈ s.zoneAudio snd z n ks) : c.out.length = 48 := by
  obtain ⟨i, hi⟩ := List.mem_iff_getElem?.mp h
  rw [s.zoneAudio_getElem?] at hi
  obtain ⟨k, -, rfl⟩ := Option.map_eq_some_iff.mp hi
  exact s.channelAudio_length snd z _ k

theorem speakerSum_length {cabin driver : List ChannelAudio} (hc : ∀ c ∈ cabin, c.out.length = 48)
    (hd : ∀ c ∈ driver, c.out.length = 48) (heads : List Nat) (k : Nat) : (speakerSum cabin driver heads k).length = 48 := by
  have contributed {l : List ChannelAudio} (hl : ∀ c ∈ l, c.out.length = 48) {i : Nat} {c : ChannelAudio} (h : l[i]? = some c) :
      c.out.length = 48 := hl c (List.mem_of_getElem? h)
  unfold speakerSum
  cases ha : cabin[k]? <;> cases hb : driver[heads.idxOf k]? <;> dsimp only
  case none.none => exact List.length_replicate
  case none.some => rw [List.length_zipWith, List.length_replicate, contributed hd hb, Nat.min_self]
  case some.none => exact contributed hc ha
  case some.some => rw [List.length_zipWith, contributed hc ha, contributed hd hb, Nat.min_self]

/-! ## Saturation (R38) -/

theorem saturate_bounds (x : Rat) : -(2 ^ 64 : Rat) ≤ saturate x ∧ saturate x ≤ 2 ^ 64 - 2 ^ 41 := by
  unfold saturate
  split
  · norm_num
  · split
    · norm_num
    · exact ⟨not_lt.mp ‹_›, not_lt.mp ‹_›⟩

/-- R38: a channel's 48 output samples lie within the saturation range. -/
def Saturated (l : List Rat) : Prop := l.length = 48 ∧ ∀ x ∈ l, -(2 ^ 64 : Rat) ≤ x ∧ x ≤ 2 ^ 64 - 2 ^ 41

theorem saturated_map {l : List Rat} (h : l.length = 48) : Saturated (l.map saturate) := by
  refine ⟨by rw [List.length_map, h], fun x hx => ?_⟩
  obtain ⟨y, -, rfl⟩ := List.mem_map.mp hx
  exact saturate_bounds y

/-! ## The outputs (R38, R45) -/

/-- R38: the sums of the 22 loudspeaker channels before saturation. -/
def State.speakerSums (s : State) (snd : PerSource (List (Int × Int))) : List (List Rat) :=
  (List.range 22).map (speakerSum (s.zoneAudio snd .cabin 0 (s.bank.channels .cabin))
    (s.zoneAudio snd .driver 0 (rowH 0 s.bank.map)) (rowH 0 s.bank.map))

/-- R45: the saturated channels of a headphone pair. -/
def State.phones (s : State) (snd : PerSource (List (Int × Int))) (z : Zone) : List (List Rat) :=
  (s.zoneAudio snd z 0 [0, 1]).map (fun c => c.out.map saturate)

theorem State.mixdown_out (s : State) (snd : PerSource (List (Int × Int))) :
    (s.mixdown snd).rend.out =
      .ofSpeakers ((s.speakerSums snd).map (fun l => l.map saturate)) (s.phones snd .rearL) (s.phones snd .rearR) := by
  simp [State.mixdown, State.speakerSums, State.phones]

theorem State.speakerSums_saturate (s : State) (snd : PerSource (List (Int × Int))) :
    ∀ l ∈ (s.speakerSums snd).map (fun l => l.map saturate), Saturated l := by
  intro l hl
  obtain ⟨x, hx, rfl⟩ := List.mem_map.mp hl
  obtain ⟨k, -, rfl⟩ := List.mem_map.mp hx
  exact saturated_map (speakerSum_length (fun _ => State.zoneAudio_length) (fun _ => State.zoneAudio_length) _ k)

theorem State.phones_saturate (s : State) (snd : PerSource (List (Int × Int))) (z : Zone) : ∀ l ∈ s.phones snd z, Saturated l := by
  intro l hl
  obtain ⟨c, hc, rfl⟩ := List.mem_map.mp hl
  exact saturated_map (State.zoneAudio_length hc)

theorem State.phones_count (s : State) (snd : PerSource (List (Int × Int))) (z : Zone) : (s.phones snd z).length = 2 := by
  rw [State.phones, List.length_map, State.zoneAudio_count]
  rfl

theorem State.speakerSums_count (s : State) (snd : PerSource (List (Int × Int))) : (s.speakerSums snd).length = 22 := by
  simp [State.speakerSums]

/-- Settles O23: the outputs of the mixdown stand at the frame's end, and every part of the frame keeps the settings. -/
theorem renderFrameSaturates : Obligations.RenderFrameSaturates := by
  intro s inp run
  refine ⟨s.renderStep inp, exec_renderFrame run inp, ?_⟩
  obtain ⟨pending, op, mask, held, lastReply, policy, volume, trims, bank, sta, flags, settings, interval, permit, state, mode, down, up,
    route, -, -, speed, override, -⟩ := s.renderStep_settings inp
  have out := s.renderStep_out inp
  rw [State.frameMixed, State.mixdown_out] at out
  rw [out, AudioOut.ofSpeakers_speakers, AudioOut.ofSpeakers_phonesL, AudioOut.ofSpeakers_phonesR]
  have speakers := s.frameOpened.frameEnded.speakerSums_count (s.frameOpened.frameSounds inp)
  refine ⟨?_, ?_, (List.take_append_drop 11 _).symm, State.phones_count .., State.phones_count .., fun l hl => ?_, pending, op, mask, held,
    lastReply, policy, volume, trims, bank, sta, flags, settings, interval, permit, state, mode, down, up, route, speed, override⟩
  · simp [AudioOut.ofSpeakers, speakers]
  · simp [AudioOut.ofSpeakers, speakers]
  · rcases List.mem_append.mp hl with hl | hr
    · rcases List.mem_append.mp hl with hs | hl
      · exact State.speakerSums_saturate _ _ l hs
      · exact State.phones_saturate _ _ .rearL l hl
    · exact State.phones_saturate _ _ .rearR l hr

end Sys2Proof.Machine
end

section
/-! SUPPORT. What the filing, the evaluation and the withdrawal of claims do beyond the zones' lists: a chain of elementary changes, so
that what each of them keeps, the whole keeps. -/

namespace Sys2Proof.Machine

/-- R11 to R18, R143: an elementary change in the work on claims. -/
inductive ClaimChange : State → State → Prop
  | setZone (s : State) (z : Zone) (zs : ZoneState) : ClaimChange s (s.setZone z zs)
  | mapRend (s : State) (f : Renderer → Renderer) : ClaimChange s (s.mapRend f)
  | raise (s : State) (n : Notice) : ClaimChange s (s.raise n)
  | voiceReport (s : State) (v : Voice) : ClaimChange s (s.voiceReport v)
  | noteHeld (s : State) (p : Path) : ClaimChange s (s.noteHeld p)
  | captureFor (s : State) (p : Path) : ClaimChange s (s.captureFor p)

/-- A chain of elementary changes. -/
abbrev ClaimWork : State → State → Prop := Relation.ReflTransGen ClaimChange

/-- What each change keeps, a chain of them keeps. -/
theorem ClaimWork.keep {R : State → State → Prop} (refl : ∀ s, R s s) (trans : ∀ s t u, R s t → R t u → R s u)
    (one : ∀ s t, ClaimChange s t → R s t) {s t : State} (h : ClaimWork s t) : R s t := by
  induction h with
  | refl => exact refl s
  | tail _ hc ih => exact trans _ _ _ ih (one _ _ hc)

theorem State.entReport_work (s : State) (z : Zone) (b : Bool) : ClaimWork s (s.entReport z b) := by
  unfold State.entReport
  dsimp only
  (repeat' split)
  · exact .single (.setZone ..)
  · exact .refl
  · exact .tail (.single (.setZone ..)) (.raise ..)
  · exact .refl
  · exact .tail (.single (.setZone ..)) (.raise ..)
  · exact .refl

theorem State.reports_work (s : State) : ClaimWork s s.reports :=
  .tail (.tail (.tail (.tail (.tail (.single (.voiceReport s .chime)) (.voiceReport _ .prompt)) (.voiceReport _ .traffic))
    (.voiceReport _ .ring)) (.noteHeld _ .p1)) (.noteHeld _ .p2)

theorem State.captureAfter_work (s base : State) : ClaimWork s (s.captureAfter base) := by
  unfold State.captureAfter State.tryCapture
  split
  · split
    · exact .tail (.single (.captureFor ..)) (.captureFor ..)
    · exact .tail (.single (.captureFor ..)) (.captureFor ..)
  · exact .refl

theorem State.evaluateTold_work (s : State) (z : Zone) (fresh : List Source) (filed : Bool) :
    ClaimWork s (s.evaluateTold z fresh filed) := by
  unfold State.evaluateTold
  exact (((Relation.ReflTransGen.single (.setZone ..)).tail (.mapRend ..)).trans (State.entReport_work ..)).trans
    (State.reports_work _)

theorem State.replaceTold_work (s : State) (z : Zone) (old new : Source) : ClaimWork s (s.replaceTold z old new) := by
  unfold State.replaceTold
  exact ((Relation.ReflTransGen.single (.setZone ..)).tail (.mapRend ..)).trans (State.evaluateTold_work ..)

theorem State.fileTold_work (s : State) (z : Zone) (src : Source) (shadow : Bool) : ClaimWork s (s.fileTold z src shadow) := by
  unfold State.fileTold
  split
  · exact (Relation.ReflTransGen.single (.setZone ..)).trans (State.evaluateTold_work ..)
  · split
    · exact State.replaceTold_work ..
    · exact (Relation.ReflTransGen.single (.setZone ..)).trans (State.evaluateTold_work ..)

theorem State.withdrawTold_work (s : State) (z : Zone) (src : Source) : ClaimWork s (s.withdrawTold z src) := by
  unfold State.withdrawTold
  split
  · exact .refl
  · exact ((Relation.ReflTransGen.single (.setZone ..)).tail (.mapRend ..)).trans (State.evaluateTold_work ..)

theorem State.withdraw_work (s : State) (z : Zone) (src : Source) : ClaimWork s (s.withdraw z src) := by
  unfold State.withdraw
  split
  · exact .refl
  · exact (State.withdrawTold_work ..).trans (State.captureAfter_work ..)

theorem State.withdrawAll_work (s : State) (src : Source) : ClaimWork s (s.withdrawAll src) :=
  (((s.withdraw_work .cabin src).trans (State.withdraw_work ..)).trans (State.withdraw_work ..)).trans (State.withdraw_work ..)

theorem State.bringClaim_work (s : State) (v : Voice) (mask : ZoneSet) (z : Zone) : ClaimWork s (s.bringClaim v mask z) := by
  unfold State.bringClaim
  dsimp only
  split
  · exact .refl
  · exact State.fileTold_work ..
  · exact State.withdrawTold_work ..
  · exact .refl

theorem State.liftHush_work (s : State) (src : Source) : ClaimWork s (s.liftHush src) := by
  unfold State.liftHush
  split
  · exact .single (.mapRend ..)
  · exact .refl

theorem State.orderHush_work (s : State) (src : Source) (n : Nat) : ClaimWork s (s.orderHush src n) := by
  unfold State.orderHush
  split
  · exact .refl
  · exact .single (.mapRend ..)

/-! ## Becoming current and going IDLE (R86, R92) -/

/-- R86: the voice's record as an entry becomes current. -/
def VoiceRec.current (r : VoiceRec) (e : Entry) : VoiceRec :=
  { r with state := .starting, position := 0, passes := e.repeats, gap := none,
           maxWait := if e.maxWait = 0 then none else some (e.maxWait * 1000),
           first := false, fade := none, flushing := false }

/-- R92, R96: the voice's record with nothing to play. -/
def VoiceRec.silent (r : VoiceRec) : VoiceRec :=
  { r with state := .idle, position := 0, passes := 0, gap := none, maxWait := none, first := false, fade := none, flushing := false }

/-- R86: an entry becomes current: its clip's mark and the voice's record, and then the work on the claims. -/
theorem State.becomeCurrent_work (s : State) (v : Voice) (e : Entry) :
    ClaimWork ((s.setUse e.clip (.playing v)).setVoice v ((s.voice v).current e)) (s.becomeCurrent v e) := by
  unfold State.becomeCurrent
  exact (((((State.bringClaim_work ..).trans (State.bringClaim_work ..)).trans (State.bringClaim_work ..)).trans
    (State.bringClaim_work ..)).trans (State.captureAfter_work ..)).trans (State.liftHush_work ..)

/-- R92: the claims' work of a voice that has nothing to play, or that stalls. -/
def State.leaveZones (s : State) (v : Voice) : State := (s.withdrawAll (voiceSource v)).liftHush (voiceSource v)

theorem State.leaveZones_work (s : State) (v : Voice) : ClaimWork s (s.leaveZones v) :=
  (State.withdrawAll_work ..).trans (State.liftHush_work ..)

theorem State.goIdle_eq (s : State) (v : Voice) :
    s.goIdle v = (s.leaveZones v).setVoice v ((s.leaveZones v).voice v).silent := rfl

theorem State.stall_eq (s : State) (v : Voice) :
    s.stall v = ((s.leaveZones v).setVoice v { (s.leaveZones v).voice v with state := .retiring, fade := none }).setWaiters (onControl v)
      ((s.leaveZones v).waiters (onControl v) ++ [.voice v]) := rfl

end Sys2Proof.Machine
end

section
/-! Refutes O26. The statement does not bound the map's length, and the mixdown compares the 22 loudspeaker channels only: with a map of
23 entries whose last one is the one of row H, DRIVER's sum of that channel saturates and raises no notice. -/

namespace Sys2Proof.Machine

/-- In RUN, everything else as a cold reset leaves it. -/
def inRun : State := { State.reset with port := { State.reset.port with op := .run } }

/-- A frame of silence on every input. -/
def silentFrame : FrameInput :=
  ⟨List.replicate 48 (0, 0), List.replicate 48 (0, 0), ⟨List.replicate 48 (0, 0), List.replicate 48 (0, 0)⟩, ⟨false, false⟩,
    List.replicate 16 0, List.replicate 16 0,
    ⟨List.replicate 16 0, List.replicate 16 0, List.replicate 16 0, List.replicate 16 0⟩⟩

/-- A state in RUN with a 23rd channel, the one of row H, on which MEDIA_A plays near the gain's upper end. -/
def headPast22 : State :=
  { inRun with
    bank := { inRun.bank with map := List.replicate 22 ⟨.f, .l, 0, 1, 1, 0⟩ ++ [⟨.h, .l, 0, 1, 1, 0⟩] }
    rend := { inRun.rend with mix := { inRun.rend.mix with driver := { inRun.rend.mix.driver with
      mediaA := [{ MixPoint.mute with applied := some 48 }] } } } }

/-- A frame of MEDIA_A at the largest positive sample on the left. -/
def loudFrame : FrameInput := { silentFrame with mediaA := List.replicate 48 (8388607, 0) }

theorem headPast22_notClipped : (headPast22.renderStep loudFrame).port.flags.getLsbD 11 = false := by decide +kernel

/-- MEDIA_A has moved by the ramp rate, and no other source sounds in DRIVER. -/
theorem headPast22_gain (src : Source) :
    (((headPast22.renderStep loudFrame).rend.mix.get .driver).get src)[0]?.bind MixPoint.applied =
      if src = .mediaA then some 47 else none := by
  cases src <;> decide +kernel

theorem headPast22_cabinGain (src : Source) :
    (((headPast22.renderStep loudFrame).rend.mix.get .cabin).get src)[22]?.bind MixPoint.applied = none := by
  cases src <;> decide +kernel

/-- R22, R37: what the sources put on a channel of side L, given their gains. -/
def leftSum (snd : PerSource (List (Int × Int))) (gain : Source → Gain) (j : Nat) : Int :=
  (Source.all.map (fun src => 2 * ((snd.get src).getD j (0, 0)).1 * (multiplier (gain src) : Int))).sum

theorem leftSum_mute (snd : PerSource (List (Int × Int))) {gain : Source → Gain} (h : ∀ src, gain src = none) (j : Nat) :
    leftSum snd gain j = 0 := by
  simp [leftSum, h, multiplier, Source.all]

theorem leftSum_mediaA (snd : PerSource (List (Int × Int))) {gain : Source → Gain} {g : Gain}
    (h : ∀ src, gain src = if src = .mediaA then g else none) (j : Nat) :
    leftSum snd gain j = 2 * (snd.mediaA.getD j (0, 0)).1 * (multiplier g : Int) := by
  simp [leftSum, h, multiplier, Source.all, PerSource.get]

/-- Refutes O26: the sum on the channel numbered 22 passes the largest positive sample, and CLIPPED of DRIVER is not raised. -/
theorem not_zonesMixIntoTheChannels : ¬ Obligations.ZonesMixIntoTheChannels := by
  intro h
  obtain ⟨-, -, -, h⟩ := h
  obtain ⟨t, snd, ht, hA, -, -, -, -, -, -, -, -, -, -, -, -, -, -, flag⟩ := h headPast22 loudFrame rfl
  have same : headPast22.renderStep loudFrame = t :=
    Host.Outcome.next.inj ((exec_renderFrame (s := headPast22) rfl loudFrame).symm.trans ht)
  have silent := headPast22_notClipped
  have driver := headPast22_gain
  have cabin := headPast22_cabinGain
  rw [same] at silent
  simp only [same] at driver cabin
  clear ht same
  have raised : ∀ x ∈ List.zipWith (· + ·)
      ((List.range 48).map fun j => ((leftSum snd (fun src => ((t.rend.mix.get .cabin).get src)[22]?.bind MixPoint.applied) j : Int) : Rat))
      ((List.range 48).map fun j => ((leftSum snd (fun src => ((t.rend.mix.get .driver).get src)[0]?.bind MixPoint.applied) j : Int) : Rat)),
      2 ^ 64 - 2 ^ 41 < x → t.port.flags.getLsbD 11 = true := fun x hx loud =>
    (flag .driver).mpr (.inr ⟨0, 22, rfl, ⟨.mediaA, congrArg Option.isSome (driver .mediaA)⟩, x, hx, .inr loud⟩)
  clear flag
  have sample : (snd.mediaA.getD 0 (0, 0)).1 = 8388607 * 2 ^ 20 := by
    rw [hA]
    rfl
  have first := raised (2 * (8388607 * 2 ^ 20) * (multiplier (some 47) : Int) : Int) (by
    rw [List.zipWith_map, List.zipWith_self, List.mem_map]
    exact ⟨0, by decide, by rw [leftSum_mute snd cabin, leftSum_mediaA snd driver, sample, Int.cast_zero, zero_add]⟩)
  rw [show multiplier (some 47) = 4056018 by decide +kernel] at first
  exact Bool.false_ne_true (silent.symm.trans (first (by norm_num)))

end Sys2Proof.Machine
end

section
/-! Refutes O24. Its last clause says of every state in RUN that no mix point is left to start again after a frame. Where two voices end
their entries in one frame, the first end can order a jump of a source and the second one make the source newly audible before a frame has
made that jump, and the mix point is then left to start from mute (R13, R16). It takes a state whose claim list is no evaluation's result:
MEDIA_A sounds below a PROMPT that the policy row makes EXCLUSIVE. The statement has no hypothesis that rules it out. -/

namespace Sys2Proof.Machine

/-- A voice whose one entry, of the given clip, plays. -/
def playingClip (n : Nat) : VoiceRec :=
  { VoiceRec.reset with queue := [⟨n, ⟨true, false, false, false⟩, 1, 0, 0, 0, 0, none⟩], state := .playing, passes := 1 }

/-- A clip of one sample that a voice plays. -/
def oneSample (v : Voice) : Clip := ⟨.ready, some .control, some 48000, [0], 1, 1, true, .playing v⟩

/-- CHIME, PROMPT and MEDIA_A in CABIN, where PROMPT's row is EXCLUSIVE; the two voices play the last sample of their clips. -/
def twoEnding : State :=
  let rows := { inRun.arb.policy.cabin with prompt := .exclusive }
  let s := { inRun with arb := { inRun.arb with policy := { inRun.arb.policy with cabin := rows } } }
  let s := s.setZone .cabin ⟨[⟨.voiceChime, .chime, .audible, 3, false, false⟩, ⟨.voicePrompt, .prompt, .audible, 2, false, false⟩,
    ⟨.mediaA, .entertainment, .audible, 1, false, false⟩], 4, none, some .voiceChime, false⟩
  let s := { s with pool := (s.pool.setClip 1 (oneSample .chime)).setClip 2 (oneSample .prompt) }
  (s.setVoice .chime (playingClip 1)).setVoice .prompt (playingClip 2)

theorem twoEnding_restart :
    (((twoEnding.renderStep silentFrame).rend.mix.get .cabin).get .mediaA)[0]?.map MixPoint.restart = some true := by
  decide +kernel

theorem twoEnding_cool : ∀ x, twoEnding.rend.thermal[0]? = some x → x.cool < 16 := by
  decide

/-- Refutes O24: after the frame MEDIA_A's mix point is left to start again. -/
theorem not_rampsReachTheirTargets : ¬ Obligations.RampsReachTheirTargets := by
  intro h
  obtain ⟨-, moves⟩ := h
  obtain ⟨t, n, ht, hn, -, -, kept⟩ := moves twoEnding silentFrame .cabin .mediaA 0 0 MixPoint.mute rfl rfl rfl (.inr twoEnding_cool)
  have same : twoEnding.renderStep silentFrame = t :=
    Host.Outcome.next.inj ((exec_renderFrame (s := twoEnding) rfl silentFrame).symm.trans ht)
  have left := twoEnding_restart
  rw [same, hn] at left
  exact Bool.false_ne_true (kept.symm.trans (Option.some.inj left))

end Sys2Proof.Machine
end

section
/-! SUPPORT. Raising a notice lowers no flag (R188), and a delivery of another quantity leaves a watch on the largest reduction alone (R179):
what every part of a render frame but the thermal model does to both. -/

namespace Sys2Proof.Machine

/-- R179: a delivery evaluates the watches on its quantity, and leaves the others. -/
theorem deliverTo_getElem? (q : Quantity) (v : Int) (l : List (Option Watch)) (n i : Nat) :
    (deliverTo q v n l).1[i]? = l[i]?.map (Option.map (fun w => if w.quantity = q then (evalWatch v w).1 else w)) := by
  induction l generalizing n i with
  | nil => rfl
  | cons o ws ih =>
    cases i with
    | zero =>
      cases o with
      | none => rfl
      | some w => by_cases h : w.quantity = q <;> simp [deliverTo, h]
    | succ i =>
      cases o with
      | none => simp [deliverTo, ih]
      | some w => by_cases h : w.quantity = q <;> simp [deliverTo, h, ih]

theorem Watches.deliver_watch (x : Watches) (q : Quantity) (v : Int) {i : Nat} {w : Watch} (h : x.slots[i]? = some (some w)) :
    (x.deliver q v).slots[i]? = some (some (if w.quantity = q then (evalWatch v w).1 else w)) := by
  change (deliverTo q v 0 x.slots).1[i]? = _
  rw [deliverTo_getElem?, h]
  rfl

/-- No flag falls, and every watch on the largest reduction stands as it did. -/
structure OnlyTells (s t : State) : Prop where
  flags : ∀ n, s.port.flags.getLsbD n = true → t.port.flags.getLsbD n = true
  watches : ∀ (i : Nat) (w : Watch), s.wat.slots[i]? = some (some w) → w.quantity = .maxThermalL → t.wat.slots[i]? = some (some w)

namespace OnlyTells

theorem of_same {s t : State} (port : t.port = s.port) (wat : t.wat = s.wat) : OnlyTells s t :=
  ⟨fun _ h => port ▸ h, fun _ _ h _ => wat ▸ h⟩

theorem refl (s : State) : OnlyTells s s := of_same rfl rfl

theorem trans {s t u : State} (h : OnlyTells s t) (h' : OnlyTells t u) : OnlyTells s u :=
  ⟨fun n x => h'.flags n (h.flags n x), fun i w x q => h'.watches i w (h.watches i w x q) q⟩

theorem same {s t u : State} (h : OnlyTells s t) (port : u.port = t.port) (wat : u.wat = t.wat) : OnlyTells s u :=
  h.trans (of_same port wat)

theorem after {s t u : State} (h : OnlyTells t u) (port : t.port = s.port) (wat : t.wat = s.wat) : OnlyTells s u :=
  (of_same port wat).trans h

end OnlyTells

theorem State.raise_tells (s : State) (n : Notice) : OnlyTells s (s.raise n) where
  flags k h := by
    change (s.port.raise n).flags.getLsbD k = true
    rw [Port.raise_flags]
    split
    · exact h
    · rw [BitVec.getLsbD_or, h, Bool.true_or]
  watches _ _ h _ := h

theorem State.deliverChange_tells (s : State) {q : Quantity} (other : q ≠ .maxThermalL) (old new : Int) :
    OnlyTells s (s.deliverChange q old new) := by
  unfold State.deliverChange
  split
  · exact .refl s
  · refine ⟨fun _ h => h, fun i w h hq => ?_⟩
    have := s.wat.deliver_watch q new h
    rw [if_neg (fun e => other (e.symm.trans hq))] at this
    exact this

/-! ## The pool -/

theorem State.deliverFree_tells (s : State) (old : Nat) : OnlyTells s (s.deliverFree old) :=
  s.deliverChange_tells (by decide) _ _

/-- A change of the pool with its delivery. -/
theorem State.poolChange_tells (s : State) (f : Pool → Pool) (old : Nat) : OnlyTells s ((s.mapPool f).deliverFree old) :=
  .after (State.deliverFree_tells _ old) rfl rfl

theorem State.attemptSlot_tells (s : State) (o : LinkOwner) : OnlyTells s (s.attemptSlot o) := by
  unfold State.attemptSlot
  split
  · split
    · exact (s.poolChange_tells _ _).trans (State.raise_tells _ _)
    · exact .refl s
  · exact .refl s

theorem State.grantAttempt_tells (s : State) : OnlyTells s s.grantAttempt :=
  (s.attemptSlot_tells .vehicle).trans (State.attemptSlot_tells _ .control)

theorem State.freeClip_tells (s : State) (n : Nat) : OnlyTells s (s.freeClip n) :=
  (s.poolChange_tells _ _).trans (State.grantAttempt_tells _)

theorem State.closeClip_tells (s : State) (n len : Nat) : OnlyTells s (s.closeClip n len) := by
  have closed : OnlyTells s ((s.mapPool (·.close n len)).deliverFree s.pool.freeCount) :=
    s.poolChange_tells _ _
  unfold State.closeClip
  dsimp only
  split
  · exact closed.trans (State.grantAttempt_tells _)
  · exact closed

theorem State.beginCapture_tells (s : State) (p : Path) : OnlyTells s (s.beginCapture p) := by
  unfold State.beginCapture
  split
  · rename_i c t h
    have opened : OnlyTells s t := by
      unfold State.captureOpen at h
      split at h
      · cases h
      · split at h
        · cases h
        · split at h
          · cases h
          · obtain ⟨-, rfl⟩ := Prod.mk.inj (Option.some.inj h)
            exact s.poolChange_tells _ _
    exact opened.same rfl rfl
  · exact .of_same rfl rfl

theorem State.captureExtend_tells {s t : State} {n : Nat} (h : s.captureExtend n = some t) : OnlyTells s t := by
  unfold State.captureExtend at h
  dsimp only at h
  split at h
  · cases h
  · obtain rfl := Option.some.inj h
    exact s.poolChange_tells _ _

/-! ## The claims -/

theorem ClaimChange.tells {s t : State} (h : ClaimChange s t) : OnlyTells s t := by
  cases h with
  | setZone z zs => exact .of_same rfl rfl
  | mapRend f => exact .of_same rfl rfl
  | raise n => exact s.raise_tells n
  | voiceReport v =>
    unfold State.voiceReport
    dsimp only
    split
    · exact .of_same rfl rfl
    · exact .of_same rfl rfl
    · exact .refl s
  | noteHeld p =>
    unfold State.noteHeld
    dsimp only
    split
    · exact .refl s
    · exact .of_same rfl rfl
  | captureFor p =>
    unfold State.captureFor
    split
    · exact s.beginCapture_tells p
    · exact .refl s

theorem ClaimWork.tells {s t : State} (h : ClaimWork s t) : OnlyTells s t :=
  h.keep OnlyTells.refl (fun _ _ _ => OnlyTells.trans) (fun _ _ => ClaimChange.tells)

/-! ## The voices -/

theorem State.setVoice_tells (s : State) (v : Voice) (r : VoiceRec) : OnlyTells s (s.setVoice v r) := .of_same rfl rfl

theorem State.setUse_tells (s : State) (n : Nat) (u : UseMarker) : OnlyTells s (s.setUse n u) := .of_same rfl rfl

theorem State.becomeCurrent_tells (s : State) (v : Voice) (e : Entry) : OnlyTells s (s.becomeCurrent v e) :=
  ((s.setUse_tells _ _).trans (State.setVoice_tells _ _ _)).trans (s.becomeCurrent_work v e).tells

theorem State.goIdle_tells (s : State) (v : Voice) : OnlyTells s (s.goIdle v) :=
  (s.leaveZones_work v).tells.trans (State.setVoice_tells _ _ _)

theorem State.nextEntry_tells (s : State) (v : Voice) : OnlyTells s (s.nextEntry v) := by
  unfold State.nextEntry
  split
  · exact s.becomeCurrent_tells v _
  · exact s.goIdle_tells v

theorem State.append_tells (s : State) (control : Bool) (c : Completion) : OnlyTells s (s.append control c) := by
  unfold State.append
  split
  · exact .after (State.raise_tells _ _) rfl rfl
  · unfold State.buildChimeDone
    split <;> exact .of_same rfl rfl

theorem State.setWaiters_tells (s : State) (control : Bool) (l : List Waiter) : OnlyTells s (s.setWaiters control l) := by
  unfold State.setWaiters
  split <;> exact .of_same rfl rfl

theorem State.stall_tells (s : State) (v : Voice) : OnlyTells s (s.stall v) := by
  rw [State.stall_eq]
  exact ((s.leaveZones_work v).tells.trans (State.setVoice_tells _ _ _)).trans (State.setWaiters_tells _ _ _)

theorem State.retireHead_tells (s : State) (v : Voice) : OnlyTells s (s.retireHead v) := by
  unfold State.retireHead
  dsimp only
  split
  · exact s.goIdle_tells v
  · refine OnlyTells.trans ?_ (State.nextEntry_tells _ v)
    split
    · exact ((s.setVoice_tells _ _).trans (State.setUse_tells _ _ _)).trans (State.freeClip_tells _ _)
    · exact (s.setVoice_tells _ _).trans (State.setUse_tells _ _ _)

theorem State.retire_tells (s : State) (v : Voice) : OnlyTells s (s.retire v) := by
  unfold State.retire
  split
  · exact s.goIdle_tells v
  · split
    · split
      · exact (s.append_tells _ _).trans (State.retireHead_tells _ _)
      · exact s.stall_tells v
    · exact s.retireHead_tells v

theorem State.conclude_tells (s : State) (v : Voice) (o : CompStatus) : OnlyTells s (s.conclude v o) := by
  unfold State.conclude
  dsimp only
  split
  · exact .refl s
  · exact s.setVoice_tells _ _

theorem State.startFade_tells (s : State) (v : Voice) : OnlyTells s (s.startFade v) :=
  (s.orderHush_work _ _).tells.trans (State.setVoice_tells _ _ _)

theorem State.endFrame_tells (s : State) (v : Voice) (e : Option FrameEnd) : OnlyTells s (s.endFrame v e) := by
  unfold State.endFrame State.endPass
  dsimp only
  split
  · exact .refl s
  · split
    · exact s.setVoice_tells _ _
    · exact ((s.setVoice_tells _ _).trans (State.conclude_tells _ _ _)).trans (State.retire_tells _ _)
  · exact (s.conclude_tells _ _).trans (State.startFade_tells _ _)

theorem State.voiceFrame_tells (s : State) (v : Voice) : OnlyTells s (s.voiceFrame v).state := by
  unfold State.voiceFrame State.leaveStarting State.playFrame State.output State.leaveFill
  dsimp only
  (repeat' split) <;> exact .of_same rfl rfl

theorem State.framePlayed_tells (s : State) : OnlyTells s s.framePlayed :=
  (((s.voiceFrame_tells .chime).trans (State.voiceFrame_tells _ .prompt)).trans (State.voiceFrame_tells _ .traffic)).trans
    (State.voiceFrame_tells _ .ring)

theorem State.frameEnded_tells (s : State) : OnlyTells s s.frameEnded :=
  (((s.framePlayed_tells.trans (State.endFrame_tells _ .chime _)).trans (State.endFrame_tells _ .prompt _)).trans
    (State.endFrame_tells _ .traffic _)).trans (State.endFrame_tells _ .ring _)

/-! ## The capture -/

theorem State.placeReplay_tells (s : State) (p : Path) (n : Nat) : OnlyTells s (s.placeReplay p n) := by
  unfold State.placeReplay State.place
  split
  · rename_i h
    split at h
    · cases h
    · obtain rfl := Except.ok.inj h
      unfold State.accept
      dsimp only
      split
      · exact ((s.setUse_tells _ _).trans (State.setVoice_tells _ _ _)).trans (State.becomeCurrent_tells _ _ _)
      · exact (s.setUse_tells _ _).trans (State.setVoice_tells _ _ _)
  · exact .refl s

theorem State.oweCapture_tells (s : State) (n : Nat) (st : CompStatus) : OnlyTells s (s.oweCapture n st) := by
  unfold State.oweCapture
  split
  · exact (s.append_tells _ _).same rfl rfl
  · exact (s.setWaiters_tells _ _).same rfl rfl

theorem State.closeCapture_tells (s : State) (p : Path) (n : Nat) (st : CompStatus) : OnlyTells s (s.closeCapture p n st) := by
  unfold State.closeCapture
  dsimp only
  split
  · exact (s.freeClip_tells n).same rfl rfl
  · exact ((s.closeClip_tells _ _).trans (State.placeReplay_tells _ _ _)).trans (State.oweCapture_tells _ _ _)

theorem State.truncate_tells (s : State) (p : Path) (n : Nat) : OnlyTells s (s.truncate p n) :=
  have closed : OnlyTells s ((s.setAnn p { s.ann p with eligible := false }).closeCapture p n .truncated) :=
    .after (State.closeCapture_tells _ _ _ _) rfl rfl
  closed.trans (State.captureAfter_work _ _).tells

theorem State.captureSamples_tells (p : Path) (n : Nat) (l : List Sample) (s : State) :
    OnlyTells s (State.captureSamples p n l s) := by
  induction l generalizing s with
  | nil => exact .refl s
  | cons v vs ih =>
    unfold State.captureSamples
    split
    · rename_i t h
      unfold State.captureSample at h
      obtain ⟨u, hu, rfl⟩ := Option.map_eq_some_iff.mp h
      have extended : OnlyTells s u := by
        split at hu
        · obtain rfl := Option.some.inj hu
          exact .refl s
        · exact State.captureExtend_tells hu
      exact extended.trans (.after (ih _) rfl rfl)
    · exact s.truncate_tells p n

theorem State.captureFrame_tells (s : State) (was : Capture) (snd : PerSource (List (Int × Int))) :
    OnlyTells s (s.captureFrame was snd) := by
  unfold State.captureFrame
  dsimp only
  split
  · split
    · exact .refl s
    · split
      · exact (State.captureSamples_tells _ _ _ s).trans (State.raise_tells _ _)
      · exact State.captureSamples_tells _ _ _ s
  · exact .refl s

/-! ## The whole frame -/

theorem State.clipZone_tells (s : State) (z : Zone) (l : List Nat) : OnlyTells s (s.clipZone z l) := by
  unfold State.clipZone
  split
  · exact s.raise_tells _
  · exact .refl s

theorem State.mixdown_tells (s : State) (snd : PerSource (List (Int × Int))) : OnlyTells s (s.mixdown snd) := by
  unfold State.mixdown
  dsimp only
  iterate 4 refine OnlyTells.trans ?_ (State.clipZone_tells _ _ _)
  exact .of_same rfl rfl

theorem State.frameMixed_tells (s : State) (inp : FrameInput) : OnlyTells s.frameOpened (s.frameMixed inp) :=
  s.frameOpened.frameEnded_tells.trans (State.mixdown_tells _ _)

theorem State.uplinkFrame_tells (s : State) (inp : FrameInput) : OnlyTells s (s.uplinkFrame inp) := by
  unfold State.uplinkFrame
  dsimp only
  split <;> exact .of_same rfl rfl

theorem State.adapt_tells (s : State) : OnlyTells s s.adapt := by
  unfold State.adapt
  split <;> exact .of_same rfl rfl

theorem State.farFrame_tells (s : State) (inp : FrameInput) : OnlyTells s (s.farFrame inp) := .of_same rfl rfl

/-- What follows the thermal model in a frame. -/
theorem State.renderStep_tells (s : State) (inp : FrameInput) : OnlyTells (s.frameMixed inp).thermalStep (s.renderStep inp) := by
  rw [State.renderStep_eq]
  exact (((State.captureFrame_tells _ _ _).trans (State.uplinkFrame_tells _ inp)).trans (State.adapt_tells _)).trans
    (State.farFrame_tells _ inp)

theorem State.applyNotice_tells (s : State) : OnlyTells s s.applyNotice := by
  unfold State.applyNotice State.setEcho
  dsimp only
  split
  · split
    · exact .of_same rfl rfl
    · split
      · exact .after (State.raise_tells _ _) rfl rfl
      · exact .of_same rfl rfl
  · exact .refl s

/-- Where no cool count has reached 16, nothing falls. -/
theorem map_fall_of_cool {l : List Thermal} (cool : ∀ x ∈ l, x.cool < 16) : l.map Thermal.fall = l := by
  refine (List.map_congr_left fun x hx => ?_).trans l.map_id
  exact if_neg (Nat.not_le.mpr (cool x hx))

theorem State.thermalFalls_tells {s : State} (cool : ∀ x ∈ s.rend.thermal, x.cool < 16) : OnlyTells s s.thermalFalls := by
  unfold State.thermalFalls
  unfold State.deliverThermal State.deliverChange
  split
  · exact .of_same rfl rfl
  · rename_i changed
    exact absurd (congrArg (fun l => (maxReduction l : Int)) (map_fall_of_cool cool).symm) changed

theorem State.frameOpened_tells {s : State} (cool : ∀ x ∈ s.rend.thermal, x.cool < 16) : OnlyTells s s.frameOpened := by
  have notice : OnlyTells s s.tick.applyNotice := .after s.tick.applyNotice_tells rfl rfl
  have thermal : s.tick.applyNotice.rend.thermal = s.rend.thermal := by
    have := s.tick.applyNotice_frame
    simp_all only [CallFrame]
    rfl
  exact (notice.trans (State.thermalFalls_tells (by rwa [thermal]))).same rfl rfl

end Sys2Proof.Machine
end

section
/-! The thermal model of a frame (R41). -/

namespace Sys2Proof.Machine

/-! ## One channel -/

theorem thermalFrames_getElem? (b : Bank) : ∀ (k i : Nat) (ts : List Thermal) (outs : List (List Rat)) (x : Thermal) (out : List Rat),
    ts[i]? = some x → outs[i]? = some out → (thermalFrames b k ts outs)[i]? = some (x.frame (b.entry (k + i)) (power out))
  | k, 0, t :: ts, o :: os, x, out, hx, ho => by
    obtain rfl := Option.some.inj hx
    obtain rfl := Option.some.inj ho
    rfl
  | k, i + 1, t :: ts, o :: os, x, out, hx, ho => by
    rw [show k + (i + 1) = k + 1 + i by omega]
    exact thermalFrames_getElem? b (k + 1) i ts os x out hx ho

/-- R41 step 1: the power of 48 samples is floor(4096 m). -/
theorem power_spec (out : List Rat) : (power out : Int) = ⌊4096 * (out.map (fun v => v * v)).sum / (48 * 2 ^ 128)⌋ := by
  have sum : sumRat (out.map fun v => v * v) = (out.map fun v => v * v).sum := List.sum_eq_foldl.symm
  have squares : 0 ≤ (out.map fun v => v * v).sum := List.sum_nonneg (by
    intro x hx
    obtain ⟨v, -, rfl⟩ := List.mem_map.mp hx
    exact mul_self_nonneg v)
  rw [power, sum]
  have nonneg : 0 ≤ 4096 * (out.map fun v => v * v).sum / (48 * 2 ^ 128) := by positivity
  exact Int.toNat_of_nonneg (Int.floor_nonneg.mpr nonneg)

/-- R41 steps 2 and 3. -/
theorem Thermal.frame_spec (x : Thermal) (e : ChannelEntry) (p : Nat) :
    let y := x.frame e p
    y.energy = min 2147483647 (x.energy + p - x.energy / e.tau) ∧
    (e.rated * e.tau < y.energy → y.reduction = min 96 (x.reduction + 1) ∧ y.cool = 0) ∧
    (y.energy < 7 * e.rated * e.tau / 8 → y.reduction = x.reduction ∧ y.cool = if x.reduction = 0 then 0 else x.cool + 1) ∧
    (7 * e.rated * e.tau / 8 ≤ y.energy → y.energy ≤ e.rated * e.tau → y.reduction = x.reduction ∧ y.cool = 0) := by
  have energy : (x.frame e p).energy = min 2147483647 (x.energy + p - x.energy / e.tau) := by
    unfold Thermal.frame
    dsimp only
    (repeat' split) <;> rfl
  intro y
  refine ⟨energy, ?_⟩
  have low : 7 * e.rated * e.tau = 7 * (e.rated * e.tau) := Nat.mul_assoc ..
  rw [low, energy]
  dsimp only [y]
  unfold Thermal.frame
  dsimp only [Config.energyMax]
  generalize min 2147483647 (x.energy + p - x.energy / e.tau) = en
  generalize e.rated * e.tau = high
  split
  · exact ⟨fun _ => ⟨rfl, rfl⟩, fun h => by omega, fun _ h => by omega⟩
  · split
    · refine ⟨fun h => by omega, fun _ => ?_, fun h => by omega⟩
      split <;> exact ⟨rfl, rfl⟩
    · exact ⟨fun h => by omega, fun h => by omega, fun _ _ => ⟨rfl, rfl⟩⟩

theorem thermalRose_of_channel : ∀ (k : Nat) (old new : List Thermal) (x y : Thermal), old[k]? = some x → new[k]? = some y →
    x.reduction = 0 → y.reduction ≠ 0 → thermalRose old new = true
  | 0, o :: os, n :: ns, x, y, hx, hy, hx0, hy0 => by
    obtain rfl := Option.some.inj hx
    obtain rfl := Option.some.inj hy
    simp [thermalRose, hx0, hy0]
  | k + 1, o :: os, n :: ns, x, y, hx, hy, hx0, hy0 => by
    rw [thermalRose, thermalRose_of_channel k os ns x y hx hy hx0 hy0, Bool.or_true]

/-! ## The fall (R41) -/

theorem updateAt_eq_set {α : Type} (f : α → α) : ∀ (k : Nat) (l : List α) (x : α), l[k]? = some x → updateAt f k l = l.set k (f x)
  | 0, a :: l, x, h => by
    obtain rfl := Option.some.inj h
    rfl
  | k + 1, a :: l, x, h => congrArg (a :: ·) (updateAt_eq_set f k l x h)

theorem updateAt_eq_self {α : Type} (f : α → α) : ∀ (k : Nat) (l : List α), (∀ x, l[k]? = some x → f x = x) → updateAt f k l = l
  | 0, [], _ => rfl
  | _ + 1, [], _ => rfl
  | 0, a :: l, h => congrArg (· :: l) (h a rfl)
  | k + 1, a :: l, h => congrArg (a :: ·) (updateAt_eq_self f k l h)

theorem State.deliverThermal_eq (s : State) (old : Nat) :
    s.deliverThermal old = { s with
      wat := if old = maxReduction s.rend.thermal then s.wat
        else s.wat.deliver .maxThermalL (maxReduction s.rend.thermal : Int) } := by
  unfold State.deliverThermal State.deliverChange
  by_cases h : old = maxReduction s.rend.thermal
  · rw [if_pos h, if_pos (congrArg Nat.cast h)]
  · rw [if_neg h, if_neg (fun e => h (Int.ofNat_inj.mp e))]
    rfl

theorem exec_coolCountExpiry (s : State) (k : Nat) :
    exec (.coolCountExpiry k) s = .next (if s.running then s.coolFall k else s) := rfl

/-- A channel whose cool count has reached 16 falls by one and counts afresh. -/
theorem State.coolFall_due {s : State} {k : Nat} {x : Thermal} (h : s.rend.thermal[k]? = some x) (due : 16 ≤ x.cool) :
    let l := s.rend.thermal.set k ⟨x.energy, x.reduction - 1, 0⟩
    s.coolFall k = { s with
      rend := { s.rend with thermal := l }
      wat := if maxReduction s.rend.thermal = maxReduction l then s.wat
        else s.wat.deliver .maxThermalL (maxReduction l : Int) } := by
  intro l
  have falls : updateAt Thermal.fall k s.rend.thermal = l := by
    rw [updateAt_eq_set _ _ _ _ h, Thermal.fall, if_pos due]
  rw [State.coolFall, State.deliverThermal_eq]
  simp only [State.mapRend, falls]

theorem State.coolFall_early {s : State} {k : Nat} (h : ∀ x, s.rend.thermal[k]? = some x → x.cool < 16) : s.coolFall k = s := by
  have stays : updateAt Thermal.fall k s.rend.thermal = s.rend.thermal :=
    updateAt_eq_self _ _ _ fun x hx => if_neg (Nat.not_le.mpr (h x hx))
  rw [State.coolFall, State.deliverThermal_eq]
  simp only [State.mapRend, stays, if_true]

/-! ## The frame -/

theorem evalWatch_quantity (v : Int) (w : Watch) : (evalWatch v w).1.quantity = w.quantity := by
  unfold evalWatch
  dsimp only
  (repeat' split) <;> rfl

/-- R179: a watch on the largest reduction after the thermal model: evaluated where the figure has changed. -/
theorem State.thermalStep_watch {s : State} {i : Nat} {w : Watch} (h : s.wat.slots[i]? = some (some w)) (hq : w.quantity = .maxThermalL) :
    s.thermalStep.wat.slots[i]? = some (some (if maxReduction s.rend.thermal = maxReduction s.thermalStep.rend.thermal then w
      else (evalWatch (maxReduction s.thermalStep.rend.thermal : Int) w).1)) := by
  rw [s.thermalStep_rend]
  have delivered : s.thermalStep.wat = if maxReduction s.rend.thermal = maxReduction (s.thermalStep).rend.thermal then s.wat
      else s.wat.deliver .maxThermalL (maxReduction s.thermalStep.rend.thermal : Int) := by
    rw [s.thermalStep_rend]
    unfold State.thermalStep
    dsimp only
    rw [State.deliverThermal_eq]
    split <;> rfl
  rw [delivered, s.thermalStep_rend]
  split
  · exact h
  · rw [Watches.deliver_watch _ _ _ h, if_pos hq]

theorem State.thermalStep_raises {s : State}
    (h : thermalRose s.rend.thermal (thermalFrames s.bank 0 s.rend.thermal s.rend.out.speakers) = true) :
    s.thermalStep.port.flags.getLsbD 14 = true := by
  unfold State.thermalStep
  dsimp only
  rw [if_pos h, State.deliverThermal_eq]
  exact Port.raise_sets _ .thermal (by decide)

theorem State.renderStep_speakers (s : State) (inp : FrameInput) : (s.renderStep inp).rend.out.speakers.length = 22 := by
  rw [s.renderStep_out, State.frameMixed, State.mixdown_out, AudioOut.ofSpeakers_speakers, List.length_map, State.speakerSums_count]

/-- Settles O27. The parts of the frame before and after the thermal model lower no flag and deliver no other figure of the reduction. -/
theorem coolCountLowersTheReduction : Obligations.CoolCountLowersTheReduction := by
  refine ⟨fun s k x run hx due => ?_, fun s k early => ?_, fun s inp run length channels cool => ?_⟩
  · rw [exec_coolCountExpiry, if_pos (s.running_iff.mpr run), State.coolFall_due hx due]
  · rw [exec_coolCountExpiry, State.coolFall_early early, ite_self]
  have found : (s.frameMixed inp).rend.thermal = s.rend.thermal := by rw [State.frameMixed_thermal, map_fall_of_cool cool]
  have left := s.renderStep_thermal inp
  rw [map_fall_of_cool cool] at left
  have before : OnlyTells s (s.frameMixed inp) := (State.frameOpened_tells cool).trans (s.frameMixed_tells inp)
  have after := s.renderStep_tells inp
  have stepped : (s.frameMixed inp).thermalStep.rend.thermal = (s.renderStep inp).rend.thermal := (s.renderStep_after inp).2.1.symm
  refine ⟨s.renderStep inp, exec_renderFrame run inp, by rw [left, thermalFrames_length, length], fun k x e hx he => ?_,
    fun i w hw hq => ?_⟩
  · have hk : k < (s.renderStep inp).rend.out.speakers.length := by
      rw [s.renderStep_speakers, ← length]
      exact (List.getElem?_eq_some_iff.mp hx).1
    have entry : s.bank.entry (0 + k) = e := by
      rw [Nat.zero_add, Bank.entry, List.getD_eq_getElem?_getD, he, Option.getD_some]
    have hy := thermalFrames_getElem? s.bank 0 k _ _ x _ hx (List.getElem?_eq_getElem hk)
    rw [← left, entry] at hy
    obtain ⟨energy, high, low, between⟩ := x.frame_spec e (power (s.renderStep inp).rend.out.speakers[k])
    refine ⟨_, _, _, List.getElem?_eq_getElem hk, power_spec _, hy, energy, high, low, between, fun none some => ?_⟩
    refine after.flags 14 (State.thermalStep_raises ?_)
    have new : thermalFrames (s.frameMixed inp).bank 0 (s.frameMixed inp).rend.thermal (s.frameMixed inp).rend.out.speakers =
        (s.renderStep inp).rend.thermal := by rw [← stepped, State.thermalStep_rend]
    rw [new, found]
    exact thermalRose_of_channel k _ _ x _ hx hy none some
  · have evaluated := State.thermalStep_watch (before.watches i w hw hq) hq
    rw [found, stepped] at evaluated
    refine after.watches i _ evaluated ?_
    split
    · exact hq
    · rw [evalWatch_quantity, hq]

end Sys2Proof.Machine
end

section
/-! Refutes O38. Its first clause says of every voice in STARTING that the frame leaves the pool as it was. Where the voice's claim sounds
and its READY clip is waited for no longer, the voice plays in that same frame (R86), and a clip no longer than the frame ends its only pass
in it: the entry is PLAYED and retires at once (R90, R92), and the clip is freed, auto-release being set. -/

namespace Sys2Proof.Machine

/-- PROMPT about to play a READY clip of one sample once, with its claim AUDIBLE in CABIN and the other voices IDLE. -/
def shortPrompt : State :=
  let s := inRun.setZone .cabin ⟨[⟨.voicePrompt, .prompt, .audible, 1, false, false⟩], 2, none, some .voicePrompt, false⟩
  let s := { s with pool := s.pool.setClip 1 (oneSample .prompt) }
  s.setVoice .prompt { playingClip 1 with state := .starting }

theorem shortPrompt_clip : (shortPrompt.pool.clip 1).state = .ready := by decide

theorem shortPrompt_freed : ((shortPrompt.renderStep silentFrame).pool.clip 1).state = .free := by decide +kernel

/-- Refutes O38: the clip is READY before the frame and FREE after it. -/
theorem not_voicesPlayInAFrame : ¬ Obligations.VoicesPlayInAFrame := by
  intro h
  obtain ⟨starting, -⟩ := h
  have others : ∀ w, w ≠ Voice.prompt → (shortPrompt.voice w).state = .idle := by
    intro w hw
    cases w
    case prompt => exact absurd rfl hw
    all_goals rfl
  obtain ⟨t, ht, kept, -⟩ := starting shortPrompt silentFrame .prompt _ [] ⟨rfl, rfl, rfl, others⟩ rfl rfl ⟨rfl, rfl, rfl⟩
  have same : shortPrompt.renderStep silentFrame = t :=
    Host.Outcome.next.inj ((exec_renderFrame (s := shortPrompt) rfl silentFrame).symm.trans ht)
  have freed := shortPrompt_freed
  rw [same, kept, shortPrompt_clip] at freed
  exact ClipState.noConfusion freed

end Sys2Proof.Machine
end

section
/-! SUPPORT. What a request is answered with, by its gate and by its owner. -/

namespace Sys2Proof.Machine

/-- R175, R187: a request that its gate refuses. -/
theorem answers_gated {c : Instr} {s : State} {cls verb : Nat} {g : Gate} {code q : Byte} {body : State → Reply × State} {r : RefCode}
    (hp : s.port.resetPending = false) (he : exec c s = serve cls verb q g s body) (hc : codeByte cls verb = code)
    (hg : gateRefusal g s = some r) : Answers c s s code q (.refused r []) := by
  refine ⟨s.taking.reply (codeByte cls verb) q (.refused r []), he.trans ?_, hc ▸ repliesWith_query s _ q _⟩
  simp [serve, hp, hg]

/-- A request that passes its gate, with an effect that builds no reply and sends nothing. -/
theorem answers_effect {c : Instr} {s v : State} (cls verb : Nat) {g : Gate} {code q : Byte} {body : State → Reply × State} {r : Reply}
    (hp : s.port.resetPending = false) (hg : gateRefusal g s = none) (he : exec c s = serve cls verb q g s body)
    (hc : codeByte cls verb = code) (hb : body s.taking = (r, v))
    (hx : v.port.tx.countP TxFrame.isReply = s.taking.port.tx.countP TxFrame.isReply)
    (hl : v.port.lineOut = s.taking.port.lineOut) : Answers c s (s.untaken v) code q r := by
  refine ⟨_, he.trans (serve_done hp hg), ?_⟩
  rw [hb, hc]
  exact repliesWith_untaken code q r hx hl

theorem Serves.gate {s : State} (h : Serves s) : gateRefusal .runOnly s = none := by
  simp [gateRefusal, State.running, h.1]

theorem Unlocked.gate {s : State} (h : Unlocked s) : gateRefusal .lockable s = none := by
  simp [gateRefusal, State.running, h.1.1, h.2]

/-- An effect that leaves the port: the state that the request found, with that effect. -/
theorem State.untaken_of_port {s v : State} (h : v.port = s.taking.port) : s.untaken v = v.withPort s.port := by
  have port : (s.untaken v).port = (s.untaken s.taking).port := by
    simp only [State.untaken, State.mapPort_port, h]
  rw [s.untaken_taking] at port
  rw [← port]
  rfl

/-- A request served in RUN whose effect leaves the port. -/
theorem answers_portless {c : Instr} {s v : State} (cls verb : Nat) {code q : Byte} {body : State → Reply × State} {r : Reply}
    (h : Serves s) (he : exec c s = serve cls verb q .runOnly s body) (hc : codeByte cls verb = code)
    (hb : body s.taking = (r, v)) (port : v.port = s.taking.port) : Answers c s (v.withPort s.port) code q r := by
  rw [← State.untaken_of_port port]
  exact answers_effect cls verb h.2 h.gate he hc hb (by rw [port]) (by rw [port])

/-- What takes, calls and the canceller leave of the state in which the reply before has left, they leave of the state found. -/
theorem CallFrame.untaken {s v : State} (h : CallFrame s.taking v) : CallFrame s (s.untaken v) := by
  have count : (s.untaken v).port.tx.countP TxFrame.isReply = s.port.tx.countP TxFrame.isReply :=
    State.untaken_countP (by simp_all only [CallFrame])
  have reset : s.taking.port.lastReset = s.port.lastReset ∧ s.taking.port.rx = s.port.rx ∧ s.taking.port.held = s.port.held ∧
      s.taking.port.assembly = s.port.assembly ∧ s.taking.port.lastReply = s.port.lastReply := by
    rw [State.taking, State.mapPort, Port.replyLeaves_eq]
    simp
  simp_all [CallFrame, State.untaken]

theorem CallFrame.trans {s t u : State} (h : CallFrame s t) (h' : CallFrame t u) : CallFrame s u := by
  simp_all only [CallFrame, and_self]

theorem callFrame_of_claim {s t : State} (h : ClaimFrame s t) : CallFrame s t := by
  simp_all only [CallFrame, ClaimFrame, and_self]

/-- A request that passes its gate, with an effect within the frame of the call operations. -/
theorem answers_callFrame {c : Instr} {s v : State} (cls verb : Nat) {g : Gate} {code q : Byte} {body : State → Reply × State}
    {r : Reply} (hp : s.port.resetPending = false) (hg : gateRefusal g s = none) (he : exec c s = serve cls verb q g s body)
    (hc : codeByte cls verb = code) (hb : body s.taking = (r, v)) (frame : CallFrame s.taking v) :
    Answers c s (s.untaken v) code q r ∧ CallFrame s (s.untaken v) :=
  ⟨answers_effect cls verb hp hg he hc hb (by simp_all only [CallFrame]) (by simp_all only [CallFrame]), frame.untaken⟩

end Sys2Proof.Machine
end

section
/-! SUPPORT. What STARTUP and override refuse. -/

namespace Sys2Proof.Machine

theorem next_of_not {p : Prop} [Decidable p] {s t : State} (h : ¬ p) : (Host.Outcome.next (if p then t else s) : Out) = .next s := by
  rw [if_neg h]

/-- 12.3: an event that is neither the control port's nor a reset does nothing in STARTUP. -/
theorem exec_event_startup {c : Instr} {s : State} (h : s.port.op = .startup) (event : requestOf c = none)
    (cold : c ≠ .coldReset) (warm : c ≠ .warmReset) (bytes : ∀ l, c ≠ .frameReceived l) (gap : c ≠ .frameGapTimeout)
    (unknown : ∀ code q n, c ≠ .unknownRequest code q n) (notice : c ≠ .noticeFrameSent) (reply : c ≠ .replyFrameSent) :
    exec c s = .next s := by
  have run : ¬ s.running = true := by simp [State.running, h]
  have records : ¬ s.takesRecords = true := by simp [State.takesRecords, State.running, h]
  cases c
  case coldReset => exact absurd rfl cold
  case warmReset => exact absurd rfl warm
  case frameReceived l => exact absurd rfl (bytes l)
  case frameGapTimeout => exact absurd rfl gap
  case unknownRequest code q n => exact absurd rfl (unknown code q n)
  case noticeFrameSent => exact absurd rfl notice
  case replyFrameSent => exact absurd rfl reply
  case speed | chime | chimeStop | overrideEnter | overrideExitResume | overrideExitDrop | vehicleFrameIgnored =>
    exact next_of_not records
  case yieldExpiry | pathMeasurement | decodedField | tailExpiry | statusPeriod => exact next_of_not fun due => run due.1
  case renderFrame | coolCountExpiry | maxWaitExpiry | gapExpiry | fadeComplete | tuneFadeDone | tuneConfirmation | confirmTimeout |
      settleDone | failureRetry | seekStepMeasurement | afCheckBegin | afTrialEnd | peekStart | peekCandidateCommand |
      peekMeasurement | peekReturn | stationAgeTick | scanIntervalExpiry | scanVisitMeasurement | codeDwellEnd | scanWindowTimeout |
      announcementAgeLimit | micLevelDelivery | noiseForming | echoEstimate | echoConverged | frozenHangEnd | speedStale |
      statusSent | chimeDoneSent | watchFire =>
    exact next_of_not run
  all_goals cases event

/-- R175: a locked code is none of PROFILE.STAGE, the one request that some operands give no form. -/
theorem formed_of_locked {c : Instr} {code q : Byte} (h : requestOf c = some (code, q)) (locked : code ∈ lockedCodes) :
    formed c = true := by
  cases c
  case profileStage p m fields =>
    obtain ⟨rfl, -⟩ := Prod.mk.inj (Option.some.inj h)
    exact absurd locked (by decide)
  all_goals rfl

/-- R187: the gate of a request that STARTUP does not serve. -/
theorem gateRefusal_startup {g : Gate} {s : State} (h : s.port.op = .startup) (hg : g ≠ .always) :
    gateRefusal g s = some .notStarted := by
  cases g with
  | always => exact absurd rfl hg
  | runOnly => simp [gateRefusal, State.running, h]
  | lockable => simp [gateRefusal, State.running, h]

/-- R175: the gate of a request that override locks. -/
theorem gateRefusal_locked {s : State} (h : Serves s) (override : s.veh.override = true) :
    gateRefusal .lockable s = some .locked := by
  simp [gateRefusal, State.running, h.1, override]

/-- Settles O4: every request is served behind the gate of its code (`exec_request`), and every other event asks for RUN. -/
theorem startupRefusesOtherRequests : Obligations.StartupRefusesOtherRequests := by
  refine ⟨fun c s code q startup hp form h other => ?_, fun c s startup event => exec_event_startup startup event,
    fun c s code q serves override h locked => ?_, fun s q m hp => ?_⟩
  · obtain ⟨cls, verb, g, body, he, hc, -, always⟩ := exec_request s h form
    exact answers_gated hp he hc (gateRefusal_startup startup fun hg => other (always.1 hg))
  · obtain ⟨cls, verb, g, body, he, hc, lockable, -⟩ := exec_request s h (formed_of_locked h locked)
    obtain rfl := lockable.2 locked
    exact answers_gated serves.2 he hc (gateRefusal_locked serves override)
  · have answered := answers_effect (c := .profileStage q m []) (g := .always) (body := refuse .length) 2 0 hp rfl rfl rfl rfl rfl rfl
    rwa [s.untaken_taking] at answered

end Sys2Proof.Machine
end

section
/-! SUPPORT. Staging (R51, R52). -/

namespace Sys2Proof.Machine

theorem valueRefused_loudness {v : Int} : valueRefused .loudness v = false ↔ v = 0 ∨ v = 1 := by
  simp only [valueRefused, Bool.and_eq_false_iff, bne_eq_false_iff_eq]

theorem valueRefused_trafficMode {v : Int} : valueRefused .trafficMode v = false ↔ 0 ≤ v ∧ v ≤ 2 := by
  simp only [valueRefused]
  constructor
  · intro h
    unfold trafficModeOf at h
    split at h <;> simp at h ⊢
  · rintro ⟨low, high⟩
    obtain rfl | rfl | rfl : v = 0 ∨ v = 1 ∨ v = 2 := by omega
    all_goals rfl

/-- R51, R52: a value that is not refused is clamped to its field's range. -/
theorem stagedValue_eq {f : ProfileField} {v : Int} (h : valueRefused f v = false) :
    stagedValue f v = max (fieldBounds f).1 (min (fieldBounds f).2 v) := by
  cases f with
  | loudness => rcases valueRefused_loudness.1 h with rfl | rfl <;> rfl
  | trafficMode =>
    obtain ⟨low, high⟩ := valueRefused_trafficMode.1 h
    exact (by omega : v = max 0 (min 2 v))
  | _ => exact clampInt_eq_max_min (by decide) v

/-- R52: a field reads the value that it took. -/
theorem Profile.value_write_same (p : Profile) {f : ProfileField} {v : Int} (h : valueRefused f v = false) :
    (p.write f (stagedValue f v)).value f = stagedValue f v := by
  cases f with
  | loudness => rcases valueRefused_loudness.1 h with rfl | rfl <;> rfl
  | trafficMode =>
    obtain ⟨low, high⟩ := valueRefused_trafficMode.1 h
    obtain rfl | rfl | rfl : v = 0 ∨ v = 1 ∨ v = 2 := by omega
    all_goals rfl
  | balance | fade | cap => rfl
  | _ =>
    rw [stagedValue_eq h]
    exact Int.toNat_of_nonneg (by simp only [fieldBounds]; omega)

/-- R52: and leaves the others. -/
theorem Profile.value_write_ne (p : Profile) {f g : ProfileField} (v : Int) (h : g ≠ f) : (p.write f v).value g = p.value g := by
  cases f <;> cases g <;> first | rfl | contradiction

theorem Profile.value_writeAll_ne {g : ProfileField} (l : List (ProfileField × Int)) :
    ∀ p : Profile, g ∉ l.map Prod.fst → (p.writeAll l).value g = p.value g := by
  induction l with
  | nil => exact fun _ _ => rfl
  | cons x l ih =>
    intro p h
    obtain ⟨first, rest⟩ := List.ne_and_not_mem_of_not_mem_cons h
    exact (ih _ rest).trans (p.value_write_ne _ first)

theorem Profile.value_writeAll_mem {f : ProfileField} {v : Int} (l : List (ProfileField × Int)) :
    ∀ p : Profile, (l.map Prod.fst).Nodup → (∀ x ∈ l, valueRefused x.1 x.2 = false) → (f, v) ∈ l →
      (p.writeAll l).value f = stagedValue f v := by
  induction l with
  | nil => exact fun _ _ _ h => absurd h (List.not_mem_nil)
  | cons x l ih =>
    intro p nodup accepted h
    obtain ⟨fresh, nodup⟩ := List.nodup_cons.1 nodup
    rcases List.mem_cons.1 h with rfl | h
    · exact (Profile.value_writeAll_ne l _ fresh).trans (p.value_write_same (accepted _ (.head _)))
    · exact ih _ nodup (fun y hy => accepted y (.tail _ hy)) h

theorem namedFields_map (l : List (ProfileField × Int)) : namedFields (l.map fun x => (some x.1, x.2)) = some l := by
  induction l with
  | nil => rfl
  | cons x l ih => simp [namedFields, ih]

theorem eq_map_of_namedFields (l : List (Option ProfileField × Int)) :
    ∀ {r}, namedFields l = some r → l = r.map fun x => (some x.1, x.2) := by
  induction l with
  | nil => rintro r ⟨⟩; rfl
  | cons x l ih =>
    intro r h
    match x, h with
    | (some f, v), h =>
      obtain ⟨r, hr, rfl⟩ := Option.map_eq_some_iff.1 h
      rw [ih hr]
      rfl

theorem namedTwice_eq_false {l : List (ProfileField × Int)} : namedTwice l = false ↔ (l.map Prod.fst).Nodup := by
  induction l with
  | nil => simp [namedTwice]
  | cons x l ih =>
    simp only [namedTwice, Bool.or_eq_false_iff, ih, List.map_cons, List.nodup_cons, List.any_eq_false, List.mem_map, beq_iff_eq,
      not_exists, not_and]

/-- R52: what PROFILE.STAGE refuses of a list whose records all name a field. -/
def stagingRefused (l : List (ProfileField × Int)) : Prop :=
  namedTwice l ∨ l.any (fun x => valueRefused x.1 x.2)

theorem not_stagingRefused {l : List (ProfileField × Int)} :
    ¬ stagingRefused l ↔ (l.map Prod.fst).Nodup ∧ ∀ x ∈ l, valueRefused x.1 x.2 = false := by
  simp [stagingRefused, namedTwice_eq_false]

/-- R52: PROFILE.STAGE with a record, as RUN serves it. -/
def stageBody (m : Nat) (l : List (Option ProfileField × Int)) (s : State) : Reply × State :=
  match zoneOf m, namedFields l with
  | some z, some r =>
    if namedTwice r ∨ r.any (fun x => valueRefused x.1 x.2) then refuse .range s
    else report (.stagedFields (stagedReport r)) (s.stage z r)
  | _, _ => refuse .range s

theorem execProfileStage_eq {l : List (Option ProfileField × Int)} (h : l ≠ []) (q : Byte) (m : Nat) (s : State) :
    exec (.profileStage q m l) s = serve 2 0 q .runOnly s (stageBody m l) :=
  if_neg (by simpa using h)

theorem stageBody_accepted {m : Nat} {z : Zone} {l : List (ProfileField × Int)} (hz : zoneOf m = some z) (h : ¬ stagingRefused l)
    (s : State) : stageBody m (l.map fun x => (some x.1, x.2)) s = report (.stagedFields (stagedReport l)) (s.stage z l) := by
  unfold stageBody
  rw [hz, namedFields_map]
  exact if_neg h

theorem stageBody_refused {m : Nat} {l : List (Option ProfileField × Int)}
    (h : ∀ z r, zoneOf m = some z → namedFields l = some r → stagingRefused r) (s : State) : stageBody m l s = refuse .range s := by
  unfold stageBody
  split
  next z r hz hr => exact if_pos (h z r hz hr)
  next => rfl

/-- Settles O28: by induction on the list of records, which the staging folds over the profile. -/
theorem profileStageWritesTheNamedFields : Obligations.ProfileStageWritesTheNamedFields := by
  refine ⟨fun s q m z l serves hz some_ nodup loudness traffic => ?_, fun s q m l serves some_ bad => ?_⟩
  · have accepted : ∀ x ∈ l, valueRefused x.1 x.2 = false := by
      rintro ⟨f, v⟩ hx
      cases f with
      | loudness => exact valueRefused_loudness.2 (loudness v hx)
      | trafficMode => exact valueRefused_trafficMode.2 (traffic v hx)
      | _ => rfl
    have value {f v} (h : (f, v) ∈ l) := Profile.value_writeAll_mem l (s.bank.staged.get z) nodup accepted h
    have records : l.map (fun x => (x.1, ((s.bank.staged.get z).writeAll l).value x.1,
        decide (((s.bank.staged.get z).writeAll l).value x.1 ≠ x.2))) = stagedReport l :=
      List.map_congr_left fun x hx => by rw [value (f := x.1) (v := x.2) hx]
    refine ⟨(s.bank.staged.get z).writeAll l, ?_, fun f v h => (value h).trans (stagedValue_eq (accepted _ h)),
      fun f h => Profile.value_writeAll_ne l _ h⟩
    rw [records]
    exact answers_portless 2 0 serves (execProfileStage_eq (by simpa using some_) q m s) rfl
      (stageBody_accepted hz (not_stagingRefused.2 ⟨nodup, accepted⟩) s.taking) rfl
  · refine answers_runOnly 2 0 serves (execProfileStage_eq some_ q m s) rfl (stageBody_refused (fun z r hz hr => ?_) s.taking)
    by_contra ok
    obtain ⟨nodup, accepted⟩ := not_stagingRefused.1 ok
    obtain rfl := eq_map_of_namedFields l hr
    have mem {f v} (h : (some f, v) ∈ r.map fun x => (some x.1, x.2)) : valueRefused f v = false := by
      obtain ⟨x, hx, hf⟩ := List.mem_map.1 h
      simp only [Prod.mk.injEq, Option.some.injEq] at hf
      exact hf.1 ▸ hf.2 ▸ accepted x hx
    rcases bad with zone | ⟨v, h⟩ | twice | ⟨v, h, bad⟩ | ⟨v, h, bad⟩
    · simp [zoneOf_isNone zone] at hz
    · simp at h
    · refine twice ?_
      rw [List.map_map]
      exact (List.map_map (g := some) (f := Prod.fst) (l := r)) ▸ nodup.map (Option.some_injective _)
    · have range := valueRefused_loudness.1 (mem h)
      omega
    · have range := valueRefused_trafficMode.1 (mem h)
      omega

end Sys2Proof.Machine
end

section
/-! SUPPORT. Of the watches, what the work on the claims evaluates is those on FREE_PAGES alone, which a capture's clip changes (R143, R179);
it leaves the vehicle port. -/

namespace Sys2Proof.Machine

/-- A watch on another quantity than FREE_PAGES stands as it did, and so does the vehicle port. -/
structure TellsPages (s t : State) : Prop where
  watches : ∀ (i : Nat) (w : Watch), s.wat.slots[i]? = some (some w) → w.quantity ≠ .freePages → t.wat.slots[i]? = some (some w)
  veh : t.veh = s.veh

namespace TellsPages

theorem of_same {s t : State} (wat : t.wat = s.wat) (veh : t.veh = s.veh) : TellsPages s t :=
  ⟨fun _ _ h _ => wat ▸ h, veh⟩

theorem refl (s : State) : TellsPages s s := of_same rfl rfl

theorem trans {s t u : State} (h : TellsPages s t) (h' : TellsPages t u) : TellsPages s u :=
  ⟨fun i w x q => h'.watches i w (h.watches i w x q) q, h'.veh.trans h.veh⟩

theorem same {s t u : State} (h : TellsPages s t) (wat : u.wat = t.wat) (veh : u.veh = t.veh) : TellsPages s u :=
  h.trans (of_same wat veh)

end TellsPages

theorem State.raise_tellsPages (s : State) (n : Notice) : TellsPages s (s.raise n) := .of_same rfl rfl

theorem State.setVoice_tellsPages (s : State) (v : Voice) (r : VoiceRec) : TellsPages s (s.setVoice v r) := .of_same rfl rfl

theorem State.setUse_tellsPages (s : State) (n : Nat) (u : UseMarker) : TellsPages s (s.setUse n u) := .of_same rfl rfl

/-- A change of the pool with its delivery. -/
theorem State.poolChange_tellsPages (s : State) (f : Pool → Pool) (old : Nat) : TellsPages s ((s.mapPool f).deliverFree old) := by
  unfold State.deliverFree State.deliverChange
  split
  · exact .of_same rfl rfl
  · refine ⟨fun i w h hq => ?_, rfl⟩
    have told := s.wat.deliver_watch .freePages ((s.mapPool f).pool.freeCount : Int) h
    rwa [if_neg hq] at told

theorem State.attemptSlot_tellsPages (s : State) (o : LinkOwner) : TellsPages s (s.attemptSlot o) := by
  unfold State.attemptSlot
  split
  · split
    · exact (s.poolChange_tellsPages _ _).trans (State.raise_tellsPages _ _)
    · exact .refl s
  · exact .refl s

theorem State.freeClip_tellsPages (s : State) (n : Nat) : TellsPages s (s.freeClip n) :=
  (s.poolChange_tellsPages _ _).trans ((State.attemptSlot_tellsPages _ .vehicle).trans (State.attemptSlot_tellsPages _ .control))

theorem State.beginCapture_tellsPages (s : State) (p : Path) : TellsPages s (s.beginCapture p) := by
  unfold State.beginCapture
  split
  · rename_i c t h
    unfold State.captureOpen at h
    split at h
    · cases h
    · split at h
      · cases h
      · split at h
        · cases h
        · obtain ⟨-, rfl⟩ := Prod.mk.inj (Option.some.inj h)
          exact (s.poolChange_tellsPages _ _).same rfl rfl
  · exact .of_same rfl rfl

theorem ClaimChange.tellsPages {s t : State} (h : ClaimChange s t) : TellsPages s t := by
  cases h with
  | setZone | mapRend | raise => exact .of_same rfl rfl
  | voiceReport v =>
    unfold State.voiceReport
    dsimp only
    split
    · exact .of_same rfl rfl
    · exact .of_same rfl rfl
    · exact .refl s
  | noteHeld p =>
    unfold State.noteHeld
    dsimp only
    split
    · exact .refl s
    · exact .of_same rfl rfl
  | captureFor p =>
    unfold State.captureFor
    split
    · exact s.beginCapture_tellsPages p
    · exact .refl s

theorem ClaimWork.tellsPages {s t : State} (h : ClaimWork s t) : TellsPages s t :=
  h.keep TellsPages.refl (fun _ _ _ => TellsPages.trans) (fun _ _ => ClaimChange.tellsPages)

theorem State.file_work (s : State) (z : Zone) (src : Source) (shadow : Bool) : ClaimWork s (s.file z src shadow) :=
  (s.fileTold_work z src shadow).trans (State.captureAfter_work _ _)

/-- R140: the claims follow the taking zones, which the announcement's record holds. -/
inductive TakingChange : State → State → Prop
  | claims {s t : State} (h : ClaimChange s t) : TakingChange s t
  | setAnn (s : State) (p : Path) (a : Announcement) : TakingChange s (s.setAnn p a)

/-- A chain of changes of the claims and the announcements' records. -/
abbrev TakingWork : State → State → Prop := Relation.ReflTransGen TakingChange

theorem ClaimWork.taking {s t : State} (h : ClaimWork s t) : TakingWork s t :=
  Relation.ReflTransGen.mono (fun _ _ => TakingChange.claims) _ _ h

theorem State.takeZone_work (s : State) (p : Path) (was now : ZoneSet) (z : Zone) : ClaimWork s (s.takeZone p was now z) := by
  unfold State.takeZone
  split
  · exact s.file_work z _ _
  · split
    · exact s.withdraw_work z _
    · exact .refl

theorem State.takingPath_work (s : State) (p : Path) : TakingWork s (s.takingPath p) := by
  unfold State.takingPath
  dsimp only
  split
  · exact .refl
  · exact (((Relation.ReflTransGen.single (.setAnn ..)).trans (State.takeZone_work _ p _ _ .cabin).taking).trans
      (State.takeZone_work _ p _ _ .rearL).taking).trans (State.takeZone_work _ p _ _ .rearR).taking

theorem State.takingUpdate_work (s : State) : TakingWork s s.takingUpdate :=
  (s.takingPath_work .p1).trans (State.takingPath_work _ .p2)

theorem TakingWork.keep {R : State → State → Prop} (refl : ∀ s, R s s) (trans : ∀ s t u, R s t → R t u → R s u)
    (one : ∀ s t, TakingChange s t → R s t) {s t : State} (h : TakingWork s t) : R s t := by
  induction h with
  | refl => exact refl s
  | tail _ hc ih => exact trans _ _ _ ih (one _ _ hc)

theorem TakingWork.tellsPages {s t : State} (h : TakingWork s t) : TellsPages s t :=
  h.keep TellsPages.refl (fun _ _ _ => TellsPages.trans) fun _ _ hc => by
    cases hc with
    | claims hc => exact hc.tellsPages
    | setAnn => exact .of_same rfl rfl

theorem State.setVoice_voice (s : State) (v : Voice) (r : VoiceRec) : (s.setVoice v r).voice v = r := by cases v <;> rfl

theorem State.setVoice_voice_ne (s : State) {v y : Voice} (h : y ≠ v) (r : VoiceRec) : (s.setVoice y r).voice v = s.voice v := by
  cases y <;> cases v <;> first | rfl | contradiction

/-- R17: what a change in the work on claims does to the voices: it tells some whether they are heard. -/
theorem ClaimChange.voice {s t : State} (h : ClaimChange s t) (v : Voice) : t.voice v = s.voice v ∨ ∃ b, t.voice v = (s.voice v).told b := by
  cases h with
  | setZone | mapRend | raise => exact .inl rfl
  | voiceReport y =>
    rw [State.voiceReport_eq]
    by_cases e : y = v
    · subst e
      exact .inr ⟨_, s.setVoice_voice y _⟩
    · exact .inl (s.setVoice_voice_ne e _)
  | noteHeld p => exact .inl (by simp only [State.voice, State.noteHeld_voc])
  | captureFor p =>
    obtain ⟨-, -, -, voc⟩ := s.captureFor_rest p
    exact .inl (by simp only [State.voice, voc])

/-- R86: the entries of a voice are not the claims' concern. -/
theorem TakingWork.queue {s t : State} (h : TakingWork s t) (v : Voice) : (t.voice v).queue = (s.voice v).queue :=
  h.keep (R := fun s t => (t.voice v).queue = (s.voice v).queue) (fun _ => rfl) (fun _ _ _ h h' => h'.trans h) fun s t hc => by
    cases hc with
    | claims hc =>
      rcases hc.voice v with h | ⟨b, h⟩
      · exact congrArg VoiceRec.queue h
      · exact (congrArg VoiceRec.queue h).trans rfl
    | setAnn => rfl

/-- R17: a voice that neither plays nor waits for a zone does not hear of the claims. -/
theorem ClaimWork.voice_still {s t : State} (h : ClaimWork s t) {v : Voice} (playing : (s.voice v).state ≠ .playing)
    (waiting : (s.voice v).state ≠ .waitingZone) : t.voice v = s.voice v := by
  have told (b : Bool) : (s.voice v).told b = s.voice v := by
    cases b <;> simp [VoiceRec.told, playing, waiting]
  induction h with
  | refl => rfl
  | tail _ hc ih =>
    rcases hc.voice v with h | ⟨b, h⟩
    · exact h.trans ih
    · rw [h, ih, told]

end Sys2Proof.Machine
end

section
/-! SUPPORT. The take copy (R59, R60): CURRENT and the take state, the memories, the notice, the deliveries, and the taking zones. -/

namespace Sys2Proof.Machine

/-- R59: a zone's STAGED profile is its CURRENT one, and its take state is IDLE. -/
def Bank.took (b : Bank) (z : Zone) : Bank := { b with current := b.current.set z (b.staged.get z), take := b.take.set z .idle }

@[simp] theorem Bank.took_current_same (b : Bank) (z : Zone) : (b.took z).current.get z = b.staged.get z :=
  PerZone.get_set_same ..

@[simp] theorem Bank.took_take_same (b : Bank) (z : Zone) : (b.took z).take.get z = .idle := PerZone.get_set_same ..

theorem Bank.took_current_ne (b : Bank) {z y : Zone} (h : z ≠ y) : (b.took z).current.get y = b.current.get y :=
  PerZone.get_set_ne _ _ h

theorem Bank.took_take_ne (b : Bank) {z y : Zone} (h : z ≠ y) : (b.took z).take.get y = b.take.get y :=
  PerZone.get_set_ne _ _ h

/-- R50, R59: the section memories after a take of a zone from `old` to `new`. -/
def tookSections (m : PerZone (List (List SectionMem))) (z : Zone) (old new : Profile) : PerZone (List (List SectionMem)) :=
  if old.eqPreset ≠ new.eqPreset ∨ (old.loudness ≠ new.loudness ∧ z.rear = false) then m.set z [] else m

/-- R59: and the shelf's. -/
def tookShelf (m : PerZone (List SectionMem)) (z : Zone) (old new : Profile) : PerZone (List SectionMem) :=
  if old.loudness ≠ new.loudness ∧ z.rear = false then m.set z [] else m

/-- R59: the memories after a take of a zone from `old` to `new`. -/
def Renderer.took (r : Renderer) (z : Zone) (old new : Profile) : Renderer :=
  { r with eqMem := tookSections r.eqMem z old new, shelfMem := tookShelf r.shelfMem z old new }

theorem PerZone.set_set {α : Type} (p : PerZone α) (z : Zone) (a b : α) : (p.set z a).set z b = p.set z b := by cases z <;> rfl

theorem State.takeMemories_eq (s : State) (z : Zone) (old new : Profile) :
    s.takeMemories z old new = s.mapRend (·.took z old new) := by
  unfold State.takeMemories
  congr 1
  funext r
  unfold Renderer.took tookSections tookShelf
  by_cases eq : old.eqPreset = new.eqPreset <;> by_cases loud : old.loudness = new.loudness <;> cases z.rear <;>
    simp [eq, loud, Renderer.clearEq, Renderer.clearShelf, PerZone.set_set]

/-- R59: the bank and the memories after a take, before anything is told of it. -/
def State.copied (s : State) (z : Zone) : State :=
  { s with bank := s.bank.took z, rend := s.rend.took z (s.bank.current.get z) (s.bank.staged.get z) }

/-- R179: the deliveries leave all but the watches. -/
theorem State.deliverVolumes_eq (s base : State) (z : Zone) :
    s.deliverVolumes base z = { s with wat := (s.deliverVolumes base z).wat } := by
  simp only [State.deliverVolumes, Kind.all, List.foldl_cons, List.foldl_nil, State.deliverVolume_eq]

/-- R59, R60: and the deliveries, against `base`, and the notice to the canceller. -/
def State.copyTold (s base : State) (z : Zone) : State :=
  { s.copied z with
    wat := ((s.copied z).deliverVolumes base z).wat
    call :=
      { s.call with
        reconverge :=
          s.call.reconverge || decide (z = .cabin ∧ (s.bank.current.get z).eqPreset ≠ (s.bank.staged.get z).eqPreset) } }

/-- R59: a copy that changes nothing hands nothing on. -/
theorem State.takeCopyFrom_same {s : State} {z : Zone} (base : State) (h : s.bank.current.get z = s.bank.staged.get z) :
    s.takeCopyFrom base z = { s with bank := s.bank.took z } := by
  simp only [State.takeCopyFrom, if_pos h]
  rfl

/-- R59: what a copy that changes the traffic mode does after the rest, the taking zones' work. -/
def State.trafficTaken (s t : State) : State := ((t.takingUpdate.noteHeld .p1).noteHeld .p2).captureAfter s

theorem State.trafficTaken_work (s t : State) : TakingWork t (s.trafficTaken t) :=
  t.takingUpdate_work.trans (((ClaimWork.taking (.single (.noteHeld _ .p1))).trans (ClaimWork.taking (.single (.noteHeld _ .p2)))).trans
    (State.captureAfter_work _ s).taking)

theorem State.trafficTaken_frame (s t : State) : ClaimFrame t (s.trafficTaken t) := by
  simp [State.trafficTaken, ClaimFrame]

theorem State.takeCopyFrom_eq {s : State} {z : Zone} (base : State) (h : s.bank.current.get z ≠ s.bank.staged.get z) :
    s.takeCopyFrom base z =
      if (s.bank.current.get z).trafficMode = (s.bank.staged.get z).trafficMode then s.copyTold base z
      else s.trafficTaken (s.copyTold base z) := by
  have copied : ((s.mapBank fun b => { b with current := b.current.set z (s.bank.staged.get z) }).setTake z .idle).takeMemories z
      (s.bank.current.get z) (s.bank.staged.get z) = s.copied z := by
    rw [State.takeMemories_eq]
    rfl
  have told : (if z = .cabin ∧ (s.bank.current.get z).eqPreset ≠ (s.bank.staged.get z).eqPreset then
      ((s.copied z).deliverVolumes base z).reconverge else (s.copied z).deliverVolumes base z) = s.copyTold base z := by
    rw [State.deliverVolumes_eq]
    unfold State.copyTold
    split
    next notice => rw [decide_eq_true notice, Bool.or_true]; rfl
    next notice => rw [decide_eq_false notice, Bool.or_false]; rfl
  simp only [State.takeCopyFrom, if_neg h, copied, told]
  rfl

theorem State.takeCopyFrom_told {s : State} {z : Zone} (base : State) (h : s.bank.current.get z ≠ s.bank.staged.get z) :
    TakingWork (s.copyTold base z) (s.takeCopyFrom base z) ∧ ClaimFrame (s.copyTold base z) (s.takeCopyFrom base z) := by
  rw [State.takeCopyFrom_eq base h]
  split
  · exact ⟨.refl, by simp [ClaimFrame]⟩
  · exact ⟨s.trafficTaken_work _, s.trafficTaken_frame _⟩

theorem tookSections_self (m : PerZone (List (List SectionMem))) (z : Zone) (p : Profile) : tookSections m z p p = m := by
  simp [tookSections]

theorem tookShelf_self (m : PerZone (List SectionMem)) (z : Zone) (p : Profile) : tookShelf m z p p = m := by
  simp [tookShelf]

/-- R59, R60: what a take copy makes of the registers that it writes. -/
theorem State.takeCopyFrom_registers (s base : State) (z : Zone) :
    (s.takeCopyFrom base z).bank = s.bank.took z ∧
    (s.takeCopyFrom base z).rend.eqMem = tookSections s.rend.eqMem z (s.bank.current.get z) (s.bank.staged.get z) ∧
    (s.takeCopyFrom base z).rend.shelfMem = tookShelf s.rend.shelfMem z (s.bank.current.get z) (s.bank.staged.get z) ∧
    (s.takeCopyFrom base z).call = { s.call with
      reconverge := s.call.reconverge || decide (z = .cabin ∧ (s.bank.current.get z).eqPreset ≠ (s.bank.staged.get z).eqPreset) } ∧
    (s.takeCopyFrom base z).veh = s.veh := by
  by_cases h : s.bank.current.get z = s.bank.staged.get z
  · rw [State.takeCopyFrom_same base h, h]
    simp [tookSections_self, tookShelf_self]
  · obtain ⟨work, frame⟩ := State.takeCopyFrom_told base h
    have veh := work.tellsPages.veh
    simp only [ClaimFrame] at frame
    refine ⟨?_, ?_, ?_, ?_, veh⟩ <;> simp only [frame] <;> rfl

theorem State.takeCopyFrom_queue (s base : State) (z : Zone) (v : Voice) :
    ((s.takeCopyFrom base z).voice v).queue = (s.voice v).queue := by
  by_cases h : s.bank.current.get z = s.bank.staged.get z
  · rw [State.takeCopyFrom_same base h]
    rfl
  · exact (State.takeCopyFrom_told base h).1.queue v

theorem State.deliverVolume_watch_other (s old new : State) (z : Zone) (k : Kind) {i : Nat} {w : Watch}
    (h : s.wat.slots[i]? = some (some w)) (hq : w.quantity ≠ .volume z k) :
    (s.deliverVolume old new z k).wat.slots[i]? = some (some w) := by
  have told := s.wat.deliver_watch (.volume z k) (new.volFigure z k) h
  rw [if_neg hq] at told
  rw [State.deliverVolume_eq]
  dsimp only
  split
  · exact h
  · exact told

/-- R179: what a watch on a VOLUME becomes at a delivery of its zone. -/
def Watch.volumeTold (w : Watch) (old new : State) (z : Zone) (k : Kind) : Watch :=
  if old.volSetting z k = new.volSetting z k then w else (evalWatch (new.volFigure z k) w).1

theorem Watch.volumeTold_quantity (w : Watch) (old new : State) (z : Zone) (k : Kind) :
    (w.volumeTold old new z k).quantity = w.quantity := by
  unfold Watch.volumeTold
  split
  · rfl
  · exact evalWatch_quantity _ w

theorem State.deliverVolume_watch_own (s old new : State) (z : Zone) (k : Kind) {i : Nat} {w : Watch}
    (h : s.wat.slots[i]? = some (some w)) (hq : w.quantity = .volume z k) :
    (s.deliverVolume old new z k).wat.slots[i]? = some (some (w.volumeTold old new z k)) := by
  have told := s.wat.deliver_watch (.volume z k) (new.volFigure z k) h
  rw [if_pos hq] at told
  rw [State.deliverVolume_eq]
  unfold Watch.volumeTold
  dsimp only
  split
  · exact h
  · exact told

/-- R179: the deliveries of another zone leave a watch on a VOLUME. -/
theorem State.deliverVolumes_watch_ne (s base : State) {z y : Zone} (zone : y ≠ z) {k : Kind} {i : Nat} {w : Watch}
    (h : s.wat.slots[i]? = some (some w)) (hq : w.quantity = .volume y k) :
    (s.deliverVolumes base z).wat.slots[i]? = some (some w) := by
  have other (j : Kind) : w.quantity ≠ .volume z j := by
    rw [hq]
    exact fun e => zone (Quantity.volume.inj e).1
  exact State.deliverVolume_watch_other _ base s z .call (State.deliverVolume_watch_other _ base s z .voice
    (s.deliverVolume_watch_other base s z .media h (other _)) (other _)) (other _)

/-- R179: those of its zone evaluate it where its kind's setting has changed. -/
theorem State.deliverVolumes_watch (s base : State) (z : Zone) {k : Kind} {i : Nat} {w : Watch}
    (h : s.wat.slots[i]? = some (some w)) (hq : w.quantity = .volume z k) :
    (s.deliverVolumes base z).wat.slots[i]? = some (some (w.volumeTold base s z k)) := by
  have told := (w.volumeTold_quantity base s z k).trans hq
  have own (t : State) (h : t.wat.slots[i]? = some (some w)) := t.deliverVolume_watch_own base s z k h hq
  have before (t : State) (j : Kind) (ne : k ≠ j) (h : t.wat.slots[i]? = some (some w)) :=
    t.deliverVolume_watch_other base s z j h (by rw [hq]; exact fun e => ne (Quantity.volume.inj e).2)
  have after (t : State) (j : Kind) (ne : k ≠ j) (h : t.wat.slots[i]? = some (some (w.volumeTold base s z k))) :=
    t.deliverVolume_watch_other base s z j h (by rw [told]; exact fun e => ne (Quantity.volume.inj e).2)
  cases k with
  | media => exact after _ .call (by decide) (after _ .voice (by decide) (own s h))
  | voice => exact after _ .call (by decide) (own _ (before s .media (by decide) h))
  | call => exact own _ (before _ .voice (by decide) (before s .media (by decide) h))

/-- R59, R179: a watch on a VOLUME after a take copy. -/
theorem State.takeCopyFrom_watch {s : State} {z : Zone} (base : State) (changed : s.bank.current.get z ≠ s.bank.staged.get z) {k : Kind}
    {i : Nat} {w : Watch} (h : s.wat.slots[i]? = some (some w)) (hq : w.quantity = .volume z k) :
    (s.takeCopyFrom base z).wat.slots[i]? = some (some (w.volumeTold base (s.copied z) z k)) := by
  have told := (w.volumeTold_quantity base (s.copied z) z k).trans hq
  exact (State.takeCopyFrom_told base changed).1.tellsPages.watches i _
    (State.deliverVolumes_watch (s.copied z) base z h hq) (by rw [told]; exact Quantity.noConfusion)

theorem State.takeCopyFrom_watch_ne (s base : State) {z y : Zone} (zone : y ≠ z) {k : Kind} {i : Nat} {w : Watch}
    (h : s.wat.slots[i]? = some (some w)) (hq : w.quantity = .volume y k) :
    (s.takeCopyFrom base z).wat.slots[i]? = some (some w) := by
  by_cases changed : s.bank.current.get z = s.bank.staged.get z
  · rwa [State.takeCopyFrom_same base changed]
  · exact (State.takeCopyFrom_told base changed).1.tellsPages.watches i w
      (State.deliverVolumes_watch_ne (s.copied z) base zone h hq) (by rw [hq]; exact Quantity.noConfusion)

/-- R25, R179: a VOLUME setting is read of the step, the curve index and the curves. -/
theorem State.volSetting_eq_iff {s t : State} {z : Zone} {k : Kind} (curves : t.bank.curves = s.bank.curves) :
    s.volSetting z k = t.volSetting z k ↔
      (s.rend.volume.get z).get k = (t.rend.volume.get z).get k ∧ (s.profile z).curve k = (t.profile z).curve k := by
  constructor
  · intro h
    exact ⟨congrArg Prod.fst h, congrArg (fun x => x.2.1) h⟩
  · rintro ⟨step, curve⟩
    simp only [State.volSetting, State.volFigure, State.vol, Bank.curveAt, step, curve, curves]

/-- R59: a take on its own changes the setting of a kind exactly where its curve index changes. -/
theorem State.copied_volSetting (s : State) (z : Zone) (k : Kind) :
    s.volSetting z k = (s.copied z).volSetting z k ↔ (s.bank.current.get z).curve k = (s.bank.staged.get z).curve k := by
  have profile : (s.copied z).profile z = s.bank.staged.get z := s.bank.took_current_same z
  refine (State.volSetting_eq_iff (s := s) (t := s.copied z) rfl).trans ?_
  rw [profile]
  exact and_iff_right rfl

theorem State.volFigure_congr {s t : State} (volume : t.rend.volume = s.rend.volume) (bank : t.bank = s.bank) (z : Zone) (k : Kind) :
    t.volFigure z k = s.volFigure z k := by
  simp only [State.volFigure, State.vol, State.profile, volume, bank]

end Sys2Proof.Machine
end

section
/-! SUPPORT. PROFILE.TAKE, PROFILE.RELEASE and PROFILE.DISCARD. -/

namespace Sys2Proof.Machine

/-- R59, R60: what a take of a zone makes of the state. -/
def Took (s u : State) (z : Zone) : Prop :=
  let old := s.bank.current.get z
  let new := s.bank.staged.get z
  let b : Bank := { s.bank with current := s.bank.current.set z new, take := s.bank.take.set z .idle }
  CallFrame s u ∧ u.bank = b ∧ (old = new → u = { s with bank := b }) ∧
  u.rend.eqMem = (if old.eqPreset ≠ new.eqPreset ∨ (old.loudness ≠ new.loudness ∧ z.rear = false) then s.rend.eqMem.set z []
    else s.rend.eqMem) ∧
  u.rend.shelfMem = (if old.loudness ≠ new.loudness ∧ z.rear = false then s.rend.shelfMem.set z [] else s.rend.shelfMem) ∧
  u.call = { s.call with reconverge := s.call.reconverge || decide (z = .cabin ∧ old.eqPreset ≠ new.eqPreset) } ∧
  (∀ (i : Nat) (w : Watch) y k, s.wat.slots[i]? = some (some w) → w.quantity = .volume y k →
    u.wat.slots[i]? = some (some (if y ≠ z ∨ old.curve k = new.curve k then w else (evalWatch (u.volFigure y k) w).1))) ∧
  (old.trafficMode = new.trafficMode → u = { s with bank := b, call := u.call, wat := u.wat, rend := { s.rend with
    eqMem := u.rend.eqMem
    shelfMem := u.rend.shelfMem } })

theorem CallFrame.volume {s t : State} (h : CallFrame s t) : t.rend.volume = s.rend.volume := by
  simp only [CallFrame] at h
  simp only [h]

/-- R59, R179: a take on its own evaluates the watches on the VOLUMEs whose curve index it changes. -/
theorem State.takeCopy_watch (s : State) (z : Zone) {i : Nat} {w : Watch} {y : Zone} {k : Kind}
    (h : s.wat.slots[i]? = some (some w)) (hq : w.quantity = .volume y k) :
    (s.takeCopy z).wat.slots[i]? = some (some (if y ≠ z ∨ (s.bank.current.get z).curve k = (s.bank.staged.get z).curve k then w
      else (evalWatch ((s.takeCopy z).volFigure y k) w).1)) := by
  by_cases zone : y = z
  · subst zone
    obtain ⟨bank, -⟩ := s.takeCopyFrom_registers s y
    have figure : (s.takeCopy y).volFigure y k = (s.copied y).volFigure y k :=
      State.volFigure_congr (s := s.copied y) (CallFrame.volume (s.takeCopyFrom_frame s y)) bank y k
    rw [figure]
    by_cases changed : s.bank.current.get y = s.bank.staged.get y
    · rw [if_pos (.inr (by rw [changed]))]
      rwa [State.takeCopy, State.takeCopyFrom_same s changed]
    · have told : (s.takeCopy y).wat.slots[i]? = _ := State.takeCopyFrom_watch s changed h hq
      simp only [Watch.volumeTold, s.copied_volSetting y k] at told
      simpa using told
  · rw [if_pos (.inl zone)]
    exact s.takeCopyFrom_watch_ne s zone h hq

theorem State.untaken_written (s : State) (b : Bank) (c : Call) (w : Watches) (e : PerZone (List (List SectionMem)))
    (m : PerZone (List SectionMem)) :
    s.untaken { s.taking with bank := b, call := c, wat := w, rend := { s.taking.rend with eqMem := e, shelfMem := m } } =
      { s with bank := b, call := c, wat := w, rend := { s.rend with eqMem := e, shelfMem := m } } :=
  State.untaken_of_port rfl

/-- R59: without a change of the traffic mode, what a take writes. -/
theorem State.takeCopy_written {s : State} {z : Zone} (h : (s.bank.current.get z).trafficMode = (s.bank.staged.get z).trafficMode) :
    ∃ c w e m, s.takeCopy z =
      { s with bank := s.bank.took z, call := c, wat := w, rend := { s.rend with eqMem := e, shelfMem := m } } := by
  by_cases same : s.bank.current.get z = s.bank.staged.get z
  · exact ⟨_, _, _, _, State.takeCopyFrom_same s same⟩
  · exact ⟨_, _, _, _, (State.takeCopyFrom_eq s same).trans (if_pos h)⟩

theorem State.takeCopy_took (s : State) (z : Zone) : Took s (s.untaken (s.taking.takeCopy z)) z := by
  obtain ⟨bank, eqMem, shelfMem, call, -⟩ := s.taking.takeCopyFrom_registers s.taking z
  refine ⟨(s.taking.takeCopy_frame z).untaken, bank, fun same => ?_, eqMem, shelfMem, call,
    fun i w y k h hq => s.taking.takeCopy_watch z h hq, fun traffic => ?_⟩
  · have copy : s.taking.takeCopy z = { s.taking with bank := s.bank.took z } := State.takeCopyFrom_same s.taking same
    exact (congrArg s.untaken copy).trans (State.untaken_of_port rfl)
  · obtain ⟨c, w, e, m, copy⟩ := State.takeCopy_written (s := s.taking) traffic
    rw [copy]
    exact s.untaken_written (s.bank.took z) c w e m

theorem exec_profileTakeNow (q : Byte) (m : Nat) (b : Bool) (s : State) :
    exec (.profileTakeNow q m b) s = execProfileTakeNow q m b s := rfl
theorem exec_profileTakeHold (q : Byte) (m : Nat) (s : State) : exec (.profileTakeHold q m) s = execProfileTakeHold q m s := rfl
theorem exec_profileRelease (q : Byte) (m : Nat) (s : State) : exec (.profileRelease q m) s = execProfileRelease q m s := rfl
theorem exec_profileDiscard (q : Byte) (m : Nat) (s : State) : exec (.profileDiscard q m) s = execProfileDiscard q m s := rfl

/-- R59: a request that takes a zone. -/
theorem answers_take {c : Instr} {s : State} {verb : Nat} {code q : Byte} {body : State → Reply × State} {z : Zone} (h : Serves s)
    (he : exec c s = serve 2 verb q .runOnly s body) (hc : codeByte 2 verb = code)
    (hb : body s.taking = report (.take .idle (some (s.taking.takeChanges z))) (s.taking.takeCopy z)) :
    ∃ u, Answers c s u code q (.done (.take .idle (some (decide (s.bank.current.get z ≠ s.bank.staged.get z))))) ∧ Took s u z :=
  ⟨_, (answers_callFrame 2 verb h.2 h.gate he hc hb (s.taking.takeCopy_frame z)).1, s.takeCopy_took z⟩

/-- Settles O29: what a take copy writes, which is all that it does where the traffic mode stays (`State.takeCopy_took`). -/
theorem takesCopyStagedIntoCurrent : Obligations.TakesCopyStagedIntoCurrent := by
  refine ⟨fun s q m z h hz => answers_take h (exec_profileTakeNow q m true s) rfl (by rw [hz]),
    fun s q m z h hz holding => answers_take h (exec_profileRelease q m s) rfl ?_,
    fun s q m z h hz free => answers_runOnly 2 3 h (exec_profileRelease q m s) rfl ?_,
    fun s q m z h hz => answers_portless 2 2 h (v := s.taking.setTake z .holding) (exec_profileTakeHold q m s) rfl (by rw [hz]; rfl) rfl,
    fun s q m h range => ⟨answers_runOnly 2 2 h (exec_profileTakeNow q m true s) rfl ?_,
      answers_runOnly 2 2 h (exec_profileTakeHold q m s) rfl ?_, answers_runOnly 2 3 h (exec_profileRelease q m s) rfl ?_⟩,
    fun s q m z h hz => answers_portless 2 4 h (v := s.taking.discard z) (exec_profileDiscard q m s) rfl (by rw [hz]; rfl) rfl,
    fun s q m h range => answers_runOnly 2 4 h (exec_profileDiscard q m s) rfl ?_,
    fun s q m startup hp => answers_gated hp (exec_profileDiscard q m s) rfl (gateRefusal_startup startup (by decide))⟩
  case refine_1 =>
    rw [hz]
    exact if_pos holding
  case refine_2 =>
    rw [hz]
    exact if_neg free
  all_goals
    rw [zoneOf_isNone range]
    rfl

end Sys2Proof.Machine
end

section
/-! SUPPORT. WATCH.SET, WATCH.CLEAR and the fires of watches (R178, R181, R182). -/

namespace Sys2Proof.Machine

theorem watchOf_eq {x : QuantityField} {y : Quantity} {t : Int} {hold : Nat} {a : ActionField} {b : WatchAction} (hx : quantityOf x = some y)
    (low : -32768 ≤ t) (high : t ≤ 32767) (one : 1 ≤ hold) (most : hold ≤ 255) (ha : actionOf a = some b) (c : WatchCond) (mode : WatchMode) :
    watchOf (some x) t (some c) hold (some mode) (some a) = some ⟨y, t, c, hold, mode, b, 0, true, none, none⟩ := by
  have known : ¬ (thresholdKnown t = false ∨ hold < 1 ∨ 255 < hold) := by
    simp only [thresholdKnown, decide_eq_false_iff_not]
    omega
  simp only [watchOf, Option.bind_some, hx, ha, if_neg known]

theorem watchOf_hold {hold : Nat} (h : hold = 0 ∨ 255 < hold) (x : Option QuantityField) (t : Int) (c : Option WatchCond)
    (mode : Option WatchMode) (a : Option ActionField) : watchOf x t c hold mode a = none := by
  have unknown : thresholdKnown t = false ∨ hold < 1 ∨ 255 < hold := by omega
  unfold watchOf
  split
  · exact if_pos unknown
  · rfl

theorem watchOf_unnamed {x : Option QuantityField} {c : Option WatchCond} {mode : Option WatchMode} {a : Option ActionField}
    (h : x.bind quantityOf = none ∨ c = none ∨ mode = none ∨ a.bind actionOf = none) (t : Int) (hold : Nat) :
    watchOf x t c hold mode a = none := by
  unfold watchOf
  split
  next hx ha => simp [hx, ha] at h
  next => rfl

theorem quantityOf_volume {z k : Nat} (h : 3 < z ∨ 2 < k) : quantityOf (.volume z k) = none := by
  rcases h with h | h
  · simp [quantityOf, zoneOf_isNone h]
  · simp [quantityOf, kindOf_isNone h]

theorem exec_watchSet (q : Byte) (n : Nat) (x : Option QuantityField) (t : Int) (c : Option WatchCond) (hold : Nat)
    (mode : Option WatchMode) (a : Option ActionField) (s : State) :
    exec (.watchSet q n x t c hold mode a) s = execWatchSet q n x t c hold mode a s := rfl
theorem exec_watchClear (q : Byte) (n : Nat) (s : State) : exec (.watchClear q n) s = execWatchClear q n s := rfl
theorem exec_watchFire (n : Nat) (s : State) : exec (.watchFire n) s = execWatchFire n s := rfl

/-- R181: a fire that a slot owes first. -/
theorem exec_watchFire_head {s : State} {n : Nat} {a : WatchAction} {l : List (Nat × WatchAction)} (run : s.port.op = .run)
    (h : s.wat.owed = (n, a) :: l) : exec (.watchFire n) s = .next ({ s with wat := { s.wat with owed := l } }.fire n a) := by
  have fires : s.watchFire n = { s with wat := { s.wat with owed := l } }.fire n a := by
    simp only [State.watchFire, h, takeOwed, if_true]
    rfl
  simp [exec_watchFire, execWatchFire, State.running, run, fires]

theorem takeOwed_isNone {n : Nat} (l : List (Nat × WatchAction)) (h : ∀ a, (n, a) ∉ l) : takeOwed n l = none := by
  induction l with
  | nil => rfl
  | cons x l ih =>
    obtain ⟨m, b⟩ := x
    have other : m ≠ n := fun e => h b (e ▸ .head _)
    simp [takeOwed, other, ih fun a ha => h a (.tail _ ha)]

theorem exec_watchFire_unowed {s : State} {n : Nat} (h : ∀ a, (n, a) ∉ s.wat.owed) : exec (.watchFire n) s = .next s := by
  simp [exec_watchFire, execWatchFire, State.watchFire, takeOwed_isNone s.wat.owed h]

/-- R57: in which take state an order of a watch is carried out. -/
def ordersFrom (release : Bool) : TakeState := if release then .holding else .idle

theorem PerZone.set_get {α : Type} (p : PerZone α) (z : Zone) : p.set z (p.get z) = p := by cases z <;> rfl

theorem State.watchOrder_due {s : State} {z : Zone} {release : Bool} (h : s.bank.take.get z = ordersFrom release) :
    s.watchOrder z release = if s.takeWaits z then s.setTake z .deferred else s.takeCopy z := by
  cases release <;> simp only [State.watchOrder, h, ordersFrom] <;> rfl

theorem State.watchOrder_other {s : State} {z : Zone} {release : Bool} (h : s.bank.take.get z ≠ ordersFrom release) :
    s.watchOrder z release = s := by
  unfold State.watchOrder
  split
  next hs => exact absurd hs h
  next hs => exact absurd hs h
  next => rfl

theorem State.takeWaits_iff (s : State) (z : Zone) : s.takeWaits z = true ↔ s.veh.override = true ∨
    (z = .cabin ∧ s.call.state = .active ∧ s.bank.staged.cabin.eqPreset ≠ s.bank.current.cabin.eqPreset) := by
  simp only [State.takeWaits, State.overrideWaits, State.callWaits, Bool.or_eq_true, Bool.and_eq_true, beq_iff_eq, bne_iff_ne, and_assoc]
  constructor
  · rintro (h | ⟨rfl, h⟩)
    · exact .inl h
    · exact .inr ⟨rfl, h⟩
  · rintro (h | ⟨rfl, h⟩)
    · exact .inl h
    · exact .inr ⟨rfl, h⟩

theorem TakingWork.tells {s t : State} (h : TakingWork s t) : OnlyTells s t :=
  h.keep OnlyTells.refl (fun _ _ _ => OnlyTells.trans) fun _ _ hc => by
    cases hc with
    | claims hc => exact hc.tells
    | setAnn => exact .of_same rfl rfl

/-- R188: a take lowers no flag. -/
theorem State.takeCopyFrom_flags (s base : State) (z : Zone) {n : Nat} (h : s.port.flags.getLsbD n = true) :
    (s.takeCopyFrom base z).port.flags.getLsbD n = true := by
  by_cases same : s.bank.current.get z = s.bank.staged.get z
  · rwa [State.takeCopyFrom_same base same]
  · exact (State.takeCopyFrom_told base same).1.tells.flags n (((s.copied z).deliverVolumes_rest base z).1 ▸ h)

/-- R57, R181: a fire whose action is an order for a zone. -/
theorem exec_watchFire_due {s : State} {n : Nat} {z : Zone} {a : WatchAction} {release : Bool} {l : List (Nat × WatchAction)}
    (run : s.port.op = .run) (slot : n ≤ 15) (h : s.wat.owed = (n, a) :: l)
    (fires : ∀ t : State, t.fire n a = (t.raise (.watch n)).watchOrder z release)
    (due : s.bank.take.get z = ordersFrom release) :
    ∃ t, exec (.watchFire n) s = .next t ∧ CallFrame s t ∧ t.port.flags.getLsbD (27 + n) = true ∧
      (s.takeWaits z = true → t.bank = { s.bank with take := s.bank.take.set z .deferred }) ∧
      (s.takeWaits z ≠ true → t.bank = s.bank.took z) := by
  let u : State := { s with wat := { s.wat with owed := l } }.raise (.watch n)
  have flag : u.port.flags.getLsbD (27 + n) = true := Port.raise_sets s.port (.watch n) (by simp only [Notice.num]; omega)
  have order : ({ s with wat := { s.wat with owed := l } } : State).fire n a =
      if s.takeWaits z then u.setTake z .deferred else u.takeCopy z := (fires _).trans (State.watchOrder_due due)
  have frame : CallFrame s (({ s with wat := { s.wat with owed := l } } : State).fire n a) :=
    State.fire_frame { s with wat := { s.wat with owed := l } } n a
  refine ⟨_, exec_watchFire_head run h, frame, ?_, fun waits => ?_, fun waits => ?_⟩
  · rw [order]
    split
    · exact flag
    · exact u.takeCopyFrom_flags u z flag
  · rw [order, if_pos waits]
    rfl
  · rw [order, if_neg waits]
    exact (u.takeCopyFrom_registers u z).1

/-- R57, R181: a fire that raises its notice and nothing more. -/
theorem exec_watchFire_raises {s : State} {n : Nat} {a : WatchAction} {l : List (Nat × WatchAction)} (run : s.port.op = .run)
    (slot : n ≤ 15) (h : s.wat.owed = (n, a) :: l)
    (fires : ({ s with wat := { s.wat with owed := l } } : State).fire n a = { s with wat := { s.wat with owed := l } }.raise (.watch n)) :
    ∃ t, exec (.watchFire n) s = .next t ∧ t = { s with port := t.port, wat := { s.wat with owed := l } } ∧
      t.port.flags.getLsbD (27 + n) = true ∧ t.port.mask = s.port.mask ∧ t.port.lastReply = s.port.lastReply := by
  obtain ⟨-, -, -, -, -, mask, -, lastReply, -⟩ := s.port.raise_frame (.watch n)
  refine ⟨_, exec_watchFire_head run h, ?_, ?_, ?_, ?_⟩
  all_goals rw [fires]
  · rfl
  · exact Port.raise_sets s.port (.watch n) (by simp only [Notice.num]; omega)
  · exact mask
  · exact lastReply

/-- Settles O58: a fire raises its notice and then is an order that `exec_watchFire_due` carries out, or nothing more. -/
theorem watchRequestsAndFires : Obligations.WatchRequestsAndFires := by
  refine ⟨fun s q n x y t c hold mode a b serves slot hx low high one most ha => ?_, fun s q n x t c hold mode a serves bad => ?_,
    fun s q n serves slot => ?_, fun s q n serves slot => ?_, fun s n l run slot owed => exec_watchFire_raises run slot owed rfl,
    fun s n z l run slot owed idle => ?_, fun s n z l run slot owed holding => ?_, fun s n z l run slot h => ?_,
    fun s n h => exec_watchFire_unowed h⟩
  · refine answers_portless 11 0 serves (v := s.taking.setWatch n _) (exec_watchSet ..) rfl ?_ rfl
    rw [if_neg (by omega), watchOf_eq hx low high one most ha]
    rfl
  · refine answers_runOnly 11 0 serves (exec_watchSet ..) rfl ?_
    split
    · rfl
    next slot =>
      have none_ : watchOf x t c hold mode a = none := by
        rcases bad with bad | bad | bad | rfl | rfl | rfl | rfl | ⟨z, k, rfl, bad⟩ | ⟨z, rfl | rfl, bad⟩
        · exact absurd bad slot
        · exact watchOf_hold (.inl bad) ..
        · exact watchOf_hold (.inr bad) ..
        · exact watchOf_unnamed (.inl rfl) ..
        · exact watchOf_unnamed (.inr (.inl rfl)) ..
        · exact watchOf_unnamed (.inr (.inr (.inl rfl))) ..
        · exact watchOf_unnamed (.inr (.inr (.inr rfl))) ..
        · exact watchOf_unnamed (.inl ((Option.bind_some ..).trans (quantityOf_volume bad))) ..
        · exact watchOf_unnamed (.inr (.inr (.inr (by simp [actionOf, zoneOf_isNone bad])))) ..
        · exact watchOf_unnamed (.inr (.inr (.inr (by simp [actionOf, zoneOf_isNone bad])))) ..
      rw [none_]
      rfl
  · exact answers_portless 11 1 serves (v := s.taking.setWatch n none) (exec_watchClear ..) rfl (if_neg (by omega)) rfl
  · exact answers_runOnly 11 1 serves (exec_watchClear ..) rfl (if_pos slot)
  · obtain ⟨t, ht, frame, flag, waits, takes⟩ := exec_watchFire_due (release := false) run slot owed (fun _ => rfl) idle
    refine ⟨t, ht, frame, flag, fun h => waits ((s.takeWaits_iff z).2 h), fun h => (takes (mt (s.takeWaits_iff z).1 h)).trans ?_⟩
    rw [Bank.took, ← idle, PerZone.set_get]
  · obtain ⟨t, ht, frame, flag, waits, takes⟩ := exec_watchFire_due (release := true) run slot owed (fun _ => rfl) holding
    exact ⟨t, ht, frame, flag, fun h => waits ((s.takeWaits_iff z).2 h), fun h => takes (mt (s.takeWaits_iff z).1 h)⟩
  · rcases h with ⟨owed, other⟩ | ⟨owed, other⟩
    · obtain ⟨t, ht, same, flag, -⟩ := exec_watchFire_raises run slot owed (State.watchOrder_other (release := false) other)
      exact ⟨t, ht, same, flag⟩
    · obtain ⟨t, ht, same, flag, -⟩ := exec_watchFire_raises run slot owed (State.watchOrder_other (release := true) other)
      exact ⟨t, ht, same, flag⟩

end Sys2Proof.Machine
end

section
/-! SUPPORT. Which sources have a claim in a zone's list, and with which shadow mark (R2, R4): what the filing and the withdrawal of
claims of the classes other than ENTERTAINMENT make of it. An evaluation leaves it. -/

namespace Sys2Proof.Machine

/-- The shadow mark of a source's claim in a list; none without one. -/
def markIn (src : Source) (cs : List Claim) : Option Bool := (cs.find? (fun c => c.source == src)).map Claim.shadow

/-- The shadow mark of a source's claim in a zone. -/
def State.mark (s : State) (z : Zone) (src : Source) : Option Bool := (s.claim z src).map Claim.shadow

theorem State.claim_isSome (s : State) (z : Zone) (src : Source) : (s.claim z src).isSome = (s.mark z src).isSome := by
  simp [State.mark]

theorem State.claim_eq_none (s : State) (z : Zone) (src : Source) : s.claim z src = none ↔ s.mark z src = none := by
  simp [State.mark]

/-! ## Lists -/

theorem markIn_labels (src : Source) (cs : List Claim) : markIn src (cs.map Claim.label) = markIn src cs := by
  rw [markIn, List.find?_map, Option.map_map]
  rfl

theorem markIn_renumber (src : Source) (cs : List Claim) (n : Nat) : markIn src (renumber n cs) = markIn src cs := by
  induction cs generalizing n with
  | nil => rfl
  | cons c cs ih =>
    have next := ih (n + 1)
    unfold markIn at next ⊢
    rw [renumber, List.find?_cons, List.find?_cons]
    by_cases h : c.source == src
    · simp [h]
    · simpa [h] using next

theorem markIn_makeRoom (src : Source) (zs : ZoneState) : markIn src zs.makeRoom.claims = markIn src zs.claims := by
  unfold ZoneState.makeRoom
  split
  · exact markIn_renumber src zs.claims 1
  · rfl

theorem markIn_insertClaim_ne {src : Source} {c : Claim} (h : c.source ≠ src) (cs : List Claim) :
    markIn src (insertClaim c cs) = markIn src cs := by
  unfold markIn
  induction cs with
  | nil => simp [insertClaim, h]
  | cons d ds ih =>
    rw [insertClaim]
    split
    · simp [h]
    · simp only [List.find?_cons]
      split
      · rfl
      · exact ih

theorem markIn_insertClaim_same {c : Claim} {cs : List Claim} (h : markIn c.source cs = none) :
    markIn c.source (insertClaim c cs) = some c.shadow := by
  unfold markIn at h ⊢
  induction cs with
  | nil => simp [insertClaim]
  | cons d ds ih =>
    rw [insertClaim]
    split
    · simp
    · rw [Option.map_eq_none_iff, List.find?_cons] at h
      split at h
      · cases h
      next other =>
        rw [List.find?_cons, other]
        exact ih (Option.map_eq_none_iff.2 h)

theorem markIn_remove_same (src : Source) (cs : List Claim) : markIn src (cs.filter fun c => c.source != src) = none := by
  simp [markIn]

theorem markIn_remove_ne {src x : Source} (h : x ≠ src) (cs : List Claim) :
    markIn x (cs.filter fun c => c.source != src) = markIn x cs := by
  rw [markIn, List.find?_filter]
  refine congrArg _ (List.find?_congr fun c _ => ?_)
  by_cases hc : c.source = x
  · simp [hc, h]
  · simp [hc]

theorem markIn_refile {src : Source} {zs : ZoneState} (h : markIn src zs.claims ≠ none) (shadow : Bool) (x : Source) :
    markIn x (zs.refile src shadow).claims = if x = src then some shadow else markIn x zs.claims := by
  unfold ZoneState.refile
  split
  next none_ => exact absurd (by rw [markIn, none_]; rfl) h
  next c hc =>
    have source : c.source = src := by simpa using List.find?_some hc
    let d : Claim := { c with cls := classOf src, shadow := shadow }
    change markIn x (insertClaim d (zs.claims.filter fun d => d.source != src)) = _
    by_cases hx : x = src
    · rw [if_pos hx, hx]
      exact source ▸ markIn_insertClaim_same (c := d) (source.symm ▸ markIn_remove_same src zs.claims)
    · rw [if_neg hx]
      exact (markIn_insertClaim_ne (c := d) (fun e => hx (e.symm.trans source)) _).trans (markIn_remove_ne hx _)

theorem markIn_insert {src : Source} {zs : ZoneState} (h : markIn src zs.claims = none) (shadow : Bool) (x : Source) :
    markIn x (zs.insert src shadow).claims = if x = src then some shadow else markIn x zs.claims := by
  let d : Claim := ⟨src, classOf src, .held, zs.makeRoom.nextArrival, shadow, false⟩
  change markIn x (insertClaim d zs.makeRoom.claims) = _
  by_cases hx : x = src
  · rw [if_pos hx, hx]
    exact markIn_insertClaim_same (c := d) ((markIn_makeRoom src zs).trans h)
  · rw [if_neg hx]
    exact (markIn_insertClaim_ne (c := d) (Ne.symm hx) _).trans (markIn_makeRoom x zs)

/-! ## Zones -/

theorem State.mark_eq (s : State) (z : Zone) (src : Source) : s.mark z src = markIn src (s.zone z).claims := rfl

theorem State.mark_of_arb {s t : State} (h : t.arb = s.arb) (z : Zone) (src : Source) : t.mark z src = s.mark z src :=
  congrArg (fun a : Arbiter => markIn src (a.zones.get z).claims) h

theorem State.setZone_mark (s : State) (z : Zone) (zs : ZoneState) (y : Zone) (src : Source) :
    (s.setZone z zs).mark y src = if y = z then markIn src zs.claims else s.mark y src := by
  split
  next h => rw [h, State.mark_eq, State.setZone_zone]
  next h => rw [State.mark_eq, State.setZone_zone_ne _ h, State.mark_eq]

theorem State.evaluateTold_mark (s : State) (z : Zone) (fresh : List Source) (filed : Bool) (y : Zone) (src : Source) :
    (s.evaluateTold z fresh filed).mark y src = s.mark y src := by
  rw [State.mark_eq, State.evaluateTold_zone_claims]
  by_cases h : y = z
  · rw [h, State.evaluating_zone, ← markIn_labels, ZoneState.evaluate_labels, markIn_labels, State.mark_eq]
  · rw [State.evaluating_zone_ne _ h, State.mark_eq]

theorem State.captureAfter_mark (s base : State) (z : Zone) (src : Source) : (s.captureAfter base).mark z src = s.mark z src := by
  obtain ⟨-, arb, -⟩ := s.captureAfter_rest base
  exact State.mark_of_arb arb z src

/-- R4: a filing of another class than ENTERTAINMENT. -/
theorem State.fileTold_mark (s : State) (z : Zone) {src : Source} (other : classOf src ≠ .entertainment) (shadow : Bool) (y : Zone)
    (x : Source) : (s.fileTold z src shadow).mark y x = if y = z ∧ x = src then some shadow else s.mark y x := by
  have written {zs : ZoneState} (fresh : List Source) (filed : Bool)
      (h : markIn x zs.claims = if x = src then some shadow else s.mark z x) :
      ((s.setZone z zs).evaluateTold z fresh filed).mark y x = if y = z ∧ x = src then some shadow else s.mark y x := by
    rw [State.evaluateTold_mark, State.setZone_mark, h]
    by_cases hy : y = z <;> by_cases hx : x = src <;> simp [hy, hx]
  unfold State.fileTold
  split
  next c hc => exact written [] false (markIn_refile (by rw [← s.mark_eq, State.mark, hc]; simp) shadow x)
  next hc =>
    split
    next h _ => exact absurd h other
    next => exact written [src] _ (markIn_insert (by rw [← s.mark_eq, State.mark, hc]; rfl) shadow x)

theorem State.file_mark (s : State) (z : Zone) {src : Source} (other : classOf src ≠ .entertainment) (shadow : Bool) (y : Zone)
    (x : Source) : (s.file z src shadow).mark y x = if y = z ∧ x = src then some shadow else s.mark y x :=
  (State.captureAfter_mark _ _ y x).trans (s.fileTold_mark z other shadow y x)

/-- R4: a withdrawal. -/
theorem State.withdrawTold_mark (s : State) (z : Zone) (src : Source) (y : Zone) (x : Source) :
    (s.withdrawTold z src).mark y x = if y = z ∧ x = src then none else s.mark y x := by
  unfold State.withdrawTold
  split
  next hc =>
    split
    next h => rw [h.1, h.2, ← s.claim_eq_none, hc]
    next => rfl
  next c hc =>
    rw [State.evaluateTold_mark]
    refine (State.setZone_mark s z _ y x).trans ?_
    by_cases hx : x = src
    · subst hx
      simp [ZoneState.remove, markIn_remove_same]
    · simp only [ZoneState.remove, markIn_remove_ne hx, hx, and_false, if_false]
      split
      next hy => rw [hy, s.mark_eq]
      next => rfl

theorem State.withdraw_mark (s : State) (z : Zone) (src : Source) (y : Zone) (x : Source) :
    (s.withdraw z src).mark y x = if y = z ∧ x = src then none else s.mark y x := by
  unfold State.withdraw
  split
  next hc =>
    split
    next h => rw [h.1, h.2, ← s.claim_eq_none, hc]
    next => rfl
  next => exact (State.captureAfter_mark _ _ y x).trans (s.withdrawTold_mark z src y x)

theorem State.withdrawAll_mark (s : State) (src : Source) (y : Zone) (x : Source) :
    (s.withdrawAll src).mark y x = if x = src then none else s.mark y x := by
  simp only [State.withdrawAll, State.withdraw_mark]
  cases y <;> by_cases hx : x = src <;> simp [hx]

/-- R151: the CALL claims of a mode; the other sources' stand. -/
theorem State.callZone_mark (s : State) (mode z y : Zone) (x : Source) :
    (s.callZone mode z).mark y x = if y = z ∧ x = .call then callClaim mode z else s.mark y x := by
  unfold State.callZone
  split
  next shadow h => rw [s.fileTold_mark z (by decide) shadow y x, h]
  next h => rw [s.withdrawTold_mark z .call y x, h]

theorem State.callClaims_mark (s : State) (mode y : Zone) (x : Source) :
    (s.callClaims mode).mark y x = if x = .call then callClaim mode y else s.mark y x := by
  rw [State.callClaims, State.captureAfter_mark]
  simp only [State.callZone_mark]
  cases y <;> by_cases hx : x = .call <;> simp [hx]

/-- R140: the taking zones' claims are TRAFFIC's. -/
theorem State.takeZone_mark (s : State) (p : Path) (was now : ZoneSet) (z y : Zone) {x : Source} (h : x ≠ trafficSource p) :
    (s.takeZone p was now z).mark y x = s.mark y x := by
  unfold State.takeZone
  split
  · rw [s.file_mark z (trafficSource_class p), if_neg fun e => h e.2]
  · split
    · rw [s.withdraw_mark, if_neg fun e => h e.2]
    · rfl

theorem State.takingPath_mark (s : State) (p : Path) (y : Zone) {x : Source} (h : x ≠ trafficSource p) :
    (s.takingPath p).mark y x = s.mark y x := by
  unfold State.takingPath
  dsimp only
  split
  · rfl
  · rw [State.takeZone_mark _ p _ _ _ y h, State.takeZone_mark _ p _ _ _ y h, State.takeZone_mark _ p _ _ _ y h]
    exact State.mark_of_arb rfl y x

theorem State.takingUpdate_mark (s : State) (y : Zone) {x : Source} (h : ∀ p, x ≠ trafficSource p) :
    s.takingUpdate.mark y x = s.mark y x :=
  (State.takingPath_mark _ .p2 y (h .p2)).trans (s.takingPath_mark .p1 y (h .p1))

theorem State.noteHeld_mark (s : State) (p : Path) (y : Zone) (x : Source) : (s.noteHeld p).mark y x = s.mark y x := by
  unfold State.noteHeld
  dsimp only
  split
  · rfl
  · exact State.mark_of_arb rfl y x

/-- R59: a take copy moves no claim but TRAFFIC's. -/
theorem State.takeCopyFrom_mark (s base : State) (z y : Zone) {x : Source} (h : ∀ p, x ≠ trafficSource p) :
    (s.takeCopyFrom base z).mark y x = s.mark y x := by
  by_cases same : s.bank.current.get z = s.bank.staged.get z
  · rw [State.takeCopyFrom_same base same]
    rfl
  · rw [State.takeCopyFrom_eq base same]
    split
    · exact State.mark_of_arb rfl y x
    · rw [State.trafficTaken, State.captureAfter_mark, State.noteHeld_mark, State.noteHeld_mark, State.takingUpdate_mark _ y h]
      exact State.mark_of_arb rfl y x

/-- R86: a voice's claims are brought to an entry's mask. -/
theorem State.bringClaim_mark (s : State) (v : Voice) (mask : ZoneSet) (z y : Zone) :
    ((s.bringClaim v mask z).mark y (voiceSource v)).isSome = if y = z then mask.get z else (s.mark y (voiceSource v)).isSome := by
  unfold State.bringClaim
  dsimp only
  split
  next c on hc =>
    split
    next hy => rw [hy, on, State.mark, hc]; rfl
    next => rfl
  next on hc =>
    rw [s.fileTold_mark z (voiceSource_class v)]
    by_cases hy : y = z <;> simp [hy, on]
  next off hc =>
    rw [s.withdrawTold_mark]
    by_cases hy : y = z <;> simp [hy, off]
  next off hc =>
    split
    next hy => rw [hy, off, State.mark, hc]; rfl
    next => rfl

theorem State.becomeCurrent_mark (s : State) (v : Voice) (e : Entry) (y : Zone) :
    ((s.becomeCurrent v e).mark y (voiceSource v)).isSome = e.mask.get y := by
  unfold State.becomeCurrent
  rw [State.mark_of_arb (State.liftHush_arb ..), State.captureAfter_mark]
  simp only [State.bringClaim_mark]
  cases y <;> simp

end Sys2Proof.Machine
end

section
/-! SUPPORT. The check of the DEFERRED zones (R58): which takes are carried out, and what the takes leave. -/

namespace Sys2Proof.Machine

/-- R58, R59: the zones `due` have taken; the call, but for its waiting notice, the vehicle port, the voices' entries and the claims of
other sources than TRAFFIC stand. -/
structure Takes (due : Zone → Bool) (s t : State) : Prop where
  staged : t.bank.staged = s.bank.staged
  current : ∀ z, t.bank.current.get z = if due z then s.bank.staged.get z else s.bank.current.get z
  take : ∀ z, t.bank.take.get z = if due z then .idle else s.bank.take.get z
  call : ∃ b, t.call = { s.call with reconverge := b }
  veh : t.veh = s.veh
  queue : ∀ v, (t.voice v).queue = (s.voice v).queue
  mark : ∀ z x, (∀ p, x ≠ trafficSource p) → t.mark z x = s.mark z x
  flags : ∀ n, s.port.flags.getLsbD n = true → t.port.flags.getLsbD n = true

namespace Takes

theorem none (s : State) : Takes (fun _ => false) s s :=
  ⟨rfl, fun _ => rfl, fun _ => rfl, ⟨_, rfl⟩, rfl, fun _ => rfl, fun _ _ _ => rfl, fun _ h => h⟩

theorem trans {due due' : Zone → Bool} {s t u : State} (h : Takes due s t) (h' : Takes due' t u) :
    Takes (fun z => due z || due' z) s u where
  staged := h'.staged.trans h.staged
  current z := by rw [h'.current, h.current, h.staged]; cases due z <;> cases due' z <;> rfl
  take z := by rw [h'.take, h.take]; cases due z <;> cases due' z <;> rfl
  call := by
    obtain ⟨b, hb⟩ := h.call
    obtain ⟨c, hc⟩ := h'.call
    exact ⟨c, by rw [hc, hb]⟩
  veh := h'.veh.trans h.veh
  queue v := (h'.queue v).trans (h.queue v)
  mark z x hx := (h'.mark z x hx).trans (h.mark z x hx)
  flags n hn := h'.flags n (h.flags n hn)

theorem congr {due due' : Zone → Bool} {s t : State} (h : Takes due s t) (e : ∀ z, due' z = due z) : Takes due' s t :=
  (funext e : due' = due) ▸ h

/-- R57: a zone that has not taken waits as before. -/
theorem takeDue {due : Zone → Bool} {s t : State} (h : Takes due s t) {z : Zone} (other : due z = false) : t.takeDue z = s.takeDue z := by
  have current := h.current z
  have take := h.take z
  obtain ⟨b, call⟩ := h.call
  rw [if_neg (by simp [other])] at current take
  simp only [State.takeDue, State.takeWaits, State.overrideWaits, State.callWaits, current, take, h.staged, h.veh, call]

end Takes

/-- R59: a take copy. -/
theorem State.takeCopyFrom_takesZone (s base : State) (z : Zone) : Takes (fun y => decide (y = z)) s (s.takeCopyFrom base z) := by
  obtain ⟨bank, -, -, call, veh⟩ := s.takeCopyFrom_registers base z
  refine ⟨by rw [bank]; rfl, fun y => ?_, fun y => ?_, ⟨_, call⟩, veh, s.takeCopyFrom_queue base z,
    fun y x hx => s.takeCopyFrom_mark base z y hx, fun n => s.takeCopyFrom_flags base z⟩
  · rw [bank]
    by_cases h : y = z
    · simp [h]
    · simp [h, s.bank.took_current_ne (Ne.symm h)]
  · rw [bank]
    by_cases h : y = z
    · simp [h]
    · simp [h, s.bank.took_take_ne (Ne.symm h)]

/-- R58: the check of one zone. -/
theorem State.checkDeferred_takesZone (s : State) (z : Zone) : Takes (fun y => decide (y = z) && s.takeDue z) s (s.checkDeferred z) := by
  unfold State.checkDeferred
  cases h : s.takeDue z with
  | true => exact (s.takeCopyFrom_takesZone s z).congr fun y => Bool.and_true _
  | false => exact (Takes.none s).congr fun y => Bool.and_false _

/-- R58: the checks of the zones beside CABIN, after CABIN's. -/
theorem Takes.others {s t : State} (h : Takes (fun y => decide (y = .cabin) && s.takeDue .cabin) s t) :
    Takes s.takeDue s (((t.checkDeferred .driver).checkDeferred .rearL).checkDeferred .rearR) := by
  have driver := h.trans (t.checkDeferred_takesZone .driver)
  have rearL := driver.trans (State.checkDeferred_takesZone _ .rearL)
  have rearR := rearL.trans (State.checkDeferred_takesZone _ .rearR)
  rw [h.takeDue rfl] at driver rearL rearR
  rw [driver.takeDue rfl] at rearL rearR
  rw [rearL.takeDue rfl] at rearR
  exact rearR.congr fun z => by cases z <;> simp

theorem State.deferredCheck_carries (s : State) : Takes s.takeDue s s.deferredCheck := (s.checkDeferred_takesZone .cabin).others

/-- R58: where nothing waits, the zones whose take is DEFERRED are due. -/
theorem State.takeDue_free {s : State} (override : s.veh.override = false) (state : s.call.state ≠ .active) (z : Zone) :
    s.takeDue z = decide (s.bank.take.get z = .deferred) := by
  simp [State.takeDue, State.takeWaits, State.overrideWaits, State.callWaits, override, state, Bool.beq_eq_decide_eq]

end Sys2Proof.Machine
end

section
/-! SUPPORT. The voice player's entries and the clips' marks in a placing and in a flush of the ring voice (R84 to R86, R96). -/

namespace Sys2Proof.Machine

/-! ## Clips -/

theorem Pool.clip_setClip {p : Pool} {n : Nat} (h : (p.clip n).state ≠ .free) (c : Clip) : (p.setClip n c).clip n = c := by
  by_cases inside : n ≠ 0 ∧ n - 1 < p.clips.length
  · obtain ⟨hn, hl⟩ := inside
    simp [Pool.clip, Pool.setClip, hn, hl]
  · exact absurd (by rw [Pool.clip_outside p n inside]; rfl) h

/-- R84: the mark of a clip that is not FREE. -/
theorem State.setUse_clip {s : State} {n : Nat} (h : (s.pool.clip n).state ≠ .free) (u : UseMarker) :
    (s.setUse n u).pool.clip n = { s.pool.clip n with use := u } := by
  have written : (s.setUse n u).pool = s.pool.setClip n { s.pool.clip n with use := u } := if_neg h
  rw [written, Pool.clip_setClip h]

theorem Pool.clip_setClip_ne (p : Pool) {c n : Nat} (one : c ≠ 0) (h : c ≠ n) (x : Clip) : (p.setClip c x).clip n = p.clip n := by
  unfold Pool.clip
  split
  · rfl
  next hn =>
    have place : c - 1 ≠ n - 1 := by omega
    simp [Pool.setClip, one, List.getD_eq_getElem?_getD, List.getElem?_set_ne place]

theorem State.captured_clip {s : State} {c n : Nat} (one : c ≠ 0) (other : c ≠ n) :
    ((s.mapPool (·.grant c 1 24000 .capture .capturing true)).deliverFree s.pool.freeCount).pool.clip n = s.pool.clip n := by
  have pool : ((s.mapPool (·.grant c 1 24000 .capture .capturing true)).deliverFree s.pool.freeCount).pool =
      s.pool.grant c 1 24000 .capture .capturing true := by simp [State.deliverFree]
  rw [pool]
  exact s.pool.clip_setClip_ne one other _

/-- R76: a capture takes a FREE clip. -/
theorem State.beginCapture_clip {s : State} {n : Nat} (p : Path) (h : (s.pool.clip n).state ≠ .free) :
    (s.beginCapture p).pool.clip n = s.pool.clip n := by
  unfold State.beginCapture
  split
  · rename_i c t opened
    unfold State.captureOpen at opened
    split at opened
    · cases opened
    · split at opened
      · cases opened
      · rename_i lowest
        split at opened
        · cases opened
        · obtain ⟨rfl, rfl⟩ := Prod.mk.inj (Option.some.inj opened)
          obtain ⟨⟨one, -⟩, free⟩ := Pool.lowestFree_spec _ _ lowest
          exact State.captured_clip one fun e => h (e ▸ free)
  · rfl

/-- R143: the work on the claims leaves every clip that is not FREE. -/
theorem ClaimWork.clip_still {s t : State} (h : ClaimWork s t) {n : Nat} (used : (s.pool.clip n).state ≠ .free) :
    t.pool.clip n = s.pool.clip n := by
  induction h with
  | refl => rfl
  | @tail b c _ hc ih =>
    have used' : (b.pool.clip n).state ≠ .free := ih ▸ used
    refine Eq.trans ?_ ih
    cases hc with
    | setZone | mapRend | raise => rfl
    | voiceReport v => rw [State.voiceReport_eq]; rfl
    | noteHeld p =>
      unfold State.noteHeld
      dsimp only
      split <;> rfl
    | captureFor p =>
      unfold State.captureFor
      split
      · exact State.beginCapture_clip p used'
      · rfl

theorem ClaimWork.call {s t : State} (h : ClaimWork s t) : t.call = s.call :=
  h.keep (R := fun s t => t.call = s.call) (fun _ => rfl) (fun _ _ _ h h' => h'.trans h) fun s t hc => by
    cases hc with
    | setZone | mapRend | raise => rfl
    | voiceReport v => rw [State.voiceReport_eq]; rfl
    | noteHeld p => simp
    | captureFor p => simp

/-! ## Placing -/

/-- R84, R86: an entry placed with a voice that has others waits its turn. -/
theorem State.accept_busy {s : State} {v : Voice} {e : Entry} (used : (s.pool.clip e.clip).state ≠ .free) (busy : (s.voice v).state ≠ .idle) :
    (s.accept v e).arb = s.arb ∧ (s.accept v e).voice v = { s.voice v with queue := (s.voice v).queue ++ [e] } ∧
    ((s.accept v e).pool.clip e.clip).use = .queued v := by
  have waits : s.accept v e = (s.setUse e.clip (.queued v)).setVoice v { s.voice v with queue := (s.voice v).queue ++ [e] } := if_neg busy
  rw [waits]
  exact ⟨rfl, State.setVoice_voice _ v _, congrArg Clip.use (State.setUse_clip used _)⟩

/-- R86: an entry placed with an IDLE voice becomes current, its claims brought to its mask. -/
theorem State.accept_idle {s : State} {v : Voice} {e : Entry} (used : (s.pool.clip e.clip).state ≠ .free) (idle : (s.voice v).state = .idle) :
    ((s.accept v e).voice v).queue = (s.voice v).queue ++ [e] ∧ ((s.accept v e).voice v).state = .starting ∧
    ((s.accept v e).pool.clip e.clip).use = .playing v ∧ ∀ z, ((s.accept v e).claim z (voiceSource v)).isSome = e.mask.get z := by
  let t := (s.setUse e.clip (.queued v)).setVoice v { s.voice v with queue := (s.voice v).queue ++ [e] }
  let u := (t.setUse e.clip (.playing v)).setVoice v ((t.voice v).current e)
  have current : s.accept v e = t.becomeCurrent v e := if_pos idle
  have work : ClaimWork u (s.accept v e) := current ▸ t.becomeCurrent_work v e
  have queued : t.pool.clip e.clip = { s.pool.clip e.clip with use := .queued v } := State.setUse_clip used _
  have playing : u.pool.clip e.clip = { t.pool.clip e.clip with use := .playing v } := State.setUse_clip (by rw [queued]; exact used) _
  have starting : u.voice v = (t.voice v).current e := State.setVoice_voice _ v _
  have voice : (s.accept v e).voice v = (t.voice v).current e :=
    (work.voice_still (by rw [starting]; simp [VoiceRec.current]) (by rw [starting]; simp [VoiceRec.current])).trans starting
  have clip : (s.accept v e).pool.clip e.clip = u.pool.clip e.clip := work.clip_still (by rw [playing, queued]; exact used)
  have placed : t.voice v = { s.voice v with queue := (s.voice v).queue ++ [e] } := State.setVoice_voice _ v _
  refine ⟨by rw [voice, placed]; rfl, by rw [voice]; rfl, by rw [clip, playing], fun z => ?_⟩
  rw [State.claim_isSome, current, State.becomeCurrent_mark]

theorem State.placeRefusal_used {s : State} {v : Voice} {p : Placing} (h : s.placeRefusal v p = none) :
    (s.pool.clip p.clip).state ≠ .free := by
  intro free
  unfold State.placeRefusal at h
  dsimp only at h
  split at h
  · cases h
  · simp at h

/-! ## A flush of the ring voice -/

theorem State.append_control_tellsPages (s : State) (c : Completion) : TellsPages s (s.append true c) :=
  .of_same rfl rfl

theorem State.setWaiters_tellsPages (s : State) (control : Bool) (l : List Waiter) : TellsPages s (s.setWaiters control l) := by
  unfold State.setWaiters
  split <;> exact .of_same rfl rfl

theorem State.freeClip_voice (s : State) (n : Nat) (v : Voice) : (s.freeClip n).voice v = s.voice v := by
  have slot (t : State) (o : LinkOwner) : (t.attemptSlot o).voc = t.voc := by
    unfold State.attemptSlot
    split
    · split <;> simp [State.deliverFree]
    · rfl
  simp [State.voice, State.freeClip, State.grantAttempt, slot, State.deliverFree]

theorem State.append_control_voice (s : State) (c : Completion) (v : Voice) : (s.append true c).voice v = s.voice v := by
  cases v <;> simp [State.voice, State.append]

theorem State.setWaiters_voice (s : State) (control : Bool) (l : List Waiter) (v : Voice) : (s.setWaiters control l).voice v = s.voice v := by
  unfold State.setWaiters
  split <;> cases v <;> rfl

/-- R96: the end of the entries touches no voice. -/
theorem State.flushEntries_voice {v : Voice} (control : onControl v = true) (y : Voice) (l : List Entry) : ∀ (s : State) (a f : Nat),
    (State.flushEntries v l s a f).1.voice y = s.voice y := by
  induction l with
  | nil => exact fun _ _ _ => rfl
  | cons e es ih =>
    intro s a f
    unfold State.flushEntries
    split
    · rw [control, ih, State.append_control_voice]
      rfl
    · rw [ih, State.freeClip_voice]
      rfl

theorem State.flushEntries_tellsPages {v : Voice} (control : onControl v = true) (l : List Entry) : ∀ (s : State) (a f : Nat),
    TellsPages s (State.flushEntries v l s a f).1 := by
  induction l with
  | nil => exact fun s _ _ => .refl s
  | cons e es ih =>
    intro s a f
    unfold State.flushEntries
    split
    · rw [control]
      exact ((s.setUse_tellsPages _ _).trans (State.append_control_tellsPages _ _)).trans (ih _ _ _)
    · exact ((s.setUse_tellsPages _ _).trans (State.freeClip_tellsPages _ _)).trans (ih _ _ _)

theorem State.flush_busy {s : State} {v : Voice} (h : s.room (onControl v) < s.flushOwes v) : s.flush v = .error .busy := if_pos h

theorem State.flush_ok {s : State} {v : Voice} (h : s.flushOwes v ≤ s.room (onControl v)) :
    ∃ t a f, s.flush v = .ok (t, (s.voice v).queue.length, a, f) := ⟨_, _, _, if_neg (Nat.not_lt.2 h)⟩

theorem State.startFade_queue (s : State) (v : Voice) : ((s.startFade v).voice v).queue = (s.voice v).queue := by
  unfold State.startFade
  rw [State.setVoice_voice]
  exact (s.orderHush_work _ _).taking.queue v

theorem State.startFade_tellsPages (s : State) (v : Voice) : TellsPages s (s.startFade v) :=
  (s.orderHush_work _ _).tellsPages.trans (State.setVoice_tellsPages _ _ _)

/-- R96: after a flush the voice has no entry, and the flush tells no quantity but FREE_PAGES. -/
theorem State.flush_control {s : State} {v : Voice} (control : onControl v = true) {r : State × Nat × Nat × Nat} (h : s.flush v = .ok r) :
    (r.1.voice v).queue = [] ∧ TellsPages s r.1 := by
  unfold State.flush at h
  dsimp only at h
  split at h
  · cases h
  · obtain rfl := Except.ok.inj h
    let t := (s.setVoice v { s.voice v with queue := [] }).setWaiters (onControl v)
      (((s.setVoice v { s.voice v with queue := [] }).waiters (onControl v)).filter (fun w => w != .voice v))
    let x := State.flushEntries v (s.voice v).queue t 0 0
    have queue : (x.1.voice v).queue = [] := by
      rw [State.flushEntries_voice control, State.setWaiters_voice, State.setVoice_voice]
    have tells : TellsPages s x.1 :=
      ((s.setVoice_tellsPages _ _).trans (State.setWaiters_tellsPages _ _ _)).trans (State.flushEntries_tellsPages control _ _ _ _)
    dsimp only
    split
    · exact ⟨queue, tells⟩
    · split
      · exact ⟨by rw [State.setVoice_voice]; exact queue, tells.trans (State.setVoice_tellsPages _ _ _)⟩
      · exact ⟨by rw [State.startFade_queue, State.setVoice_voice]; exact queue,
          (tells.trans (State.setVoice_tellsPages _ _ _)).trans (State.startFade_tellsPages _ _)⟩

end Sys2Proof.Machine
end

section
/-! SUPPORT. The call's moves (R151, R155 to R157, R161, R164): the record, the claims, and what they leave. -/

namespace Sys2Proof.Machine

/-- R164: the canceller once its coefficients are kept for the set it leaves, and OFF. -/
def Call.echoOff (c : Call) : Echo := { (c.echo.store c.routeSet).startTest with state := .off, target := 0, applied := 0 }

/-- R161: the canceller once it serves a set. -/
def Call.echoOn (c : Call) (set : MicSet) : Echo := { (c.echo.store c.routeSet).load set with target := 0, applied := 0 }

/-- What the route and the canceller leave. -/
structure KeepsRest (s t : State) : Prop where
  arb : t.arb = s.arb
  bank : t.bank = s.bank
  voc : t.voc = s.voc
  wat : t.wat = s.wat
  veh : t.veh = s.veh

theorem State.setEcho_rest (s : State) (e : Echo) : KeepsRest s (s.setEcho e) := by
  unfold State.setEcho
  dsimp only
  split
  · exact ⟨by simp, by simp, by simp, by simp, by simp⟩
  · exact ⟨rfl, rfl, rfl, rfl, rfl⟩

theorem State.setEcho_call (s : State) (e : Echo) : (s.setEcho e).call = { s.call with echo := e } := (s.setEcho_frame e).2

theorem KeepsRest.after {s t u : State} (h : KeepsRest t u) (arb : t.arb = s.arb) (bank : t.bank = s.bank) (voc : t.voc = s.voc)
    (wat : t.wat = s.wat) (veh : t.veh = s.veh) : KeepsRest s u :=
  ⟨h.arb.trans arb, h.bank.trans bank, h.voc.trans voc, h.wat.trans wat, h.veh.trans veh⟩

theorem KeepsRest.tellsPages {s t : State} (h : KeepsRest s t) : TellsPages s t := .of_same h.wat h.veh

theorem KeepsRest.queue {s t : State} (h : KeepsRest s t) (v : Voice) : (t.voice v).queue = (s.voice v).queue := by
  simp only [State.voice, h.voc]

theorem KeepsRest.trans {s t u : State} (h : KeepsRest s t) (h' : KeepsRest t u) : KeepsRest s u :=
  h'.after h.arb h.bank h.voc h.wat h.veh

theorem State.mapCall_rest (s : State) (f : Call → Call) : KeepsRest s (s.mapCall f) := ⟨rfl, rfl, rfl, rfl, rfl⟩

theorem State.setRoute_rest (s : State) (r : Route) (set : MicSet) : KeepsRest s (s.setRoute r set) := by
  cases r <;> exact (State.setEcho_rest _ _).after rfl rfl rfl rfl rfl

theorem State.changeSet_rest (s : State) (set : MicSet) : KeepsRest s (s.changeSet set) := by
  unfold State.changeSet
  dsimp only
  split
  · exact ⟨rfl, rfl, rfl, rfl, rfl⟩
  · exact (State.setEcho_rest _ _).after rfl rfl rfl rfl rfl

/-- R161: the uplink is given back. -/
theorem State.setRoute_none (s : State) (set : MicSet) :
    (s.setRoute .none set).call = { s.call with route := .none, echo := s.call.echoOff } := State.setEcho_call _ _

/-- R161: the uplink is taken. -/
theorem State.setRoute_taken (s : State) {r : Route} (h : r ≠ .none) (set : MicSet) :
    (s.setRoute r set).call = { s.call.serveSet set with route := r, echo := s.call.echoOn set } := by
  cases r with
  | none => exact absurd rfl h
  | call => exact State.setEcho_call _ _
  | telem => exact State.setEcho_call _ _

/-! ## Into ACTIVE and out of it -/

theorem State.callClaims_work (s : State) (mode : Zone) : ClaimWork s (s.callClaims mode) := by
  have zone (t : State) (z : Zone) : ClaimWork t (t.callZone mode z) := by
    unfold State.callZone
    split
    · exact t.fileTold_work z _ _
    · exact t.withdrawTold_work z _
  exact ((((zone s .cabin).trans (zone _ .driver)).trans (zone _ .rearL)).trans (zone _ .rearR)).trans (State.captureAfter_work _ s)

/-- R155: the record of a call that enters ACTIVE. -/
def Call.entered (c : Call) : Call :=
  { ({ c with state := .active } : Call).serveSet (micSetOf c.mode) with route := .call, echo := c.echoOn (micSetOf c.mode) }

/-- R155: and of one that leaves it. -/
def Call.left (c : Call) (dest : CallState) : Call := { c with state := dest, route := .none, echo := c.echoOff }

theorem State.callEnter_call (s : State) : s.callEnter.call = s.call.entered := by
  have claims := (State.callClaims_work (s.mapCall fun c => { c with state := .active }) s.call.mode).call
  unfold State.callEnter
  dsimp only
  rw [State.setRoute_taken _ (by decide), claims]
  rfl

theorem State.callEnter_mark (s : State) (y : Zone) (x : Source) :
    s.callEnter.mark y x = if x = .call then callClaim s.call.mode y else s.mark y x := by
  rw [State.callEnter, State.mark_of_arb (State.setRoute_rest ..).arb, State.callClaims_mark]
  rfl

/-- R155: the claims of the mode, and then the route and the canceller. -/
theorem State.callEnter_rest (s : State) : ∃ t, ClaimWork (s.mapCall fun c => { c with state := .active }) t ∧ KeepsRest t s.callEnter :=
  ⟨_, State.callClaims_work _ s.call.mode, State.setRoute_rest _ .call (micSetOf s.call.mode)⟩

theorem State.callEnter_queue (s : State) (v : Voice) : (s.callEnter.voice v).queue = (s.voice v).queue := by
  obtain ⟨t, work, rest⟩ := s.callEnter_rest
  exact (rest.queue v).trans (work.taking.queue v)

theorem State.callEnter_tellsPages (s : State) : TellsPages s s.callEnter := by
  obtain ⟨t, work, rest⟩ := s.callEnter_rest
  exact ((s.mapCall_rest _).tellsPages.trans work.tellsPages).trans rest.tellsPages

/-- R155: a call that has left ACTIVE, before the check of the DEFERRED zones. -/
def State.callLeft (s : State) (dest : CallState) : State :=
  ((s.withdrawAll .call).setRoute .none s.call.routeSet).mapCall (fun c => { c with state := dest })

theorem State.callLeave_eq (s : State) (dest : CallState) : s.callLeave dest = (s.callLeft dest).deferredCheck := rfl

theorem State.callLeft_rest (s : State) (dest : CallState) : KeepsRest (s.withdrawAll .call) (s.callLeft dest) :=
  KeepsRest.trans (State.setRoute_rest _ .none s.call.routeSet) (State.mapCall_rest _ _)

theorem State.callLeft_call (s : State) (dest : CallState) : (s.callLeft dest).call = s.call.left dest := by
  have claims := (s.withdrawAll_work .call).call
  simp only [State.callLeft, State.mapCall_call, State.setRoute_none, claims]
  rfl

theorem State.callLeft_mark (s : State) (dest : CallState) (y : Zone) (x : Source) :
    (s.callLeft dest).mark y x = if x = .call then none else s.mark y x :=
  (State.mark_of_arb (s.callLeft_rest dest).arb y x).trans (s.withdrawAll_mark .call y x)

theorem State.callLeft_bank (s : State) (dest : CallState) : (s.callLeft dest).bank = s.bank := by
  rw [(s.callLeft_rest dest).bank]
  simp

theorem State.callLeft_queue (s : State) (dest : CallState) (v : Voice) : ((s.callLeft dest).voice v).queue = (s.voice v).queue :=
  ((s.callLeft_rest dest).queue v).trans ((s.withdrawAll_work .call).taking.queue v)

theorem State.callLeft_tellsPages (s : State) (dest : CallState) : TellsPages s (s.callLeft dest) :=
  (s.withdrawAll_work .call).tellsPages.trans (s.callLeft_rest dest).tellsPages

/-- R58: each DEFERRED take is carried out, and no other. -/
structure CarriedOut (b c : Bank) : Prop where
  staged : c.staged = b.staged
  current : ∀ z, c.current.get z = if b.take.get z = .deferred then b.staged.get z else b.current.get z
  take : ∀ z, c.take.get z = if b.take.get z = .deferred then .idle else b.take.get z

/-- R58, R155, R156: a call that leaves ACTIVE while override is off: its record, but for a waiting notice, its claims, and the takes. -/
structure LeavesActive (c : Call) (b : Bank) (dest : CallState) (u : State) : Prop where
  call : ∃ r, u.call = { c.left dest with reconverge := r }
  claims : ∀ z, u.claim z .call = none
  carried : CarriedOut b u.bank

theorem State.callLeave_queue (s : State) (dest : CallState) (v : Voice) : ((s.callLeave dest).voice v).queue = (s.voice v).queue :=
  ((s.callLeft dest).deferredCheck_carries.queue v).trans (s.callLeft_queue dest v)

theorem State.callLeave_leaves {s : State} {dest : CallState} (override : s.veh.override = false) (inactive : dest ≠ .active) :
    LeavesActive s.call s.bank dest (s.callLeave dest) := by
  have left := s.callLeft_call dest
  have bank := s.callLeft_bank dest
  have takes := (s.callLeft dest).deferredCheck_carries
  have due (z : Zone) : (s.callLeft dest).takeDue z = decide (s.bank.take.get z = .deferred) := by
    rw [State.takeDue_free (by rw [(s.callLeft_tellsPages dest).veh]; exact override) (by rw [left]; exact inactive), bank]
  have current := takes.current
  have take := takes.take
  simp only [due, decide_eq_true_eq, bank] at current take
  have claims (z : Zone) : (s.callLeft dest).deferredCheck.mark z .call = none :=
    (takes.mark z .call (fun p => by cases p <;> decide)).trans (s.callLeft_mark dest z .call)
  have call := takes.call
  rw [left] at call
  rw [State.callLeave_eq]
  exact ⟨call, fun z => (State.claim_eq_none _ z .call).2 (claims z), takes.staged.trans (by rw [bank]), current, take⟩

end Sys2Proof.Machine
end

section
/-! SUPPORT. The six call commands (R152 to R157). -/

namespace Sys2Proof.Machine

theorem exec_callHold (q : Byte) (s : State) : exec (.callHold q) s = execCallHold q s := rfl
theorem exec_callResume (q : Byte) (s : State) : exec (.callResume q) s = execCallResume q s := rfl

theorem zoneOf_isSome {m : Nat} (h : m ≤ 3) : ∃ z, zoneOf m = some z := by
  match m, h with
  | 0, _ | 1, _ | 2, _ | 3, _ => exact ⟨_, rfl⟩

theorem clipNumber_eq {clip : Nat} (one : 1 ≤ clip) (most : clip ≤ 63) : clipNumber clip = true := decide_eq_true ⟨one, most⟩

theorem callClaim_isSome (mode z : Zone) : (callClaim mode z).isSome = decide (z = mode ∨ (mode = .driver ∧ z = .cabin)) := by
  cases mode <;> cases z <;> rfl

theorem callClaim_shadow {mode z : Zone} {b : Bool} (h : callClaim mode z = some b) : b = decide (z ≠ mode) := by
  cases mode <;> cases z <;> cases h <;> rfl

theorem ClaimFrame.withCall {s t : State} (h : ClaimFrame s t) (c : Call) : ClaimFrame { s with call := c } { t with call := c } := by
  simp_all only [ClaimFrame, and_self]

theorem ClaimFrame.call {s t : State} (h : ClaimFrame s t) : t.call = s.call := by
  simp only [ClaimFrame] at h
  simp only [h]

theorem ClaimFrame.bank {s t : State} (h : ClaimFrame s t) : t.bank = s.bank := by
  simp only [ClaimFrame] at h
  simp only [h]

theorem ClaimFrame.override {s t : State} (h : ClaimFrame s t) : t.veh.override = s.veh.override := by
  simp only [ClaimFrame] at h
  simp only [h]

theorem ClaimFrame.sends {s t : State} (h : ClaimFrame s t) :
    t.port.tx.countP TxFrame.isReply = s.port.tx.countP TxFrame.isReply ∧ t.port.lineOut = s.port.lineOut := by
  simp only [ClaimFrame] at h
  simp only [h, and_self]

/-- R153: the entry that CALL.RING places. -/
theorem ringPlacing_entry (z : Zone) (clip gap : Nat) : (ringPlacing z clip gap).entry =
    ⟨clip, ⟨decide (z = .cabin), decide (z = .driver), decide (z = .rearL), decide (z = .rearR)⟩, 0, gap, 0, 0, 0, none⟩ := by
  have mask : (maskOf (2 ^ z.num)).getD ZoneSet.empty =
      ⟨decide (z = .cabin), decide (z = .driver), decide (z = .rearL), decide (z = .rearR)⟩ := by
    cases z <;> decide
  simp [ringPlacing, Placing.entry, mask, clampInt]

/-! ## RING (R152, R153) -/

/-- R152, R153: CALL.RING as RUN without override serves it. -/
def ringBody (m clip gap : Nat) (s : State) : Reply × State :=
  match zoneOf m with
  | none => refuse .range s
  | some z =>
    if clipNumber clip = false then refuse .range s
    else if s.call.state ≠ .idle then refuse .state s
    else
      match s.place .ring (ringPlacing z clip gap) with
      | .error c => refuse c s
      | .ok t => report ((t.startRinging z clip).callResult none) (t.startRinging z clip)

theorem exec_callRing (q : Byte) (m clip gap : Nat) (s : State) :
    exec (.callRing q m clip gap) s = serve 9 0 q .lockable s (ringBody m clip gap) := rfl

theorem ringBody_unnamed {m clip : Nat} (h : 3 < m ∨ clip = 0 ∨ 63 < clip) (gap : Nat) (s : State) :
    ringBody m clip gap s = refuse .range s := by
  unfold ringBody
  split
  · rfl
  next z hz =>
    rw [if_pos]
    rcases h with h | h
    · rw [zoneOf_isNone h] at hz
      cases hz
    · exact decide_eq_false (by omega)

section
variable {m clip : Nat} {z : Zone} (hz : zoneOf m = some z) (one : 1 ≤ clip) (most : clip ≤ 63)
include hz one most

theorem ringBody_busy {s : State} (busy : s.call.state ≠ .idle) (gap : Nat) : ringBody m clip gap s = refuse .state s := by
  simp [ringBody, hz, clipNumber_eq one most, busy]

theorem ringBody_unplaced {s : State} (idle : s.call.state = .idle) {gap : Nat} {c : RefCode}
    (h : s.placeRefusal .ring (ringPlacing z clip gap) = some c) : ringBody m clip gap s = refuse c s := by
  simp [ringBody, hz, clipNumber_eq one most, idle, State.place, h]

theorem ringBody_placed {s : State} (idle : s.call.state = .idle) {gap : Nat}
    (h : s.placeRefusal .ring (ringPlacing z clip gap) = none) :
    ringBody m clip gap s = (.done (.call .ringing z (micSetOf z) none),
      (s.accept .ring (ringPlacing z clip gap).entry).startRinging z clip) := by
  simp [ringBody, hz, clipNumber_eq one most, idle, State.place, h]
  rfl
end

/-- R84: a gap of more than 5 s is refused. -/
theorem placeRefusal_gap {s : State} {v : Voice} {p : Placing} (h : 5000 < p.gap) : s.placeRefusal v p = some .range := by
  simp [State.placeRefusal, h]

/-- R153: a RING whose entry is placed. -/
theorem callRing_placed {s : State} {m clip gap : Nat} {z : Zone} (q : Byte) (h : Unlocked s) (hz : zoneOf m = some z) (one : 1 ≤ clip)
    (most : clip ≤ 63) (idle : s.call.state = .idle) (placed : s.placeRefusal .ring (ringPlacing z clip gap) = none) :
    ∃ u, Answers (.callRing q m clip gap) s u 0x90 q (.done (.call .ringing z (micSetOf z) none)) ∧
      ClaimFrame { s with call := { s.call with state := .ringing, mode := z, ringClip := some clip } } u ∧
      u.voc = (s.taking.accept .ring (ringPlacing z clip gap).entry).voc ∧
      u.pool = (s.taking.accept .ring (ringPlacing z clip gap).entry).pool ∧
      u.arb = (s.taking.accept .ring (ringPlacing z clip gap).entry).arb := by
  let v := s.taking.accept .ring (ringPlacing z clip gap).entry
  have frame : ClaimFrame s.taking v := s.taking.accept_frame .ring _
  have call : v.call = s.call := frame.call
  have answered : Answers (.callRing q m clip gap) s (s.untaken (v.startRinging z clip)) 0x90 q (.done (.call .ringing z (micSetOf z) none)) :=
    answers_effect 9 0 h.1.2 h.gate (exec_callRing q m clip gap s) rfl (ringBody_placed (s := s.taking) hz one most idle placed)
      frame.sends.1 frame.sends.2
  refine ⟨_, answered, ?_, rfl, rfl, rfl⟩
  have moved := frame.untaken.withCall { s.call with state := .ringing, mode := z, ringClip := some clip }
  rw [← call] at moved ⊢
  exact moved

/-! ## ANSWER, HOLD, RESUME, END (R154 to R156) -/

/-- R151, R155, R161: what ANSWER and RESUME make of a call. -/
structure Entered (c : Call) (t : State) : Prop where
  state : t.call.state = .active
  mode : t.call.mode = c.mode
  route : t.call.route = .call
  routeSet : t.call.routeSet = micSetOf c.mode
  echo : t.call.echo.state = .converging
  claims : ∀ z, (t.claim z .call).isSome = decide (z = c.mode ∨ (c.mode = .driver ∧ z = .cabin))
  shadow : ∀ z x, t.claim z .call = some x → x.shadow = decide (z ≠ c.mode)

theorem State.callEnter_entered (s : State) : Entered s.call s.callEnter := by
  have call := s.callEnter_call
  have marks (z : Zone) : s.callEnter.mark z .call = callClaim s.call.mode z := by rw [State.callEnter_mark, if_pos rfl]
  refine ⟨by rw [call]; rfl, by rw [call]; rfl, by rw [call]; rfl, by rw [call]; rfl, by rw [call]; rfl, fun z => ?_, fun z x hx => ?_⟩
  · rw [State.claim_isSome, marks, callClaim_isSome]
  · exact callClaim_shadow ((marks z).symm.trans (by rw [State.mark, hx]; rfl))

/-- R154: CALL.ANSWER as RUN without override serves it. -/
def answerBody (s : State) : Reply × State :=
  if s.call.state = .active ∨ s.call.state = .held then refuse .state s
  else
    match s.flush .ring with
    | .error c => refuse c s
    | .ok r => report (r.1.answer.callResult (some r.2)) r.1.answer

/-- R156: CALL.END. -/
def endBody (s : State) : Reply × State :=
  match s.flush .ring with
  | .error c => refuse c s
  | .ok r => report (r.1.endCall.callResult (some r.2)) r.1.endCall

theorem exec_callAnswer (q : Byte) (s : State) : exec (.callAnswer q) s = serve 9 1 q .lockable s answerBody := rfl
theorem exec_callEnd (q : Byte) (s : State) : exec (.callEnd q) s = serve 9 4 q .lockable s endBody := rfl

theorem answerBody_engaged {s : State} (h : s.call.state = .active ∨ s.call.state = .held) : answerBody s = refuse .state s := if_pos h

theorem answerBody_flushed {s : State} (h : s.call.state = .idle ∨ s.call.state = .ringing) {r : State × Nat × Nat × Nat}
    (flushed : s.flush .ring = .ok r) : answerBody s = report (r.1.answer.callResult (some r.2)) r.1.answer := by
  have free : ¬ (s.call.state = .active ∨ s.call.state = .held) := by rcases h with h | h <;> simp [h]
  rw [answerBody, if_neg free, flushed]

theorem answerBody_full {s : State} (h : s.call.state = .idle ∨ s.call.state = .ringing) (full : s.flush .ring = .error .busy) :
    answerBody s = refuse .busy s := by
  have free : ¬ (s.call.state = .active ∨ s.call.state = .held) := by rcases h with h | h <;> simp [h]
  rw [answerBody, if_neg free, full]

theorem endBody_flushed {s : State} {r : State × Nat × Nat × Nat} (flushed : s.flush .ring = .ok r) :
    endBody s = report (r.1.endCall.callResult (some r.2)) r.1.endCall := by
  rw [endBody, flushed]

theorem endBody_full {s : State} (full : s.flush .ring = .error .busy) : endBody s = refuse .busy s := by
  rw [endBody, full]

/-- R154: an ANSWER of a call that is not engaged. -/
theorem callAnswer_enters {s : State} (q : Byte) (h : Unlocked s) (free : s.call.state = .idle ∨ s.call.state = .ringing)
    (room : s.flushOwes .ring ≤ s.room true) :
    ∃ u a f, Answers (.callAnswer q) s u 0x91 q
        (.done (.call .active s.call.mode (micSetOf s.call.mode) (some ((s.voice .ring).queue.length, a, f)))) ∧
      CallFrame s u ∧ Entered s.call u ∧ u.call.ringClip = none ∧ (u.voice .ring).queue = [] := by
  obtain ⟨t, a, f, flushed⟩ := State.flush_ok (s := s.taking) (v := .ring) room
  have frame : ClaimFrame s.taking t := State.flush_frame flushed
  have call : t.call = s.call := frame.call
  obtain ⟨queue, -⟩ := State.flush_control (v := .ring) rfl flushed
  have entered : Entered { s.call with ringClip := none } t.answer := by
    have entered := State.callEnter_entered (t.mapCall fun c => { c with ringClip := none })
    rwa [State.mapCall_call, call] at entered
  have framed : CallFrame s.taking t.answer :=
    CallFrame.trans (t := t) (callFrame_of_claim frame) (by simp [State.answer, CallFrame])
  have reply : answerBody s.taking = (.done (.call .active s.call.mode (micSetOf s.call.mode)
      (some ((s.voice .ring).queue.length, a, f))), t.answer) := by
    rw [answerBody_flushed (s := s.taking) free flushed, State.callResult, entered.state, entered.mode]
    rfl
  obtain ⟨answered, framed⟩ := answers_callFrame 9 1 h.1.2 h.gate (exec_callAnswer q s) rfl reply framed
  refine ⟨_, a, f, answered, framed, ⟨entered.state, entered.mode, entered.route, entered.routeSet, entered.echo, entered.claims,
    entered.shadow⟩, ?_, ?_⟩
  · have call := State.callEnter_call (t.mapCall fun c => { c with ringClip := none })
    exact (congrArg Call.ringClip call).trans rfl
  · exact ((State.callEnter_queue _ .ring).trans rfl).trans queue

/-- R155: a RESUME of a HELD call. -/
theorem callResume_enters {s : State} (q : Byte) (h : Unlocked s) (held : s.call.state = .held) :
    ∃ u, Answers (.callResume q) s u 0x93 q (.done (.call .active s.call.mode (micSetOf s.call.mode) none)) ∧ CallFrame s u ∧
      Entered s.call u ∧ u.call.echo.coeff = ((s.call.echo.store s.call.routeSet).retained.get (micSetOf s.call.mode)).getD 0 := by
  have entered : Entered s.call s.taking.callEnter := s.taking.callEnter_entered
  have reply : report (s.taking.callEnter.callResult none) s.taking.callEnter =
      (.done (.call .active s.call.mode (micSetOf s.call.mode) none), s.taking.callEnter) := by
    rw [State.callResult, entered.state, entered.mode]
    rfl
  obtain ⟨answered, framed⟩ := answers_callFrame 9 3 h.1.2 h.gate (exec_callResume q s) rfl ((if_pos held).trans reply)
    s.taking.callEnter_frame
  refine ⟨_, answered, framed, ⟨entered.state, entered.mode, entered.route, entered.routeSet, entered.echo, entered.claims,
    entered.shadow⟩, ?_⟩
  exact (congrArg (fun c : Call => c.echo.coeff) s.taking.callEnter_call).trans rfl

theorem LeavesActive.untaken {c : Call} {b : Bank} {dest : CallState} {v : State} (h : LeavesActive c b dest v) (s : State) :
    LeavesActive c b dest (s.untaken v) := ⟨h.call, h.claims, h.carried⟩

theorem State.untaken_bank (s v : State) : (s.untaken v).bank = v.bank := rfl
theorem State.untaken_arb (s v : State) : (s.untaken v).arb = v.arb := rfl
theorem State.untaken_call (s v : State) : (s.untaken v).call = v.call := rfl

/-- R155: a HOLD of an ACTIVE call. -/
theorem callHold_leaves {s : State} (q : Byte) (h : Unlocked s) (active : s.call.state = .active) :
    ∃ u, Answers (.callHold q) s u 0x92 q (.done (.call .held s.call.mode (micSetOf s.call.mode) none)) ∧ CallFrame s u ∧
      LeavesActive s.call s.bank .held u := by
  have left : LeavesActive s.call s.bank .held s.taking.callHeld := State.callLeave_leaves (s := s.taking) h.2 (by decide)
  have reply : report (s.taking.callHeld.callResult none) s.taking.callHeld =
      (.done (.call .held s.call.mode (micSetOf s.call.mode) none), s.taking.callHeld) := by
    obtain ⟨b, call⟩ := left.call
    rw [State.callResult, call]
    rfl
  obtain ⟨answered, framed⟩ := answers_callFrame 9 2 h.1.2 h.gate (exec_callHold q s) rfl ((if_pos active).trans reply)
    s.taking.callHeld_frame
  exact ⟨_, answered, framed, left.untaken s⟩

/-- R156: what END makes of an ACTIVE call after the flush. -/
theorem State.endCall_active {s : State} (override : s.veh.override = false) (active : s.call.state = .active) :
    ∃ t, s.endCall = t.mapCall (fun c => { c with ringClip := none }) ∧ LeavesActive s.call s.bank .idle t ∧
      ∀ v, (t.voice v).queue = (s.voice v).queue :=
  ⟨s.callLeave .idle, by rw [State.endCall, if_pos active], State.callLeave_leaves override (by decide), s.callLeave_queue .idle⟩

/-- R156: and of another. -/
theorem State.endCall_inactive {s : State} (inactive : s.call.state ≠ .active) :
    s.endCall = { s with call := { s.call with state := .idle, ringClip := none } } := by
  rw [State.endCall, if_neg inactive]
  rfl

theorem State.endCall_record {s : State} (override : s.veh.override = false) :
    s.endCall.call.state = .idle ∧ s.endCall.call.mode = s.call.mode ∧ s.endCall.call.ringClip = none ∧
    ∀ v, (s.endCall.voice v).queue = (s.voice v).queue := by
  by_cases active : s.call.state = .active
  · obtain ⟨t, ended, left, queue⟩ := State.endCall_active override active
    obtain ⟨b, call⟩ := left.call
    rw [ended, State.mapCall_call, call]
    exact ⟨rfl, rfl, rfl, queue⟩
  · rw [State.endCall_inactive active]
    exact ⟨rfl, rfl, rfl, fun _ => rfl⟩

/-- R156: an END whose flush finds room. -/
theorem callEnd_ends {s : State} (q : Byte) (h : Unlocked s) (room : s.flushOwes .ring ≤ s.room true) :
    ∃ u a f, Answers (.callEnd q) s u 0x94 q
        (.done (.call .idle s.call.mode (micSetOf s.call.mode) (some ((s.voice .ring).queue.length, a, f)))) ∧
      CallFrame s u ∧ u.call.state = .idle ∧ u.call.mode = s.call.mode ∧ u.call.ringClip = none ∧ (u.voice .ring).queue = [] ∧
      (s.call.state = .active → u.call.route = .none ∧ u.call.echo.state = .off ∧ CarriedOut s.bank u.bank ∧
        ∀ z, u.claim z .call = none) ∧
      (s.call.state ≠ .active → u.call = { s.call with state := .idle, ringClip := none } ∧ u.bank = s.bank) := by
  obtain ⟨t, a, f, flushed⟩ := State.flush_ok (s := s.taking) (v := .ring) room
  have frame : ClaimFrame s.taking t := State.flush_frame flushed
  have call : t.call = s.call := frame.call
  have bank : t.bank = s.bank := frame.bank
  have override : t.veh.override = false := frame.override.trans h.2
  obtain ⟨queue, -⟩ := State.flush_control (v := .ring) rfl flushed
  obtain ⟨state, mode, ringClip, kept⟩ := State.endCall_record override
  have framed : CallFrame s.taking t.endCall :=
    CallFrame.trans (t := t) (callFrame_of_claim frame) t.endCall_frame
  have reply : endBody s.taking = (.done (.call .idle s.call.mode (micSetOf s.call.mode)
      (some ((s.voice .ring).queue.length, a, f))), t.endCall) := by
    rw [endBody_flushed flushed, State.callResult, state, mode, call]
    rfl
  obtain ⟨answered, framed⟩ := answers_callFrame 9 4 h.1.2 h.gate (exec_callEnd q s) rfl reply framed
  refine ⟨_, a, f, answered, framed, state, mode.trans (by rw [call]), ringClip, (kept .ring).trans queue, fun active => ?_,
    fun inactive => ?_⟩
  · obtain ⟨x, ended, left, -⟩ := State.endCall_active override (by rw [call]; exact active)
    obtain ⟨r, record⟩ := left.call
    have final : (s.untaken t.endCall).call = { x.call with ringClip := none } := by rw [State.untaken_call, ended]; rfl
    have carried : CarriedOut s.bank x.bank := bank ▸ left.carried
    have same : (s.untaken t.endCall).bank = x.bank := by rw [State.untaken_bank, ended]; rfl
    have lists : (s.untaken t.endCall).arb = x.arb := by rw [State.untaken_arb, ended]; rfl
    rw [record] at final
    rw [final, same]
    refine ⟨rfl, rfl, carried, fun z => (State.claim_eq_none _ z .call).2 ?_⟩
    rw [State.mark_of_arb lists, ← State.claim_eq_none]
    exact left.claims z
  · have ended := State.endCall_inactive (by rw [call]; exact inactive)
    exact ⟨(congrArg State.call ended).trans (by rw [call]), (congrArg State.bank ended).trans bank⟩

end Sys2Proof.Machine
end

section
/-! SUPPORT. CALL.MODE (R157, R164), and the call commands together. -/

namespace Sys2Proof.Machine

/-- A request that passes its gate, with an effect that leaves the port. -/
theorem answers_gate_portless {c : Instr} {s v : State} (cls verb : Nat) {g : Gate} {code q : Byte} {body : State → Reply × State}
    {r : Reply} (hp : s.port.resetPending = false) (hg : gateRefusal g s = none) (he : exec c s = serve cls verb q g s body)
    (hc : codeByte cls verb = code) (hb : body s.taking = (r, v)) (port : v.port = s.taking.port) :
    Answers c s (v.withPort s.port) code q r := by
  rw [← State.untaken_of_port port]
  exact answers_effect cls verb hp hg he hc hb (by rw [port]) (by rw [port])

/-- R157: CALL.MODE as RUN without override serves it. -/
def modeBody (m : Nat) (s : State) : Reply × State :=
  match zoneOf m with
  | none => refuse .range s
  | some z => if s.call.mode = z then report (s.callResult none) s else report ((s.moveCall z).callResult none) (s.moveCall z)

theorem exec_callMode (q : Byte) (m : Nat) (s : State) : exec (.callMode q m) s = serve 9 5 q .lockable s (modeBody m) := rfl

theorem modeBody_same {m : Nat} {z : Zone} {s : State} (hz : zoneOf m = some z) (h : s.call.mode = z) :
    modeBody m s = (.done (.call s.call.state z (micSetOf z) none), s) := by
  subst h
  simp only [modeBody, hz, if_true]
  rfl

theorem modeBody_moves {m : Nat} {z : Zone} {s : State} (hz : zoneOf m = some z) (h : s.call.mode ≠ z) :
    modeBody m s = report ((s.moveCall z).callResult none) (s.moveCall z) := by
  simp only [modeBody, hz, if_neg h]

theorem State.moveCall_inactive {s : State} {z : Zone} (h : s.call.state ≠ .active) :
    s.moveCall z = { s with call := { s.call with mode := z } } := if_neg h

theorem State.moveCall_active {s : State} {z : Zone} (h : s.call.state = .active) :
    s.moveCall z = ((s.mapCall fun c => { c with mode := z }).callClaims z).changeSet (micSetOf z) := if_pos h

theorem State.changeSet_off {s : State} (h : s.call.echo.state = .off) (set : MicSet) : (s.changeSet set).call = s.call.serveSet set := by
  have stored : (s.call.echo.store s.call.routeSet).state = .off := by rw [Echo.store, if_pos h, h]
  rw [State.changeSet, if_pos stored]
  rfl

theorem State.changeSet_on {s : State} (h : s.call.echo.state ≠ .off) (set : MicSet) :
    (s.changeSet set).call = { s.call.serveSet set with
      echo := ({ s.call.echo with retained := s.call.echo.retained.set s.call.routeSet (some s.call.echo.coeff) } : Echo).load set } := by
  have stored : s.call.echo.store s.call.routeSet =
      { s.call.echo with retained := s.call.echo.retained.set s.call.routeSet (some s.call.echo.coeff) } := if_neg h
  rw [State.changeSet, stored]
  dsimp only
  rw [if_neg h, State.setEcho_call]
  rfl

/-- R157: what CALL.MODE makes of an ACTIVE call's claims. -/
theorem State.moveCall_mark {s : State} {z : Zone} (h : s.call.state = .active) (y : Zone) :
    (s.moveCall z).mark y .call = callClaim z y := by
  rw [State.moveCall_active h, State.mark_of_arb (State.changeSet_rest ..).arb, State.callClaims_mark, if_pos rfl]

/-- R157, R164: and of its record and the canceller. -/
theorem State.moveCall_call {s : State} {z : Zone} (h : s.call.state = .active) :
    (s.call.echo.state = .off → (s.moveCall z).call = ({ s.call with mode := z } : Call).serveSet (micSetOf z)) ∧
    (s.call.echo.state ≠ .off → (s.moveCall z).call = { ({ s.call with mode := z } : Call).serveSet (micSetOf z) with
      echo := ({ s.call.echo with retained := s.call.echo.retained.set s.call.routeSet (some s.call.echo.coeff) } : Echo).load
        (micSetOf z) }) := by
  have claims := (State.callClaims_work (s.mapCall fun c => { c with mode := z }) z).call
  rw [State.moveCall_active h]
  refine ⟨fun off => ?_, fun on => ?_⟩
  · rw [State.changeSet_off (by rw [claims]; exact off), claims]
    rfl
  · rw [State.changeSet_on (by rw [claims]; exact on), claims]
    rfl

/-- R157: a MODE that moves an ACTIVE call. -/
theorem callMode_moves {s : State} {m : Nat} {z : Zone} (q : Byte) (h : Unlocked s) (hz : zoneOf m = some z) (other : s.call.mode ≠ z)
    (active : s.call.state = .active) :
    ∃ u, Answers (.callMode q m) s u 0x95 q (.done (.call .active z (micSetOf z) none)) ∧ CallFrame s u ∧
      u.call = (s.taking.moveCall z).call ∧ (∀ y, u.mark y .call = callClaim z y) := by
  have record : (s.taking.moveCall z).call.state = .active ∧ (s.taking.moveCall z).call.mode = z := by
    obtain ⟨off, on⟩ := State.moveCall_call (s := s.taking) (z := z) active
    by_cases echo : s.call.echo.state = .off
    · rw [off echo]; exact ⟨active, rfl⟩
    · rw [on echo]; exact ⟨active, rfl⟩
  have reply : modeBody m s.taking = (.done (.call .active z (micSetOf z) none), s.taking.moveCall z) := by
    rw [modeBody_moves (s := s.taking) hz other, State.callResult, record.1, record.2]
    rfl
  obtain ⟨answered, framed⟩ := answers_callFrame 9 5 h.1.2 h.gate (exec_callMode q m s) rfl reply (s.taking.moveCall_frame z)
  exact ⟨_, answered, framed, rfl, State.moveCall_mark (s := s.taking) active⟩

/-- R58: in the statements' words. -/
theorem CarriedOut.cases {b c : Bank} (h : CarriedOut b c) : c.staged = b.staged ∧ ∀ z,
    (b.take.get z = .deferred → c.current.get z = b.staged.get z ∧ c.take.get z = .idle) ∧
    (b.take.get z ≠ .deferred → c.current.get z = b.current.get z ∧ c.take.get z = b.take.get z) :=
  ⟨h.staged, fun z => ⟨fun due => ⟨(h.current z).trans (if_pos due), (h.take z).trans (if_pos due)⟩,
    fun other => ⟨(h.current z).trans (if_neg other), (h.take z).trans (if_neg other)⟩⟩⟩

/-- R152, R153: what a RING does. -/
theorem callRing_settles {s : State} {m clip gap : Nat} {z : Zone} (q : Byte) (h : Unlocked s) (hz : zoneOf m = some z) (one : 1 ≤ clip)
    (most : clip ≤ 63) (idle : s.call.state = .idle) (placed : s.placeRefusal .ring (ringPlacing z clip gap) = none) :
    ∃ u, Answers (.callRing q m clip gap) s u 0x90 q (.done (.call .ringing z (micSetOf z) none)) ∧
      ClaimFrame { s with call := { s.call with state := .ringing, mode := z, ringClip := some clip } } u ∧
      (u.voice .ring).queue.length = (s.voice .ring).queue.length + 1 ∧
      (u.voice .ring).queue = (s.voice .ring).queue ++
        [⟨clip, ⟨decide (z = .cabin), decide (z = .driver), decide (z = .rearL), decide (z = .rearR)⟩, 0, gap, 0, 0, 0, none⟩] ∧
      ((s.voice .ring).state = .idle → (u.voice .ring).state = .starting ∧ (u.pool.clip clip).use = .playing .ring ∧
        ∀ y, (u.claim y .voiceRing).isSome = decide (y = z)) ∧
      ((s.voice .ring).state ≠ .idle → (u.voice .ring).state = (s.voice .ring).state ∧ (u.pool.clip clip).use = .queued .ring ∧
        u.arb = s.arb) := by
  obtain ⟨u, answered, framed, voc, pool, arb⟩ := callRing_placed q h hz one most idle placed
  have entry := ringPlacing_entry z clip gap
  have clipOf : (ringPlacing z clip gap).entry.clip = clip := by rw [entry]
  have used : (s.taking.pool.clip (ringPlacing z clip gap).entry.clip).state ≠ .free := clipOf ▸ State.placeRefusal_used placed
  have ring : u.voice .ring = (s.taking.accept .ring (ringPlacing z clip gap).entry).voice .ring := by rw [State.voice, voc]; rfl
  have queue : (u.voice .ring).queue = (s.voice .ring).queue ++ [(ringPlacing z clip gap).entry] := by
    rw [ring]
    by_cases free : (s.voice .ring).state = .idle
    · exact (State.accept_idle (s := s.taking) used free).1
    · exact congrArg VoiceRec.queue (State.accept_busy (s := s.taking) used free).2.1
  refine ⟨u, answered, framed, by rw [queue]; simp, by rw [queue, entry], fun free => ?_, fun busy => ?_⟩
  · obtain ⟨-, starting, playing, claims⟩ := State.accept_idle (s := s.taking) used free
    rw [clipOf] at playing
    refine ⟨by rw [ring, starting], by rw [pool, playing], fun y => ?_⟩
    rw [State.claim_isSome, State.mark_of_arb arb, ← State.claim_isSome]
    refine (claims y).trans ?_
    rw [entry]
    cases y <;> exact decide_eq_decide.2 eq_comm
  · obtain ⟨lists, voice, queued⟩ := State.accept_busy (s := s.taking) used busy
    rw [clipOf] at queued
    exact ⟨by rw [ring, voice]; rfl, by rw [pool, queued], arb.trans lists⟩

/-- Settles O51: the record, the claims, the route and the takes of each command. -/
theorem callCommandsMoveTheCall : Obligations.CallCommandsMoveTheCall := by
  refine ⟨fun s q m z clip gap h hz one most idle => ⟨callRing_settles q h hz one most idle, fun c refused => ?_⟩,
    fun s q m clip gap h => ⟨fun unnamed => ?_, fun zone one most busy => ?_, fun zone one most idle long => ?_⟩,
    fun s q h free => ⟨fun room => ?_, fun full => ?_⟩, fun s q h active => ⟨?_, ?_, ?_⟩, fun s q h held => ⟨?_, ?_⟩,
    fun s q h other => ?_, fun s q h other => ?_, fun s q h => ⟨fun room => ?_, fun full => ?_⟩,
    fun s q m z h hz => ⟨fun same => ?_, fun moved inactive => ?_, fun moved active => ?_⟩, fun s q m h zone => ?_⟩
  · exact answers_lockable 9 0 h (exec_callRing q m clip gap s) rfl (ringBody_unplaced (s := s.taking) hz one most idle refused)
  · exact answers_lockable 9 0 h (exec_callRing q m clip gap s) rfl (ringBody_unnamed unnamed gap s.taking)
  · obtain ⟨z, hz⟩ := zoneOf_isSome zone
    exact answers_lockable 9 0 h (exec_callRing q m clip gap s) rfl (ringBody_busy (s := s.taking) hz one most busy gap)
  · obtain ⟨z, hz⟩ := zoneOf_isSome zone
    exact answers_lockable 9 0 h (exec_callRing q m clip gap s) rfl
      (ringBody_unplaced (s := s.taking) hz one most idle (placeRefusal_gap long))
  · obtain ⟨u, a, f, answered, framed, entered, clip, queue⟩ := callAnswer_enters q h free room
    refine ⟨u, a, f, answered, framed, entered.state, entered.mode, entered.route, entered.routeSet, entered.echo, clip, queue,
      entered.claims, fun driver => ?_⟩
    have claimed := entered.claims .cabin
    rw [driver] at claimed
    obtain ⟨x, hx⟩ := Option.isSome_iff_exists.1 claimed
    rw [hx, Option.map_some, entered.shadow .cabin x hx, driver]
    rfl
  · exact answers_lockable 9 1 h (exec_callAnswer q s) rfl (answerBody_full (s := s.taking) free (State.flush_busy (s := s.taking) full))
  · obtain ⟨u, answered, framed, left⟩ := callHold_leaves q h active
    obtain ⟨r, call⟩ := left.call
    refine ⟨u, answered, framed, by rw [call]; rfl, by rw [call]; rfl, by rw [call]; rfl, by rw [call]; rfl, left.claims,
      left.carried.cases, fun on => ?_⟩
    rw [call]
    exact (congrArg (fun e : Echo => e.retained.get s.call.routeSet) (if_neg on)).trans (PerMicSet.get_set_same ..)
  · exact answers_lockable 9 1 h (exec_callAnswer q s) rfl (answerBody_engaged (s := s.taking) (.inl active))
  · exact answers_lockable 9 3 h (exec_callResume q s) rfl (if_neg (by rw [show s.taking.call.state = .active from active]; decide))
  · obtain ⟨u, answered, framed, entered, coeff⟩ := callResume_enters q h held
    refine ⟨u, answered, framed, entered.state, entered.mode, entered.route, entered.routeSet, entered.echo, entered.claims, fun off => ?_⟩
    rw [coeff, Echo.store, if_pos off]
    rfl
  · exact answers_lockable 9 1 h (exec_callAnswer q s) rfl (answerBody_engaged (s := s.taking) (.inr held))
  · exact answers_lockable 9 2 h (exec_callHold q s) rfl (if_neg other)
  · exact answers_lockable 9 3 h (exec_callResume q s) rfl (if_neg other)
  · obtain ⟨u, a, f, answered, framed, state, mode, clip, queue, active, inactive⟩ := callEnd_ends q h room
    refine ⟨u, a, f, answered, framed, state, mode, clip, queue, fun h => ?_, inactive⟩
    obtain ⟨route, echo, carried, claims⟩ := active h
    exact ⟨route, echo, carried.cases, claims⟩
  · exact answers_lockable 9 4 h (exec_callEnd q s) rfl (endBody_full (State.flush_busy (s := s.taking) full))
  · exact answers_lockable 9 5 h (exec_callMode q m s) rfl (modeBody_same (s := s.taking) hz same)
  · have reply : modeBody m s.taking = (.done (.call s.call.state z (micSetOf z) none),
        { s.taking with call := { s.taking.call with mode := z } }) := by
      rw [modeBody_moves (s := s.taking) hz moved, State.moveCall_inactive (s := s.taking) inactive]
      rfl
    exact answers_gate_portless 9 5 h.1.2 h.gate (exec_callMode q m s) rfl reply rfl
  · obtain ⟨u, answered, framed, call, marks⟩ := callMode_moves q h hz moved active
    obtain ⟨off, on⟩ := State.moveCall_call (s := s.taking) (z := z) active
    have kept : u.call.state = .active ∧ u.call.mode = z ∧ u.call.route = s.call.route ∧ u.call.routeSet = micSetOf z := by
      rw [call]
      by_cases echo : s.call.echo.state = .off
      · rw [off echo]; exact ⟨active, rfl, rfl, rfl⟩
      · rw [on echo]; exact ⟨active, rfl, rfl, rfl⟩
    obtain ⟨state, mode, route, routeSet⟩ := kept
    refine ⟨u, answered, framed, state, mode, route, routeSet, fun echo => ?_, fun echo => by rw [call, off echo]; rfl, fun y c hc => ?_,
      fun y => ?_⟩
    · rw [call, on echo]
      exact ⟨rfl, rfl, rfl, rfl, PerMicSet.get_set_same .., fun x hx => PerMicSet.get_set_ne _ _ (Ne.symm hx), rfl⟩
    · exact callClaim_shadow ((marks y).symm.trans (by rw [State.mark, hc]; rfl))
    · rw [State.claim_isSome, marks, callClaim_isSome]
  · exact answers_lockable 9 5 h (exec_callMode q m s) rfl (by rw [modeBody, zoneOf_isNone zone]; rfl)

end Sys2Proof.Machine
end

section
/-! SUPPORT. Override (R159, R174, R176): its claims, the emergency step, the call's hold and its return. -/

namespace Sys2Proof.Machine

/-! ## What override leaves -/

/-- What entry and exit leave: the vehicle port and the volume steps apart, what takes and calls leave. -/
abbrev OverrideFrame (s t : State) : Prop := CallFrame { s with veh := t.veh, rend := { s.rend with volume := t.rend.volume } } t

theorem CallFrame.override {s t : State} (h : CallFrame s t) : OverrideFrame s t := by
  simp only [OverrideFrame, CallFrame] at h ⊢
  simp only [h, and_self]

theorem overrideFrame_trans {s t u : State} (h : OverrideFrame s t) (h' : OverrideFrame t u) : OverrideFrame s u := by
  simp only [OverrideFrame, CallFrame] at h h' ⊢
  simp only [h, h', and_self]

theorem State.mapVeh_override (s : State) (f : Vehicle → Vehicle) : OverrideFrame s (s.mapVeh f) := by
  simp [OverrideFrame, CallFrame]

theorem State.setCallStep_override (s : State) (step : Nat) : OverrideFrame s (s.setCallStep step) := by
  simp [OverrideFrame, CallFrame, State.setCallStep]

/-! ## VOLUME(CABIN, CALL) (R179) -/

/-- R179: between two states VOLUME(CABIN, CALL) was delivered once, where its step or its curve index differs. -/
def DeliveredOnce (s t : State) : Prop := ∀ (i : Nat) (k : Watch), s.wat.slots[i]? = some (some k) → k.quantity = .volume .cabin .call →
  t.wat.slots[i]? = some (some (if s.rend.volume.cabin.call = t.rend.volume.cabin.call ∧
      s.bank.current.cabin.callCurve = t.bank.current.cabin.callCurve then k
    else (evalWatch (t.volFigure .cabin .call) k).1))

theorem State.volSetting_congr {s t : State} {z : Zone} (volume : t.rend.volume = s.rend.volume)
    (current : t.bank.current.get z = s.bank.current.get z) (curves : t.bank.curves = s.bank.curves) (k : Kind) :
    t.volSetting z k = s.volSetting z k := by
  simp only [State.volSetting, State.volFigure, State.vol, State.profile, Bank.curveAt, volume, current, curves]

theorem Watch.volumeTold_congr {s t x y : State} {z : Zone} {k : Kind} (old : s.volSetting z k = t.volSetting z k)
    (new : x.volSetting z k = y.volSetting z k) (w : Watch) : w.volumeTold s x z k = w.volumeTold t y z k := by
  have figure : x.volFigure z k = y.volFigure z k := congrArg (fun v => v.2.2) new
  rw [Watch.volumeTold, Watch.volumeTold, old, new, figure]

/-- R179: one delivery, measured against the state found. -/
theorem DeliveredOnce.of_told {s t : State} (curves : t.bank.curves = s.bank.curves)
    (h : ∀ (i : Nat) (w : Watch), s.wat.slots[i]? = some (some w) → w.quantity = .volume .cabin .call →
      t.wat.slots[i]? = some (some (w.volumeTold s t .cabin .call))) : DeliveredOnce s t := by
  intro i w hw hq
  rw [h i w hw hq, Watch.volumeTold]
  simp only [State.volSetting_eq_iff curves]
  rfl

theorem DeliveredOnce.after {s t u : State} (h : DeliveredOnce t u)
    (tells : ∀ (i : Nat) (w : Watch), s.wat.slots[i]? = some (some w) → w.quantity ≠ .freePages → t.wat.slots[i]? = some (some w))
    (volume : t.rend.volume = s.rend.volume) (bank : t.bank = s.bank) : DeliveredOnce s u := by
  intro i w hw hq
  rw [← volume, ← bank]
  exact h i w (tells i w hw (by rw [hq]; exact Quantity.noConfusion)) hq

/-! ## Entry (R159, R174) -/

/-- R174: TELEM in every zone, one moment of R143 counted from `base`. -/
def State.fileTelem (s base : State) : State :=
  ((((s.fileTold .cabin .telem false).fileTold .driver .telem true).fileTold .rearL .telem true).fileTold .rearR .telem
    true).captureAfter base

theorem State.fileTelem_work (s base : State) : ClaimWork s (s.fileTelem base) :=
  ((((s.fileTold_work .cabin .telem false).trans (State.fileTold_work _ .driver .telem true)).trans
    (State.fileTold_work _ .rearL .telem true)).trans (State.fileTold_work _ .rearR .telem true)).trans (State.captureAfter_work _ base)

theorem State.fileTelem_frame (s base : State) : ClaimFrame s (s.fileTelem base) := by
  simp [State.fileTelem, ClaimFrame]

theorem State.fileTelem_mark (s base : State) (z : Zone) (x : Source) :
    (s.fileTelem base).mark z x = if x = .telem then some (decide (z ≠ .cabin)) else s.mark z x := by
  have telem : classOf .telem ≠ .entertainment := by decide
  rw [State.fileTelem, State.captureAfter_mark]
  simp only [State.fileTold_mark _ _ telem]
  cases z <;> by_cases hx : x = .telem <;> simp [hx]

/-- R159: a force-hold in override carries out no take. -/
theorem State.deferredCheck_override {s : State} (h : s.veh.override = true) : s.deferredCheck = s := by
  have waits (z : Zone) : s.checkDeferred z = s := by
    simp [State.checkDeferred, State.takeDue, State.takeWaits, State.overrideWaits, h]
  simp only [State.deferredCheck, waits]

/-- R159: the record of a call under a force-hold. -/
def Call.forced (c : Call) : Call :=
  if c.state = .active then ({ c with savedTag := some c.state } : Call).left .held else { c with savedTag := some c.state }

/-- R159: the force-hold order in override. -/
theorem State.forceHold_override {s : State} (h : s.veh.override = true) :
    s.forceHold.call = s.call.forced ∧ s.forceHold.bank = s.bank ∧ TellsPages s s.forceHold ∧
    ∀ z x, s.forceHold.mark z x = if x = .call ∧ s.call.state = .active then none else s.mark z x := by
  have tagged := s.mapCall_rest fun c => { c with savedTag := some s.call.state }
  by_cases active : s.call.state = .active
  · have held : s.forceHold = (s.mapCall fun c => { c with savedTag := some s.call.state }).callLeft .held := by
      rw [State.forceHold, if_pos active, State.callHeld, State.callLeave_eq, State.deferredCheck_override]
      rw [(State.callLeft_tellsPages ..).veh]
      exact h
    rw [held, Call.forced, if_pos active]
    refine ⟨State.callLeft_call .., (State.callLeft_bank ..).trans tagged.bank, tagged.tellsPages.trans (State.callLeft_tellsPages ..),
      fun z x => ?_⟩
    rw [State.callLeft_mark, State.mark_of_arb tagged.arb]
    simp [active]
  · have held : s.forceHold = s.mapCall fun c => { c with savedTag := some s.call.state } := if_neg active
    rw [held, Call.forced, if_neg active]
    exact ⟨rfl, rfl, tagged.tellsPages, fun z x => by rw [State.mark_of_arb tagged.arb]; simp [active]⟩

theorem Call.forced_facts (c : Call) : c.forced.savedTag = some c.state ∧
    c.forced.state = (if c.state = .active then .held else c.state) := by
  unfold Call.forced
  split <;> exact ⟨rfl, rfl⟩

/-- R159, R161, R174: an entry up to the emergency step. -/
def State.enterHeld (s : State) : State :=
  (((s.mapVeh fun x => { x with override := true }).fileTelem s).forceHold).setRoute .telem .all

/-- R174: the emergency step, the step that it takes the place of saved. -/
def State.emergencyStep (s : State) : State :=
  (s.mapVeh fun x => { x with savedStep := some s.rend.volume.cabin.call }).setCallStep s.veh.step

theorem State.overrideEnterRecord_eq {s : State} (h : s.veh.override = false) :
    s.overrideEnterRecord = (s.enterHeld.emergencyStep.deliverVolumes s.enterHeld .cabin).raise .override := by
  simp only [State.overrideEnterRecord, h]
  rfl

/-- R159, R161, R174: what an entry makes of the claims, the call and the vehicle port up to the emergency step. -/
theorem State.enterHeld_facts (s : State) :
    s.enterHeld.bank = s.bank ∧ s.enterHeld.rend.volume = s.rend.volume ∧ s.enterHeld.veh = { s.veh with override := true } ∧
    s.enterHeld.call = { s.call.forced.serveSet .all with route := .telem, echo := s.call.forced.echoOn .all } ∧
    TellsPages { s with veh := { s.veh with override := true } } s.enterHeld ∧
    (∀ z, s.enterHeld.mark z .telem = some (decide (z ≠ .cabin))) ∧
    ∀ z, s.enterHeld.mark z .call = if s.call.state = .active then none else s.mark z .call := by
  let t := (s.mapVeh fun x => { x with override := true }).fileTelem s
  have work : ClaimWork { s with veh := { s.veh with override := true } } t := State.fileTelem_work _ s
  have frame : ClaimFrame { s with veh := { s.veh with override := true } } t := State.fileTelem_frame _ s
  have veh : t.veh = { s.veh with override := true } := work.tellsPages.veh
  obtain ⟨call, bank, tells, marks⟩ := State.forceHold_override (s := t) (by rw [veh])
  have rest : KeepsRest t.forceHold s.enterHeld := State.setRoute_rest _ .telem .all
  have told : TellsPages { s with veh := { s.veh with override := true } } s.enterHeld := (work.tellsPages.trans tells).trans rest.tellsPages
  have mark (z : Zone) (x : Source) := (State.mark_of_arb rest.arb z x).trans (marks z x)
  have filed (z : Zone) (x : Source) : t.mark z x = if x = .telem then some (decide (z ≠ .cabin)) else s.mark z x :=
    State.fileTelem_mark _ s z x
  have volume : s.enterHeld.rend.volume = s.rend.volume :=
    CallFrame.volume (s := { s with veh := { s.veh with override := true } })
      (CallFrame.trans (callFrame_of_claim frame) (CallFrame.trans t.forceHold_frame (State.setRoute_frame _ .telem .all)))
  refine ⟨(rest.bank.trans bank).trans frame.bank, volume, told.veh, ?_, told, fun z => ?_, fun z => ?_⟩
  · rw [State.enterHeld, State.setRoute_taken _ (by decide), call, frame.call]
  · rw [mark, filed]
    rfl
  · rw [mark, filed, frame.call]
    by_cases active : s.call.state = .active <;> simp [active]

theorem State.enterHeld_frame (s : State) : OverrideFrame s s.enterHeld := by
  let t := (s.mapVeh fun x => { x with override := true }).fileTelem s
  have filed : CallFrame (s.mapVeh fun x => { x with override := true }) t := callFrame_of_claim (State.fileTelem_frame _ s)
  have held : CallFrame t s.enterHeld := CallFrame.trans t.forceHold_frame (State.setRoute_frame _ .telem .all)
  exact overrideFrame_trans (s.mapVeh_override _) (CallFrame.trans filed held).override

/-- R174, R179: the emergency step, its delivery and the notice. -/
theorem State.emergencyStep_facts (s : State) : ∀ t, t = (s.emergencyStep.deliverVolumes s .cabin).raise .override →
    OverrideFrame s t ∧ t.veh = { s.veh with savedStep := some s.rend.volume.cabin.call } ∧
    t.rend.volume = { s.rend.volume with cabin := { s.rend.volume.cabin with call := s.veh.step } } ∧
    t.bank = s.bank ∧ t.arb = s.arb ∧ t.call = s.call ∧ t.port.flags.getLsbD 26 = true ∧ DeliveredOnce s t := by
  rintro t rfl
  have step : OverrideFrame s s.emergencyStep := overrideFrame_trans (s.mapVeh_override _) (State.setCallStep_override _ _)
  have told : CallFrame s.emergencyStep ((s.emergencyStep.deliverVolumes s .cabin).raise .override) :=
    CallFrame.trans (callFrame_of_claim (State.deliverVolumes_frame _ _ _)) (callFrame_of_claim (State.raise_frame _ _))
  have bank : ((s.emergencyStep.deliverVolumes s .cabin).raise .override).bank = s.bank := by simp [State.emergencyStep, State.setCallStep]
  refine ⟨overrideFrame_trans step told.override, by simp [State.emergencyStep, State.setCallStep], told.volume.trans rfl, bank,
    by simp [State.emergencyStep, State.setCallStep], by simp [State.emergencyStep, State.setCallStep],
    Port.raise_sets _ .override (by decide), .of_told (by rw [bank]) fun i w hw hq => ?_⟩
  refine (s.emergencyStep.deliverVolumes_watch s .cabin (i := i) hw hq).trans ?_
  rw [Watch.volumeTold_congr rfl (State.volSetting_congr told.volume (by rw [bank]; rfl) (by rw [bank]; rfl) .call).symm]

/-- R174: an entry. -/
theorem State.overrideEnterRecord_facts {s : State} (h : s.veh.override = false) :
    OverrideFrame s s.overrideEnterRecord ∧
    s.overrideEnterRecord.veh = { s.veh with override := true, savedStep := some s.rend.volume.cabin.call } ∧
    s.overrideEnterRecord.rend.volume = { s.rend.volume with cabin := { s.rend.volume.cabin with call := s.veh.step } } ∧
    s.overrideEnterRecord.bank = s.bank ∧ s.overrideEnterRecord.arb = s.enterHeld.arb ∧ s.overrideEnterRecord.call = s.enterHeld.call ∧
    s.overrideEnterRecord.port.flags.getLsbD 26 = true ∧ DeliveredOnce s s.overrideEnterRecord := by
  obtain ⟨bank, volume, veh, -, tells, -, -⟩ := s.enterHeld_facts
  obtain ⟨frame, veh', volume', bank', arb, call, flag, once⟩ := State.emergencyStep_facts _ _ (State.overrideEnterRecord_eq h)
  exact ⟨overrideFrame_trans s.enterHeld_frame frame, by rw [veh', veh, volume], by rw [volume', volume, veh], bank'.trans bank, arb, call,
    flag, once.after tells.watches volume bank⟩

/-! ## The check at an exit (R58, R176) -/

theorem CallFrame.curves {s t : State} (h : CallFrame s t) : t.bank.curves = s.bank.curves := by
  simp only [CallFrame] at h
  simp only [h]

/-- R179: the checks of the other zones leave a watch on a VOLUME of CABIN. -/
theorem State.checkDeferred_watch_ne (s : State) {z y : Zone} (zone : y ≠ z) {k : Kind} {i : Nat} {w : Watch}
    (h : s.wat.slots[i]? = some (some w)) (hq : w.quantity = .volume y k) : (s.checkDeferred z).wat.slots[i]? = some (some w) := by
  unfold State.checkDeferred
  split
  · exact s.takeCopyFrom_watch_ne s zone h hq
  · exact h

theorem State.deliverVolumes_takesNone (s base : State) (z : Zone) : Takes (fun _ => false) s (s.deliverVolumes base z) := by
  rw [State.deliverVolumes_eq]
  exact ⟨rfl, fun _ => rfl, fun _ => rfl, ⟨_, rfl⟩, rfl, fun _ => rfl, fun _ _ _ => rfl, fun _ h => h⟩

/-- R58, R179: CABIN's check at an exit, with its one delivery of each VOLUME, measured against `base`. -/
def State.exitCabin (s base : State) : State :=
  if s.takeDue .cabin ∧ s.takeChanges .cabin then s.takeCopyFrom base .cabin
  else (s.checkDeferred .cabin).deliverVolumes base .cabin

/-- R58: the checks of the other zones. -/
def State.checkOthers (s : State) : State := ((s.checkDeferred .driver).checkDeferred .rearL).checkDeferred .rearR

theorem State.exitCheck_eq (s base : State) : s.exitCheck base = (s.exitCabin base).checkOthers := rfl

/-- R58, R179: they leave CABIN's profile and the watches on its VOLUMEs. -/
theorem State.checkOthers_facts (s : State) : CallFrame s s.checkOthers ∧
    s.checkOthers.bank.current.get .cabin = s.bank.current.get .cabin ∧
    ∀ (i : Nat) (w : Watch) (k : Kind), s.wat.slots[i]? = some (some w) → w.quantity = .volume .cabin k →
      s.checkOthers.wat.slots[i]? = some (some w) := by
  have driver := s.checkDeferred_takesZone .driver
  have rearL := (s.checkDeferred .driver).checkDeferred_takesZone .rearL
  have rearR := ((s.checkDeferred .driver).checkDeferred .rearL).checkDeferred_takesZone .rearR
  refine ⟨?_, ((driver.trans rearL).trans rearR).current .cabin, fun i w k h hq => ?_⟩
  · exact CallFrame.trans (CallFrame.trans (s.checkDeferred_frame .driver) ((s.checkDeferred .driver).checkDeferred_frame .rearL))
      (State.checkDeferred_frame _ .rearR)
  · exact State.checkDeferred_watch_ne _ (by decide) (State.checkDeferred_watch_ne _ (by decide)
      (s.checkDeferred_watch_ne (by decide) h hq) hq) hq

theorem State.exitCabin_takes (s base : State) : Takes (fun y => decide (y = .cabin) && s.takeDue .cabin) s (s.exitCabin base) := by
  unfold State.exitCabin
  split
  next h => exact (s.takeCopyFrom_takesZone base .cabin).congr fun y => by rw [h.1, Bool.and_true]
  next =>
    exact ((s.checkDeferred_takesZone .cabin).trans (State.deliverVolumes_takesNone _ base .cabin)).congr fun y => (Bool.or_false _).symm

theorem State.exitCabin_frame (s base : State) : CallFrame s (s.exitCabin base) := by
  unfold State.exitCabin
  split
  · exact s.takeCopyFrom_frame base .cabin
  · exact CallFrame.trans (s.checkDeferred_frame .cabin) (callFrame_of_claim (State.deliverVolumes_frame _ base .cabin))

/-- R59: a check that changes no profile tells nothing. -/
theorem State.checkDeferred_wat {s : State} {z : Zone} (h : ¬ (s.takeDue z = true ∧ s.takeChanges z = true)) :
    (s.checkDeferred z).wat = s.wat := by
  unfold State.checkDeferred
  split
  next due =>
    have same : s.bank.current.get z = s.bank.staged.get z := by
      by_contra changes
      exact h ⟨due, decide_eq_true changes⟩
    rw [State.takeCopy, State.takeCopyFrom_same s same]
  next => rfl

theorem State.exitCabin_watch (s base : State) {i : Nat} {w : Watch} (h : s.wat.slots[i]? = some (some w))
    (hq : w.quantity = .volume .cabin .call) :
    (s.exitCabin base).wat.slots[i]? = some (some (w.volumeTold base (s.exitCabin base) .cabin .call)) := by
  unfold State.exitCabin
  split
  next changes =>
    have frame := s.takeCopyFrom_frame base .cabin
    obtain ⟨bank, -⟩ := s.takeCopyFrom_registers base .cabin
    refine (State.takeCopyFrom_watch base (of_decide_eq_true changes.2) h hq).trans ?_
    rw [Watch.volumeTold_congr rfl (State.volSetting_congr (s := s.copied .cabin) (CallFrame.volume frame) (by rw [bank]; rfl)
      (by rw [bank]; rfl) .call).symm]
  next changes =>
    have frame := (s.checkDeferred .cabin).deliverVolumes_frame base .cabin
    refine (State.deliverVolumes_watch _ base .cabin (State.checkDeferred_wat changes ▸ h) hq).trans ?_
    rw [Watch.volumeTold_congr rfl (State.volSetting_congr (CallFrame.volume (callFrame_of_claim frame)) (by rw [frame.bank])
      (by rw [frame.bank]) .call).symm]

/-- R58, R176, R179: the check at an exit. -/
theorem State.exitCheck_facts (s base : State) : Takes s.takeDue s (s.exitCheck base) ∧ CallFrame s (s.exitCheck base) ∧
    ∀ (i : Nat) (w : Watch), s.wat.slots[i]? = some (some w) → w.quantity = .volume .cabin .call →
      (s.exitCheck base).wat.slots[i]? = some (some (w.volumeTold base (s.exitCheck base) .cabin .call)) := by
  obtain ⟨frame, current, kept⟩ := (s.exitCabin base).checkOthers_facts
  have carried : Takes s.takeDue s (s.exitCheck base) := (s.exitCabin_takes base).others
  rw [State.exitCheck_eq] at carried ⊢
  refine ⟨carried, CallFrame.trans (s.exitCabin_frame base) frame, fun i w h hq => ?_⟩
  have quantity := (w.volumeTold_quantity base (s.exitCabin base) .cabin .call).trans hq
  rw [← Watch.volumeTold_congr rfl (State.volSetting_congr (CallFrame.volume frame) current (CallFrame.curves frame) .call).symm]
  exact kept i _ .call (s.exitCabin_watch base h hq) quantity

end Sys2Proof.Machine
end

section
/-! SUPPORT. The exit of override (R159, R161, R176). -/

namespace Sys2Proof.Machine

/-- R176: the step given back. -/
def State.stepBack (s : State) : State :=
  (s.mapVeh fun x => { x with savedStep := none }).setCallStep (s.veh.savedStep.getD s.rend.volume.cabin.call)

/-- R161, R176: and the uplink. -/
def State.uplinkBack (s : State) : State := s.stepBack.setRoute .none s.stepBack.call.routeSet

/-- R159, R176: the resume or the drop order. -/
def State.callBack (s : State) (drop : Bool) : State := if drop then s.uplinkBack.dropCall else s.uplinkBack.resumeCall

/-- R176: TELEM withdrawn, and override off. -/
def State.telemBack (s : State) : State := (s.withdrawAll .telem).mapVeh fun x => { x with override := false }

/-- R176: an exit up to its check of the DEFERRED zones. -/
def State.exitLeft (s : State) (drop : Bool) : State := (s.callBack drop).telemBack

theorem State.overrideExitRecord_eq {s : State} (h : s.veh.override = true) (drop : Bool) :
    s.overrideExitRecord drop = ((s.exitLeft drop).exitCheck s).raise .override := by
  simp only [State.overrideExitRecord, h]
  rfl

/-- R176: what an exit makes of the registers before the call orders. -/
theorem State.uplinkBack_facts (s : State) :
    s.uplinkBack.bank = s.bank ∧ s.uplinkBack.arb = s.arb ∧ s.uplinkBack.wat = s.wat ∧
    s.uplinkBack.veh = { s.veh with savedStep := none } ∧
    s.uplinkBack.rend.volume = { s.rend.volume with cabin := { s.rend.volume.cabin with
      call := s.veh.savedStep.getD s.rend.volume.cabin.call } } ∧
    s.uplinkBack.call = { s.call with route := .none, echo := s.call.echoOff } ∧ OverrideFrame s s.uplinkBack := by
  have rest : KeepsRest s.stepBack s.uplinkBack := State.setRoute_rest _ .none _
  have frame : CallFrame s.stepBack s.uplinkBack := State.setRoute_frame _ .none _
  have step : OverrideFrame s s.stepBack := overrideFrame_trans (s.mapVeh_override _) (State.setCallStep_override _ _)
  exact ⟨rest.bank, rest.arb, rest.wat, rest.veh, CallFrame.volume frame, State.setRoute_none _ _, overrideFrame_trans step frame.override⟩

/-- R159: what the resume order makes of a call that was ACTIVE. -/
theorem State.resumeCall_saved {s : State} (saved : s.call.savedTag = some .active) (held : s.call.state = .held) :
    s.resumeCall = s.callEnter.mapCall fun c => { c with savedTag := none } := by
  simp only [State.resumeCall, saved, held, and_self, if_true]

theorem State.resumeCall_other {s : State} (h : s.call.savedTag ≠ some .active ∨ s.call.state ≠ .held) :
    s.resumeCall = s.mapCall fun c => { c with savedTag := none } := by
  have other : ¬ (s.call.savedTag = some .active ∧ s.call.state = .held) := by
    rcases h with h | h
    · exact fun x => h x.1
    · exact fun x => h x.2
  simp only [State.resumeCall, if_neg other]

theorem State.resumeCall_untagged (s : State) : s.resumeCall.call.savedTag = none := rfl

theorem State.resumeCall_tellsPages (s : State) : TellsPages s s.resumeCall := by
  unfold State.resumeCall
  dsimp only
  split
  · exact s.callEnter_tellsPages.trans (State.mapCall_rest _ _).tellsPages
  · exact (s.mapCall_rest _).tellsPages

/-- R159: the drop order. -/
theorem State.dropCall_facts (s : State) : TellsPages s s.dropCall ∧
    s.dropCall.call = { s.call with state := .idle, ringClip := none, savedTag := none } := by
  unfold State.dropCall
  dsimp only
  split
  next r h => exact ⟨(State.flush_control (v := .ring) rfl h).2.trans (State.mapCall_rest _ _).tellsPages,
    congrArg (fun c : Call => { c with state := .idle, ringClip := none, savedTag := none }) (State.flush_frame h).call⟩
  next => exact ⟨(s.mapCall_rest _).tellsPages, rfl⟩

theorem State.callBack_facts (s : State) (drop : Bool) :
    (s.callBack drop).bank = s.bank ∧ TellsPages s.uplinkBack (s.callBack drop) ∧ CallFrame s.uplinkBack (s.callBack drop) := by
  have bank := s.uplinkBack_facts.1
  cases drop with
  | true => exact ⟨(State.dropCall_bank _).trans bank, s.uplinkBack.dropCall_facts.1, s.uplinkBack.dropCall_frame⟩
  | false => exact ⟨(State.resumeCall_bank _).trans bank, s.uplinkBack.resumeCall_tellsPages, s.uplinkBack.resumeCall_frame⟩

theorem State.telemBack_facts (s : State) :
    s.telemBack.bank = s.bank ∧ s.telemBack.veh = { s.veh with override := false } ∧ s.telemBack.rend.volume = s.rend.volume ∧
    s.telemBack.call = s.call ∧ (∀ z x, s.telemBack.mark z x = if x = .telem then none else s.mark z x) ∧
    (∀ (i : Nat) (w : Watch), s.wat.slots[i]? = some (some w) → w.quantity ≠ .freePages → s.telemBack.wat.slots[i]? = some (some w)) ∧
    OverrideFrame s s.telemBack := by
  have work := (s.withdrawAll_work .telem).tellsPages
  have mark := s.withdrawAll_mark .telem
  have frame : ClaimFrame s (s.withdrawAll .telem) := s.withdrawAll_frame .telem
  rw [State.telemBack]
  generalize s.withdrawAll .telem = t at work mark frame ⊢
  exact ⟨frame.bank, congrArg (fun x : Vehicle => { x with override := false }) work.veh, CallFrame.volume (t := t) (callFrame_of_claim frame),
    frame.call, mark, work.watches, overrideFrame_trans (callFrame_of_claim frame).override (t.mapVeh_override _)⟩

/-- R176: the state that an exit's check finds. -/
structure ExitLeft (s t : State) (drop : Bool) : Prop where
  bank : t.bank = s.bank
  veh : t.veh = { s.veh with override := false, savedStep := none }
  volume : t.rend.volume = { s.rend.volume with cabin := { s.rend.volume.cabin with
    call := s.veh.savedStep.getD s.rend.volume.cabin.call } }
  watches : ∀ (i : Nat) (w : Watch), s.wat.slots[i]? = some (some w) → w.quantity ≠ .freePages → t.wat.slots[i]? = some (some w)
  call : t.call = (s.callBack drop).call
  mark : ∀ z x, t.mark z x = if x = .telem then none else (s.callBack drop).mark z x
  frame : OverrideFrame s t

theorem State.exitLeft_left (s : State) (drop : Bool) : ExitLeft s (s.exitLeft drop) drop := by
  obtain ⟨-, -, wat, veh, volume, -, frame⟩ := s.uplinkBack_facts
  obtain ⟨bank, tells, framed⟩ := s.callBack_facts drop
  obtain ⟨bank', veh', volume', call, mark, watches, frame'⟩ := (s.callBack drop).telemBack_facts
  exact ⟨bank'.trans bank, by rw [State.exitLeft, veh', tells.veh, veh], by rw [State.exitLeft, volume', CallFrame.volume framed, volume],
    fun i w h hq => watches i w (tells.watches i w (wat ▸ h) hq) hq, call, mark,
    overrideFrame_trans frame (overrideFrame_trans framed.override frame')⟩

/-- R58: the takes of an exit: each DEFERRED one, but CABIN's where the call is ACTIVE again and the take changes the EQ preset. -/
def CarriedAtExit (s t : State) : Prop := ∀ z,
  let due := s.bank.take.get z = .deferred ∧
    ¬ (z = .cabin ∧ t.call.state = .active ∧ s.bank.staged.cabin.eqPreset ≠ s.bank.current.cabin.eqPreset)
  (due → t.bank.current.get z = s.bank.staged.get z ∧ t.bank.take.get z = .idle) ∧
  (¬ due → t.bank.current.get z = s.bank.current.get z ∧ t.bank.take.get z = s.bank.take.get z)

theorem State.takeDue_iff (s : State) (z : Zone) : s.takeDue z = true ↔ s.bank.take.get z = .deferred ∧ ¬ s.takeWaits z = true := by
  simp [State.takeDue]

/-- R58, R176: the check carries them out, in a state whose override is off. -/
theorem Takes.carriedAtExit {s x t : State} (h : Takes x.takeDue x t) (bank : x.bank = s.bank) (override : x.veh.override = false) :
    CarriedAtExit s t := by
  intro z
  obtain ⟨b, call⟩ := h.call
  have state : t.call.state = x.call.state := by rw [call]
  have due : x.takeDue z = true ↔ s.bank.take.get z = .deferred ∧
      ¬ (z = .cabin ∧ t.call.state = .active ∧ s.bank.staged.cabin.eqPreset ≠ s.bank.current.cabin.eqPreset) := by
    rw [State.takeDue_iff, State.takeWaits_iff, override, bank, state]
    simp only [Bool.false_eq_true, false_or]
  have current := h.current z
  have take := h.take z
  simp only [due, bank] at current take
  exact ⟨fun yes => ⟨current.trans (if_pos yes), take.trans (if_pos yes)⟩, fun no => ⟨current.trans (if_neg no), take.trans (if_neg no)⟩⟩

/-- R176: what an exit does. -/
structure Exits (s t : State) (drop : Bool) : Prop where
  frame : OverrideFrame s t
  veh : t.veh = { s.veh with override := false, savedStep := none }
  volume : t.rend.volume = { s.rend.volume with cabin := { s.rend.volume.cabin with
    call := s.veh.savedStep.getD s.rend.volume.cabin.call } }
  telem : ∀ z, t.claim z .telem = none
  flag : t.port.flags.getLsbD 26 = true
  once : DeliveredOnce s t
  carried : CarriedAtExit s t
  call : ∃ b, t.call = { (s.callBack drop).call with reconverge := b }
  mark : ∀ z, t.mark z .call = (s.callBack drop).mark z .call

theorem ExitLeft.exits {s x : State} {drop : Bool} (h : ExitLeft s x drop) : Exits s ((x.exitCheck s).raise .override) drop := by
  obtain ⟨takes, frame, watches⟩ := x.exitCheck_facts s
  generalize x.exitCheck s = u at takes frame watches ⊢
  have told : CallFrame x (u.raise .override) := CallFrame.trans frame (callFrame_of_claim (u.raise_frame .override))
  have call := takes.call
  rw [h.call] at call
  have mark (z : Zone) {y : Source} (hy : ∀ p, y ≠ trafficSource p) : (u.raise .override).mark z y =
      if y = .telem then none else (s.callBack drop).mark z y :=
    (State.mark_of_arb (s := u) rfl z y).trans ((takes.mark z y hy).trans (h.mark z y))
  exact
    { frame := overrideFrame_trans h.frame told.override
      veh := takes.veh.trans h.veh
      volume := told.volume.trans h.volume
      telem := fun z => (State.claim_eq_none _ z .telem).2 (mark z fun p => by cases p <;> decide)
      flag := Port.raise_sets u.port .override (by decide)
      once := .of_told (told.curves.trans (by rw [h.bank])) fun i w hw hq =>
        watches i w (h.watches i w hw (by rw [hq]; exact Quantity.noConfusion)) hq
      carried := takes.carriedAtExit h.bank (by rw [h.veh])
      call := call
      mark := fun z => mark z fun p => by cases p <;> decide }

theorem State.overrideExitRecord_exits {s : State} (h : s.veh.override = true) (drop : Bool) : Exits s (s.overrideExitRecord drop) drop := by
  rw [State.overrideExitRecord_eq h]
  exact (s.exitLeft_left drop).exits

theorem exec_overrideEnter (s : State) : exec .overrideEnter s = execOverrideEnter s := rfl
theorem exec_overrideExitResume (s : State) : exec .overrideExitResume s = execOverrideExitResume s := rfl
theorem exec_overrideExitDrop (s : State) : exec .overrideExitDrop s = execOverrideExitDrop s := rfl

theorem Serves.takesRecords {s : State} (h : Serves s) : s.takesRecords = true := by
  simp [State.takesRecords, State.running, h.1, h.2]

/-- R174, R176: a record that asks for what stands does nothing. -/
theorem State.overrideEnterRecord_stands {s : State} (h : s.veh.override = true) : s.overrideEnterRecord = s := if_pos h

theorem State.overrideExitRecord_stands {s : State} (h : s.veh.override = false) (drop : Bool) : s.overrideExitRecord drop = s := by
  simp [State.overrideExitRecord, h]

/-- Settles O57: an entry by `State.overrideEnterRecord_facts`, an exit by `State.overrideExitRecord_exits`. -/
theorem overrideEntersAndLeaves : Obligations.OverrideEntersAndLeaves := by
  refine ⟨fun s h off => ?_, fun s on => ?_, fun s h on => ?_, fun s h on => ?_, fun s off => ⟨?_, ?_⟩⟩
  · obtain ⟨frame, veh, volume, bank, arb, call, flag, once⟩ := State.overrideEnterRecord_facts off
    obtain ⟨-, -, -, held, -, telem, calls⟩ := s.enterHeld_facts
    obtain ⟨tag, state⟩ := s.call.forced_facts
    have marks (z : Zone) (x : Source) : s.overrideEnterRecord.mark z x = s.enterHeld.mark z x := State.mark_of_arb arb z x
    have filed (z : Zone) : s.overrideEnterRecord.mark z .telem = some (decide (z ≠ .cabin)) := (marks z .telem).trans (telem z)
    rw [held] at call
    refine ⟨_, by rw [exec_overrideEnter, execOverrideEnter, if_pos h.takesRecords], frame, veh, volume, bank,
      fun z => by rw [State.claim_isSome, filed]; rfl, filed, fun z => ?_, by rw [call]; exact tag, by rw [call]; exact state,
      by rw [call], by rw [call]; rfl, by rw [call]; rfl, flag, once⟩
    rw [State.claim_isSome, State.claim_isSome, marks, calls]
    by_cases active : s.call.state = .active <;> simp [active]
  · rw [exec_overrideEnter, execOverrideEnter, State.overrideEnterRecord_stands on, ite_self]
  · have exits := State.overrideExitRecord_exits on false
    obtain ⟨b, call⟩ := exits.call
    obtain ⟨-, arb, -, -, -, back, -⟩ := s.uplinkBack_facts
    have tag : s.uplinkBack.call.savedTag = s.call.savedTag := by rw [back]
    have state : s.uplinkBack.call.state = s.call.state := by rw [back]
    have order : s.callBack false = s.uplinkBack.resumeCall := rfl
    refine ⟨_, by rw [exec_overrideExitResume, execOverrideExitResume, if_pos h.takesRecords], exits.frame, exits.veh, exits.volume,
      exits.telem, ?_, exits.flag, exits.once, exits.carried, fun saved held => ?_, fun other => ?_⟩
    · rw [call, order, State.resumeCall_untagged]
    · have entered : Entered s.uplinkBack.call s.uplinkBack.callEnter := s.uplinkBack.callEnter_entered
      rw [order, State.resumeCall_saved (tag.trans saved) (state.trans held)] at call
      have marks (z : Zone) : (s.overrideExitRecord false).mark z .call = callClaim s.call.mode z := by
        rw [exits.mark, order, State.resumeCall_saved (tag.trans saved) (state.trans held),
          State.mark_of_arb (State.mapCall_rest _ _).arb, State.callEnter_mark, if_pos rfl, back]
      refine ⟨by rw [call]; exact entered.state, by rw [call]; exact entered.route, by rw [call]; exact entered.echo, fun z => ?_,
        fun z c hc => callClaim_shadow ((marks z).symm.trans (by rw [State.mark, hc]; rfl))⟩
      rw [State.claim_isSome, marks, callClaim_isSome]
    · have kept : s.uplinkBack.call.savedTag ≠ some .active ∨ s.uplinkBack.call.state ≠ .held := by rwa [tag, state]
      rw [order, State.resumeCall_other kept, State.mapCall_call, back] at call
      refine ⟨by rw [call], by rw [call], by rw [call]; rfl, fun z => ?_⟩
      rw [State.claim_isSome, State.claim_isSome, exits.mark, order, State.resumeCall_other kept,
        State.mark_of_arb (State.mapCall_rest _ _).arb, State.mark_of_arb arb]
  · have exits := State.overrideExitRecord_exits on true
    obtain ⟨b, call⟩ := exits.call
    obtain ⟨-, -, -, -, -, back, -⟩ := s.uplinkBack_facts
    have dropped : (s.callBack true).call = { s.uplinkBack.call with state := .idle, ringClip := none, savedTag := none } :=
      s.uplinkBack.dropCall_facts.2
    rw [dropped, back] at call
    exact ⟨_, by rw [exec_overrideExitDrop, execOverrideExitDrop, if_pos h.takesRecords], exits.frame, exits.veh, exits.volume,
      exits.telem, by rw [call], by rw [call], by rw [call], by rw [call], by rw [call]; rfl, exits.flag, exits.once, exits.carried⟩
  · rw [exec_overrideExitResume, execOverrideExitResume, State.overrideExitRecord_stands off, ite_self]
  · rw [exec_overrideExitDrop, execOverrideExitDrop, State.overrideExitRecord_stands off, ite_self]

end Sys2Proof.Machine
end

section
/-! SUPPORT. The uplink and the far end in a render frame (R158, R160, R165). -/

namespace Sys2Proof.Machine

/-! ## The multiplier of an uplink gain (R165) -/

/-- R165: from -480 to 48 qdB, in eighths, a multiplier lies below 8. -/
theorem multiplierEighths_spec {e : Int} (high : e ≤ 384) :
    (2 * multiplierEighths e - 1) ^ 640 * 10 ^ (-e).toNat ≤ 2 ^ 13440 * 10 ^ e.toNat ∧
      2 ^ 13440 * 10 ^ e.toNat < (2 * multiplierEighths e + 1) ^ 640 * 10 ^ (-e).toNat := by
  have base : (2 ^ 105 * 10 ^ 3) ^ 128 < (16777215 ^ 5) ^ 128 := Nat.pow_lt_pow_left (by norm_num) (by norm_num)
  have index : e.toNat ≤ 3 * 128 := by omega
  have power : 10 ^ e.toNat ≤ (10 ^ 3) ^ 128 := (Nat.pow_le_pow_right (by norm_num) index).trans_eq (Nat.pow_mul 10 3 128)
  have shift : 2 ^ (21 * 640) = (2 ^ 105) ^ 128 := by rw [← Nat.pow_mul]
  have exponent : (16777215 ^ 5) ^ 128 = 16777215 ^ 640 := by rw [← Nat.pow_mul]
  have below : 2 ^ (21 * 640) * 10 ^ e.toNat < 16777215 ^ 640 * 10 ^ (-e).toNat :=
    calc 2 ^ (21 * 640) * 10 ^ e.toNat ≤ 2 ^ (21 * 640) * (10 ^ 3) ^ 128 := Nat.mul_le_mul_left _ power
      _ = (2 ^ 105 * 10 ^ 3) ^ 128 := by rw [shift, Nat.mul_pow]
      _ < (16777215 ^ 5) ^ 128 := base
      _ = 16777215 ^ 640 := exponent
      _ ≤ 16777215 ^ 640 * 10 ^ (-e).toNat := Nat.le_mul_of_pos_right _ (Nat.pow_pos (by norm_num))
  exact powerOfTen_spec 640 e (by norm_num) below

/-! ## The far-end indication (R158) -/

theorem sumNat_eq (l : List Nat) : sumNat l = l.sum := List.sum_eq_foldl.symm

theorem farAbove_active {win : List Int}
    (h : (160 * 2 ^ 46) ^ 40 ≤ ((win.map fun x => x.natAbs ^ 2).sum) ^ 40 * 10 ^ 199) : farAbove win = true := by
  rw [← sumNat_eq] at h
  exact if_pos h

/-- R158: what lies at or below -200 qdB does not reach the level that is active whatever log 11 takes. -/
theorem not_above_of_le {e x : Nat} (positive : 0 < x) (h : e * 10 ^ 5 ≤ x) : ¬ x ^ 40 ≤ e ^ 40 * 10 ^ 199 := by
  intro above
  have powers : (e * 10 ^ 5) ^ 40 ≤ x ^ 40 := Nat.pow_le_pow_left h 40
  have split : (e * 10 ^ 5) ^ 40 = e ^ 40 * 10 ^ 199 * 10 := by ring
  have reached : 0 < x ^ 40 := Nat.pow_pos positive
  rw [split] at powers
  generalize e ^ 40 * 10 ^ 199 = y at above powers
  omega

theorem farAbove_inactive {win : List Int} (h : ((win.map fun x => x.natAbs ^ 2).sum) * 10 ^ 5 ≤ 160 * 2 ^ 46) :
    farAbove win = false := by
  rw [← sumNat_eq] at h
  exact (if_neg (not_above_of_le (by norm_num) h)).trans (if_pos h)

/-! ## The uplink samples (R160) -/

theorem takePad_eq (n : Nat) (l : List Int) : takePad n l = (List.range n).map fun j => l.getD j 0 := by
  refine List.ext_getElem (by simp [takePad]; omega) fun i hi hj => ?_
  have inside : i < n := by simpa using hj
  by_cases h : i < l.length
  · simp [takePad, h, inside]
  · simp [takePad, List.getElem_append, h]

/-- R160: the sample of a microphone, 0 where its list is shorter. -/
def micSample (m : PerMic (List Int)) (k : Mic) (j : Nat) : Int := if j < 16 then (m.get k).getD j 0 else 0

/-- R160: a sample of the route's set, in units of 2^-24. -/
def Call.sample (c : Call) (m : PerMic (List Int)) (j : Nat) : Int :=
  match c.routeSet with
  | .front => micSample m .m1 j + micSample m .m2 j
  | .rearL => 2 * micSample m .m3 j
  | .rearR => 2 * micSample m .m4 j
  | .all => 2 * micSample m c.selected j

theorem takePad_mic (m : PerMic (List Int)) (k : Mic) : takePad 16 (m.get k) = (List.range 16).map (micSample m k) := by
  rw [takePad_eq]
  exact List.map_congr_left fun j hj => (if_pos (List.mem_range.1 hj)).symm

theorem Call.uplinkInput_eq (c : Call) (m : PerMic (List Int)) : c.uplinkInput m = (List.range 16).map (c.sample m) := by
  have one (k : Mic) : (takePad 16 (m.get k)).map (2 * ·) = (List.range 16).map fun j => 2 * micSample m k j := by
    rw [takePad_mic, List.map_map]
    rfl
  have two : List.zipWith (· + ·) (takePad 16 (m.get .m1)) (takePad 16 (m.get .m2)) =
      (List.range 16).map fun j => micSample m .m1 j + micSample m .m2 j := by
    rw [takePad_mic, takePad_mic, List.zipWith_map, List.zipWith_self]
  unfold Call.uplinkInput Call.sample
  cases c.routeSet with
  | front => exact two
  | rearL => exact one .m3
  | rearR => exact one .m4
  | all => exact one c.selected

/-! ## The call in a frame -/

theorem State.applyNotice_call (s : State) : s.applyNotice.call = { s.call with
    reconverge := false
    echo := if s.call.reconverge = true ∧ s.call.echo.state ≠ .off then s.call.echo.startTest else s.call.echo } := by
  unfold State.applyNotice
  dsimp only
  cases notice : s.call.reconverge with
  | false =>
    have same : s.call = { s.call with reconverge := false } := by rw [← notice]
    simpa using same
  | true =>
    simp only [if_true]
    split
    next off => simp_all
    next on => rw [State.setEcho_call]; simp_all

theorem State.thermalStep_call (s : State) : s.thermalStep.call = s.call := by
  unfold State.thermalStep State.deliverThermal
  dsimp only
  split <;> simp

theorem State.mixdown_call (s : State) (snd : PerSource (List (Int × Int))) : (s.mixdown snd).call = s.call := by
  have clip (t : State) (z : Zone) (l : List Nat) : (t.clipZone z l).call = t.call := (t.clipZone_frame z l).call
  unfold State.mixdown
  dsimp only
  rw [clip, clip, clip, clip]
  rfl

theorem State.captureSamples_call (p : Path) (n : Nat) (l : List Sample) (s : State) : (State.captureSamples p n l s).call = s.call := by
  induction l generalizing s with
  | nil => rfl
  | cons v vs ih =>
    unfold State.captureSamples
    split
    · rename_i t h
      unfold State.captureSample at h
      obtain ⟨u, hu, rfl⟩ := Option.map_eq_some_iff.mp h
      have extended : u.call = s.call := by
        split at hu
        · obtain rfl := Option.some.inj hu
          rfl
        · exact (State.captureExtend_frame hu).call
      exact (ih _).trans extended
    · exact (s.truncate_frame p n).call

theorem State.captureFrame_call (s : State) (was : Capture) (snd : PerSource (List (Int × Int))) :
    (s.captureFrame was snd).call = s.call := by
  unfold State.captureFrame
  dsimp only
  split
  · split
    · rfl
    · split
      · exact (State.raise_rest _ _).2.2.2.2.2.2.2.2.2.1.trans (State.captureSamples_call ..)
      · exact State.captureSamples_call ..
  · rfl

/-- A render frame before its uplink. -/
def State.beforeUplink (s : State) (inp : FrameInput) : State :=
  (s.frameMixed inp).thermalStep.captureFrame s.frameOpened.traf.capture (s.frameOpened.frameSounds inp)

theorem State.renderStep_uplink (s : State) (inp : FrameInput) :
    s.renderStep inp = (((s.beforeUplink inp).uplinkFrame inp).adapt).farFrame inp := rfl

/-- R60: up to its uplink a frame does to the call what the waiting notice does. -/
theorem State.beforeUplink_call (s : State) (inp : FrameInput) : (s.beforeUplink inp).call = s.applyNotice.call := by
  have falls (t : State) : t.thermalFalls.call = t.call := by simp [State.thermalFalls, State.deliverThermal]
  have opened : s.frameOpened.call = s.tick.applyNotice.call := (State.ramps_frame _).call.trans (falls _)
  have ended : s.frameOpened.frameEnded.call = s.frameOpened.call := (State.frameEnded_frame _).call
  have mixed : (s.frameMixed inp).call = s.frameOpened.frameEnded.call := State.mixdown_call _ _
  rw [State.beforeUplink, State.captureFrame_call, State.thermalStep_call, mixed, ended, opened, State.applyNotice_call,
    State.applyNotice_call]
  rfl

theorem State.beforeUplink_override (s : State) (inp : FrameInput) : (s.beforeUplink inp).veh.override = s.veh.override := by
  have kept := (s.frameOpened_settings.trans (s.frameMixed_registers inp).1).trans
    ((State.thermalStep_registers _).1.trans (State.captureFrame_frame (s.frameMixed inp).thermalStep s.frameOpened.traf.capture
      (s.frameOpened.frameSounds inp)).1.1)
  simp only [KeepsSettings] at kept
  simp only [State.beforeUplink, kept]

theorem State.thermalStep_flags {s : State} {n : Nat} (h : s.port.flags.getLsbD n = true) :
    s.thermalStep.port.flags.getLsbD n = true := by
  have delivered (t : State) (old : Nat) : (t.deliverThermal old).port = t.port := by simp [State.deliverThermal]
  unfold State.thermalStep
  dsimp only
  rw [delivered]
  split
  · exact (State.raise_tells _ .thermal).flags n h
  · exact h

/-- R188: a frame after its notice lowers no flag. -/
theorem State.renderStep_flags (s : State) (inp : FrameInput) {n : Nat} (h : s.tick.applyNotice.port.flags.getLsbD n = true) :
    (s.renderStep inp).port.flags.getLsbD n = true := by
  have falls (t : State) : t.thermalFalls.port = t.port := by simp [State.thermalFalls, State.deliverThermal]
  have ramps (t : State) : t.ramps.port = t.port := by simp [State.ramps]
  have opened : s.frameOpened.port.flags.getLsbD n = true := by rwa [State.frameOpened, ramps, falls]
  exact (s.renderStep_tells inp).flags n (State.thermalStep_flags ((s.frameMixed_tells inp).flags n opened))

/-- R164: a notice that makes a canceller CONVERGING anew is reported. -/
theorem State.applyNotice_flag {s : State} (waits : s.call.reconverge = true) (on : s.call.echo.state ≠ .off)
    (other : s.call.echo.state ≠ .converging) : s.applyNotice.port.flags.getLsbD 25 = true := by
  have raises : echoRaises s.call.echo.state .converging = true := by simp [echoRaises, on, other]
  have noticed : s.applyNotice = ((s.mapCall fun c => { c with reconverge := false }).mapCall
      fun c => { c with echo := s.call.echo.startTest }).raise .echoState := by
    unfold State.applyNotice
    rw [if_pos waits]
    refine (if_neg on).trans ?_
    exact if_pos raises
  rw [noticed]
  exact Port.raise_sets _ .echoState (by decide)

theorem State.uplinkFrame_none {s : State} (h : s.call.route = .none) (inp : FrameInput) :
    s.uplinkFrame inp = s.mapRend fun r => { r with uplink := List.replicate 16 0, telemUplink := List.replicate 16 0 } := by
  unfold State.uplinkFrame
  dsimp only
  rw [h]

/-- R165: the applied suppression after a frame on a route. -/
def Call.moved (c : Call) : Int := moveSuppression c.suppression c.echo.applied

/-- R160, R165: the uplink of a frame on a route. -/
def Call.uplinkOut (c : Call) (m : PerMic (List Int)) : List Int :=
  (List.range 16).map fun j => c.sample m j * multiplierEighths (8 * c.upTrim + c.moved)

theorem Call.uplinkOut_eq (c : Call) (m : PerMic (List Int)) :
    (c.uplinkInput m).map (· * (multiplierEighths (8 * c.upTrim + moveSuppression c.suppression c.echo.applied) : Int)) =
      c.uplinkOut m := by
  rw [Call.uplinkInput_eq, List.map_map]
  rfl

/-- R165: the suppression that a frame on a route forms and applies. -/
def State.suppress (s : State) : State :=
  s.mapCall fun c => { c with echo := { c.echo with target := s.call.suppression, applied := s.call.moved } }

/-- R161, R165: a frame on a route. -/
theorem State.uplinkFrame_call {s : State} (h : s.call.route = .call) (inp : FrameInput) : s.uplinkFrame inp =
    s.suppress.mapRend fun r => { r with uplink := s.call.uplinkOut inp.cancelled, telemUplink := List.replicate 16 0 } := by
  rw [← Call.uplinkOut_eq]
  unfold State.uplinkFrame
  dsimp only
  rw [h]
  rfl

theorem State.uplinkFrame_telem {s : State} (h : s.call.route = .telem) (inp : FrameInput) : s.uplinkFrame inp =
    s.suppress.mapRend fun r => { r with uplink := List.replicate 16 0, telemUplink := s.call.uplinkOut inp.cancelled } := by
  rw [← Call.uplinkOut_eq]
  unfold State.uplinkFrame
  dsimp only
  rw [h]
  rfl

/-- R165: what a frame's uplink makes of the call. -/
theorem State.uplinkFrame_record (s : State) (inp : FrameInput) :
    (s.uplinkFrame inp).call = if s.call.route = .none then s.call else s.suppress.call := by
  cases h : s.call.route with
  | none => rw [State.uplinkFrame_none h]; rfl
  | call => rw [State.uplinkFrame_call h]; rfl
  | telem => rw [State.uplinkFrame_telem h]; rfl

theorem State.adapt_facts (s : State) : (∃ n, s.adapt.call = { s.call with echo := { s.call.echo with coeff := n } }) ∧
    s.adapt.rend = s.rend ∧ s.adapt.veh = s.veh := by
  unfold State.adapt
  split
  · exact ⟨⟨_, rfl⟩, rfl, rfl⟩
  · exact ⟨⟨_, rfl⟩, rfl, rfl⟩

/-- R158, R165: a frame from its uplink on. -/
structure UplinkDone (s t : State) (inp : FrameInput) : Prop where
  call : ∃ n, t.call = { (s.uplinkFrame inp).call with
    echo := { (s.uplinkFrame inp).call.echo with coeff := n }
    callWin := s.call.callWin.drop 16 ++ takePad 16 inp.callDown
    telemWin := s.call.telemWin.drop 16 ++ takePad 16 inp.telemDown
    farActive := farAbove (if s.veh.override then s.call.telemWin.drop 16 ++ takePad 16 inp.telemDown
      else s.call.callWin.drop 16 ++ takePad 16 inp.callDown) }
  rend : t.rend = (s.uplinkFrame inp).rend

theorem State.uplinkDone (s : State) (inp : FrameInput) : UplinkDone s (((s.uplinkFrame inp).adapt).farFrame inp) inp := by
  obtain ⟨⟨n, call⟩, rend, veh⟩ := (s.uplinkFrame inp).adapt_facts
  have windows : (s.uplinkFrame inp).call.callWin = s.call.callWin ∧ (s.uplinkFrame inp).call.telemWin = s.call.telemWin := by
    rw [State.uplinkFrame_record]
    split <;> exact ⟨rfl, rfl⟩
  have override : (s.uplinkFrame inp).veh.override = s.veh.override := by
    have kept := (s.uplinkFrame_frame inp).1.1
    simp only [KeepsSettings] at kept
    simp only [kept]
  refine ⟨⟨n, ?_⟩, rend⟩
  simp only [State.farFrame, State.mapCall_call, call, windows, veh, override]

/-- R165: the suppression in the statements' words. -/
theorem Call.suppression_eq {c : Call} (h : c.route ≠ .none) : c.suppression =
    if c.farActive = false then 0
    else if c.echo.state = .frozen then -((min 120 (c.echo.tt - c.echo.erle) / 2 : Nat) : Int)
    else -((min 120 (c.echo.tt - c.echo.erle) : Nat) : Int) := by
  simp only [Call.suppression, h, false_or]

/-- R60: the call's record once a waiting notice has taken effect. -/
def Call.noticed (c : Call) : Call :=
  { c with
    reconverge := false
    echo := if c.reconverge = true ∧ c.echo.state ≠ .off then c.echo.startTest else c.echo }

theorem Call.noticed_echo (c : Call) :
    c.noticed.echo.state = (if c.reconverge = true ∧ c.echo.state ≠ .off then .converging else c.echo.state) ∧
    c.noticed.echo.erle = c.echo.erle ∧ c.noticed.echo.tt = c.echo.tt ∧ c.noticed.echo.applied = c.echo.applied ∧
    c.noticed.echo.target = c.echo.target := by
  unfold Call.noticed
  dsimp only
  split <;> exact ⟨rfl, rfl, rfl, rfl, rfl⟩

/-- R158, R165: the call's record after a frame, and what leaves on the two uplinks. -/
structure UplinkFrame (s t : State) (inp : FrameInput) : Prop where
  reconverge : t.call.reconverge = false
  state : t.call.echo.state = s.call.noticed.echo.state
  erle : t.call.echo.erle = s.call.echo.erle
  applied : t.call.echo.applied = if s.call.route = .none then s.call.echo.applied else s.call.noticed.moved
  target : t.call.echo.target = if s.call.route = .none then s.call.echo.target else s.call.noticed.suppression
  uplink : t.rend.uplink = if s.call.route = .call then s.call.noticed.uplinkOut inp.cancelled else List.replicate 16 0
  telemUplink : t.rend.telemUplink = if s.call.route = .telem then s.call.noticed.uplinkOut inp.cancelled else List.replicate 16 0
  callWin : t.call.callWin = s.call.callWin.drop 16 ++ takePad 16 inp.callDown
  telemWin : t.call.telemWin = s.call.telemWin.drop 16 ++ takePad 16 inp.telemDown
  farActive : t.call.farActive = farAbove (if s.veh.override then t.call.telemWin else t.call.callWin)

/-- R160, R165: what leaves on the two uplinks. -/
theorem State.uplinkFrame_rend (s : State) (inp : FrameInput) :
    (s.uplinkFrame inp).rend.uplink = (if s.call.route = .call then s.call.uplinkOut inp.cancelled else List.replicate 16 0) ∧
    (s.uplinkFrame inp).rend.telemUplink = (if s.call.route = .telem then s.call.uplinkOut inp.cancelled else List.replicate 16 0) := by
  cases h : s.call.route with
  | none => rw [State.uplinkFrame_none h]; exact ⟨rfl, rfl⟩
  | call => rw [State.uplinkFrame_call h]; exact ⟨rfl, rfl⟩
  | telem => rw [State.uplinkFrame_telem h]; exact ⟨rfl, rfl⟩

theorem State.renderStep_frame (s : State) (inp : FrameInput) : UplinkFrame s (s.renderStep inp) inp := by
  obtain ⟨⟨n, call⟩, rend⟩ := (s.beforeUplink inp).uplinkDone inp
  rw [← State.renderStep_uplink] at call rend
  have noticed : (s.beforeUplink inp).call = s.call.noticed := (s.beforeUplink_call inp).trans s.applyNotice_call
  have override := s.beforeUplink_override inp
  have record := (s.beforeUplink inp).uplinkFrame_record inp
  obtain ⟨uplink, telemUplink⟩ := (s.beforeUplink inp).uplinkFrame_rend inp
  obtain ⟨-, erle, -, applied, target⟩ := s.call.noticed_echo
  generalize s.beforeUplink inp = b at call rend noticed override record uplink telemUplink
  rw [override, noticed] at call
  have route : s.call.noticed.route = s.call.route := rfl
  rw [noticed, route] at record uplink telemUplink
  rw [← rend] at uplink telemUplink
  have suppressed : b.suppress.call = { s.call.noticed with
      echo := { s.call.noticed.echo with target := s.call.noticed.suppression, applied := s.call.noticed.moved } } := by
    rw [← noticed]
    rfl
  rw [suppressed] at record
  have windows : (s.renderStep inp).call.callWin = s.call.callWin.drop 16 ++ takePad 16 inp.callDown ∧
      (s.renderStep inp).call.telemWin = s.call.telemWin.drop 16 ++ takePad 16 inp.telemDown := by
    rw [call]
    exact ⟨rfl, rfl⟩
  have far : (s.renderStep inp).call.farActive =
      farAbove (if s.veh.override then (s.renderStep inp).call.telemWin else (s.renderStep inp).call.callWin) := by
    rw [call]
  by_cases h : s.call.route = .none
  · rw [if_pos h] at record
    rw [record] at call
    refine ⟨by rw [call]; rfl, by rw [call], by rw [call, ← erle], ?_, ?_, uplink, telemUplink, windows.1, windows.2, far⟩
    · rw [if_pos h, call, ← applied]
    · rw [if_pos h, call, ← target]
  · rw [if_neg h] at record
    rw [record] at call
    refine ⟨by rw [call]; rfl, by rw [call], by rw [call, ← erle], ?_, ?_, uplink, telemUplink, windows.1, windows.2, far⟩
    · rw [if_neg h, call]
    · rw [if_neg h, call]

/-- Settles O54: `multiplierEighths_spec` gives the multiplier, `State.renderStep_frame` the call and the two uplinks after a frame;
`suppression`, `applies` and `samples` tie its fields to the statement's words. -/
theorem uplinkAndFarEnd : Obligations.UplinkAndFarEnd := by
  refine ⟨fun e _ high => multiplierEighths_spec high, fun s inp run => ⟨_, exec_renderFrame run inp, ?_⟩⟩
  intro echo fall u a moved g mic sample out zeros
  obtain ⟨state, erle, tt, applied, target⟩ := s.call.noticed_echo
  have done := s.renderStep_frame inp
  have suppression (h : s.call.route ≠ .none) : s.call.noticed.suppression = u := by
    rw [Call.suppression_eq (c := s.call.noticed) h, tt, erle, state]
    rfl
  have applies (h : s.call.route ≠ .none) : s.call.noticed.moved = moved := by
    rw [Call.moved, suppression h, applied]
    rfl
  have samples (h : s.call.route ≠ .none) : s.call.noticed.uplinkOut inp.cancelled = out := by
    refine List.map_congr_left fun j _ => ?_
    have scaled : (multiplierEighths (8 * s.call.noticed.upTrim + s.call.noticed.moved) : Int) = g := by
      rw [applies h]
      rfl
    have micSet : s.call.noticed.routeSet = s.call.routeSet := rfl
    rw [scaled]
    simp only [sample, Call.sample, micSet]
    cases s.call.routeSet <;> rfl
  have padded {l : List Int} (h : l.length = 16) : takePad 16 l = l := by simp [takePad, h, List.take_of_length_le]
  refine ⟨done.reconverge, done.state.trans state, done.erle, fun waits on other => ?_, fun route => ?_, fun route => ?_,
    fun route => ?_, fun h => ?_, fun h => ?_, fun h => ?_, fun h => ?_⟩
  · exact s.renderStep_flags inp (State.applyNotice_flag (s := s.tick) waits on other)
  · simp [done.applied, done.target, done.uplink, done.telemUplink, route, a, zeros]
  · have on : s.call.route ≠ .none := by simp [route]
    simp [done.applied, done.target, done.uplink, done.telemUplink, applies on, suppression on, samples on, route, zeros]
  · have on : s.call.route ≠ .none := by simp [route]
    simp [done.applied, done.target, done.uplink, done.telemUplink, applies on, suppression on, samples on, route, zeros]
  · exact done.callWin.trans (by rw [padded h])
  · exact done.telemWin.trans (by rw [padded h])
  · exact done.farActive.trans (farAbove_active h)
  · exact done.farActive.trans (farAbove_inactive h)

end Sys2Proof.Machine
end

section
/-! SUPPORT. The sample memory stays canonical (R62): a move leaves the samples as they are, or stores some of them one by one. -/

namespace Sys2Proof.Machine

/-! ## What leaves the samples -/

@[simp] theorem State.setFlags_mem (s : State) (f : TunerFlags) : (s.setFlags f).pool.mem = s.pool.mem := by
  unfold State.setFlags
  dsimp only
  (repeat' split) <;> simp

@[simp] theorem State.selectEnt_mem (s : State) (z : Zone) (src : Option Source) : (s.selectEnt z src).pool.mem = s.pool.mem := by
  unfold State.selectEnt
  dsimp only
  split <;> simp

@[simp] theorem State.start_mem (s : State) : s.start.pool.mem = s.pool.mem := by
  simp [State.start, State.buildStatus]

@[simp] theorem State.setRow_mem (s : State) (z : Zone) (n : Nat) (e : Effect) : (s.setRow z n e).pool.mem = s.pool.mem := by
  simp [State.setRow]

@[simp] theorem State.setStep_mem (s : State) (z : Zone) (k : Kind) (n : Nat) : (s.setStep z k n).pool.mem = s.pool.mem := by
  simp [State.setStep]

@[simp] theorem State.coolFall_mem (s : State) (k : Nat) : (s.coolFall k).pool.mem = s.pool.mem := by
  simp [State.coolFall, State.deliverThermal]

@[simp] theorem State.formNoise_mem (s : State) : s.formNoise.pool.mem = s.pool.mem := by
  simp [State.formNoise]

@[simp] theorem State.echoEstimate_mem (s : State) (erle : Nat) (dt : Bool) : (s.echoEstimate erle dt).pool.mem = s.pool.mem := by
  unfold State.echoEstimate
  split <;> simp

@[simp] theorem State.goStale_mem (s : State) : s.goStale.pool.mem = s.pool.mem := by
  unfold State.goStale
  split <;> rfl

@[simp] theorem State.sendStatus_mem (s : State) : s.sendStatus.pool.mem = s.pool.mem := by
  unfold State.sendStatus
  split <;> rfl

theorem State.loadMap_mem (s : State) (t : List ChannelEntry) : (s.loadMap t).pool.mem = s.pool.mem := by
  unfold State.loadMap
  dsimp only
  split <;> simp

theorem State.loadCurves_mem (s : State) (t : List (List Int)) : (s.loadCurves t).pool.mem = s.pool.mem := by
  unfold State.loadCurves
  dsimp only
  split <;> simp

theorem State.loadEq_mem (s : State) (l : List GroupRecord) : (s.loadEq l).pool.mem = s.pool.mem := by
  unfold State.loadEq
  dsimp only
  (repeat' split) <;> simp

theorem State.loadPolicy_mem (s : State) (t : PerZone PolicyRows) : (s.loadPolicy t).pool.mem = s.pool.mem := by
  unfold State.loadPolicy
  dsimp only
  split <;> simp

theorem State.loadTable_mem {s t : State} {table : Nat} {bytes : List Byte} (h : s.loadTable table bytes = some t) :
    t.pool.mem = s.pool.mem := by
  unfold State.loadTable at h
  split at h
  · obtain ⟨x, -, rfl⟩ := Option.map_eq_some_iff.mp h; exact s.loadMap_mem x
  · obtain ⟨x, -, rfl⟩ := Option.map_eq_some_iff.mp h; exact s.loadCurves_mem x
  · obtain ⟨x, -, rfl⟩ := Option.map_eq_some_iff.mp h; exact s.loadEq_mem x
  · obtain ⟨x, -, rfl⟩ := Option.map_eq_some_iff.mp h; exact s.loadPolicy_mem x
  · obtain ⟨x, -, rfl⟩ := Option.map_eq_some_iff.mp h; rfl
  · cases h

theorem State.place_mem {s t : State} {v : Voice} {p : Placing} (h : s.place v p = .ok t) : t.pool.mem = s.pool.mem := by
  simp [State.place_frame h]

theorem State.flush_mem {s : State} {v : Voice} {r : State × Nat × Nat × Nat} (h : s.flush v = .ok r) :
    r.1.pool.mem = s.pool.mem := by
  simp [State.flush_frame h]

@[simp] theorem State.vehicleRecord_mem (s : State) (r : VehicleRecord) : (s.vehicleRecord r).pool.mem = s.pool.mem := by
  cases r with
  | speed v => simp [State.vehicleRecord, State.speedRecord]
  | chime c m r g =>
    simp only [State.vehicleRecord, State.chimeRecord]
    split
    next t h => exact (State.place_mem h : t.pool.mem = s.pool.mem)
    next => rfl
  | chimeStop =>
    simp only [State.vehicleRecord, State.chimeStopRecord]
    split
    next h => exact State.flush_mem h
    next => rfl
  | enter =>
    simp only [State.vehicleRecord, State.overrideEnterRecord]
    split <;> simp [State.setCallStep]
  | exit drop =>
    simp only [State.vehicleRecord, State.overrideExitRecord, State.exitCheck]
    (repeat' split) <;> simp [State.setCallStep]

@[simp] theorem State.sendChimeDone_mem (s : State) : s.sendChimeDone.pool.mem = s.pool.mem := by
  unfold State.sendChimeDone
  dsimp only
  split <;> simp

/-! ## What stores samples -/

/-- R71: a write stores its samples one by one. -/
theorem State.writeSamples_canonical (s : State) (l : List Sample) (h : Memory.wf s.pool.mem = true) :
    Memory.wf (s.writeSamples l).pool.mem = true := by
  have stored : Memory.wf (s.mapPool (·.put l)).pool.mem = true := Memory.store_wf _ l _ _ h
  unfold State.writeSamples
  dsimp only
  split
  · simpa using stored
  · exact stored

/-- R144: a captured sample is one store. -/
theorem State.captureSample_canonical {s t : State} {n : Nat} {v : Sample} (ho : s.captureSample n v = some t)
    (h : Memory.wf s.pool.mem = true) : Memory.wf t.pool.mem = true := by
  unfold State.captureSample at ho
  obtain ⟨u, hu, rfl⟩ := Option.map_eq_some_iff.mp ho
  have extended : u.pool.mem = s.pool.mem := by
    split at hu
    · obtain rfl := Option.some.inj hu; rfl
    · simp [State.captureExtend_frame hu]
  exact Memory.write_wf _ _ _ (extended ▸ h)

theorem State.captureSamples_canonical (p : Path) (n : Nat) (l : List Sample) (s : State) (h : Memory.wf s.pool.mem = true) :
    Memory.wf (State.captureSamples p n l s).pool.mem = true := by
  induction l generalizing s with
  | nil => exact h
  | cons v vs ih =>
    unfold State.captureSamples
    split
    next t ho => exact ih t (State.captureSample_canonical ho h)
    next => simpa using h

theorem State.captureFrame_canonical (s : State) (was : Capture) (snd : PerSource (List (Int × Int)))
    (h : Memory.wf s.pool.mem = true) : Memory.wf (s.captureFrame was snd).pool.mem = true := by
  unfold State.captureFrame
  dsimp only
  split
  · split
    · exact h
    · split
      · simpa using State.captureSamples_canonical _ _ _ s h
      · exact State.captureSamples_canonical _ _ _ s h
  · exact h

/-! ## The frame -/

theorem State.frameOpened_mem (s : State) : s.frameOpened.pool.mem = s.pool.mem := by
  have notice : s.tick.applyNotice.pool.mem = s.tick.pool.mem := by simp
  simp only [State.frameOpened, State.ramps_frame, State.thermalFalls, State.deliverThermal, State.deliverChange_rest,
    State.mapRend_pool, notice]
  rfl

theorem State.frameMixed_mem (s : State) (inp : FrameInput) : (s.frameMixed inp).pool.mem = s.pool.mem := by
  have mixed (u : State) (snd : PerSource (List (Int × Int))) : (u.mixdown snd).pool.mem = u.pool.mem := by
    simp [State.mixdown]
  rw [State.frameMixed, mixed, ← s.frameOpened_mem]
  simp

theorem State.thermalStep_pool (s : State) : s.thermalStep.pool = s.pool := by
  unfold State.thermalStep State.deliverThermal
  dsimp only
  split <;> simp

/-- What follows the capture in a frame leaves the pool. -/
theorem State.uplinkFrame_pool (s : State) (inp : FrameInput) : (s.uplinkFrame inp).pool = s.pool := by
  unfold State.uplinkFrame
  dsimp only
  split <;> rfl

theorem State.adapt_pool (s : State) : s.adapt.pool = s.pool := by
  unfold State.adapt
  split <;> rfl

theorem State.renderStep_canonical (s : State) (inp : FrameInput) (h : Memory.wf s.pool.mem = true) :
    Memory.wf (s.renderStep inp).pool.mem = true := by
  have farFrame (u : State) : (u.farFrame inp).pool = u.pool := rfl
  rw [State.renderStep_eq, farFrame, State.adapt_pool, State.uplinkFrame_pool]
  refine State.captureFrame_canonical _ _ _ ?_
  rw [State.thermalStep_pool, State.frameMixed_mem]
  exact h

/-! ## The moves -/

theorem Move.canonical {s t : State} (hm : Move s t) (h : Memory.wf s.pool.mem = true) : Memory.wf t.pool.mem = true := by
  cases hm with
  | coldReset | warmReset => exact h
  | writeSamples _ l => exact s.writeSamples_canonical l h
  | renderStep _ inp => exact s.renderStep_canonical inp h
  | loadTable ho => exact State.loadTable_mem ho ▸ h
  | place ho => exact State.place_mem ho ▸ h
  | flush ho => exact State.flush_mem ho ▸ h
  | rearTune ho => simpa [State.rearTune_frame ho] using h
  | setTrims | setThresholds | setWatch | discard | stage | setTrim | buildStatus => exact h
  | _ => simpa using h

/-- Settles O6, move by move. -/
theorem stepsKeepTheSampleMemoryCanonical : Obligations.StepsKeepTheSampleMemoryCanonical :=
  fun _ _ h ho => step_keeps (fun _ _ => Move.canonical) (fun _ _ h => h) ho h

end Sys2Proof.Machine
end

section
/-! SUPPORT. The pool's requests that leave the voices and the claims alone: POOL.ALLOC, PENDING, CANCEL and READ. -/

namespace Sys2Proof.Machine

theorem exec_poolPending (q : Byte) (s : State) : exec (.poolPending q) s = execPoolPending q s := rfl
theorem exec_poolCancel (q : Byte) (o : Option LinkOwner) (s : State) : exec (.poolCancel q o) s = execPoolCancel q o s := rfl

/-! ## POOL.ALLOC (R64 to R67) -/

theorem rateKnown_iff {r : Nat} : rateKnown r = true ↔ r = 48000 ∨ r = 24000 ∨ r = 16000 := by
  simp [rateKnown, or_assoc]

/-- R65, R66: what a request needs to fit. -/
theorem Pool.fits_iff (p : Pool) (o : LinkOwner) (n : Nat) :
    p.fits o n = true ↔ n ≤ p.freePages.length ∧ (o = .control → p.otherHeld + n ≤ 928) := by
  cases o with
  | control =>
    simp only [Pool.fits, Bool.and_eq_true, decide_eq_true_eq, forall_const]
    rfl
  | vehicle =>
    simp only [Pool.fits, Bool.and_true, decide_eq_true_eq, reduceCtorEq, false_imp_iff, and_true]
    rfl

/-- R65: a count that has changed is delivered. -/
theorem State.deliverFree_changed {s : State} {old : Nat} (h : old ≠ s.pool.freePages.length) :
    s.deliverFree old = s.deliver .freePages (s.pool.freePages.length : Int) :=
  if_neg (by simpa [Pool.freeCount] using h)

/-- R66: the pool after a grant. -/
theorem Pool.grant_eq {p : Pool} {c : Nat} (h : c ≠ 0) (n rate : Nat) (o : Owner) (st : ClipState) (auto : Bool) :
    p.grant c n rate o st auto = { p with
      clips := p.clips.set (c - 1) ⟨st, some o, some rate, p.freePages.take n, 0, 0, auto, .unused⟩
      freePages := p.freePages.drop n } := by
  simp [Pool.grant, Pool.setClip, h]

theorem State.alloc_granted {s : State} {c n : Nat} {o : LinkOwner} (rate : Nat) (auto : Bool) (free : s.pool.lowestFree = some c)
    (one : 1 ≤ n) (fits : s.pool.fits o n = true) :
    s.alloc n rate o auto = (.done (.allocated c (n * 1024)),
      (s.mapPool fun p => { p with
        clips := p.clips.set (c - 1) ⟨.filling, some (ownerOf o), some rate, p.freePages.take n, 0, 0, auto, .unused⟩
        freePages := p.freePages.drop n }).deliver .freePages ((s.pool.freePages.length - n : Nat) : Int)) := by
  obtain ⟨⟨number, -⟩, -⟩ := s.pool.lowestFree_spec c free
  have enough : n ≤ s.pool.freePages.length := ((s.pool.fits_iff o n).1 fits).1
  have changed : s.pool.freeCount ≠ (s.pool.freePages.drop n).length := by
    rw [Pool.freeCount, List.length_drop]
    omega
  have granted : (fun p : Pool => p.grant c n rate (ownerOf o) .filling auto) = fun p => { p with
      clips := p.clips.set (c - 1) ⟨.filling, some (ownerOf o), some rate, p.freePages.take n, 0, 0, auto, .unused⟩
      freePages := p.freePages.drop n } := funext fun p => p.grant_eq number n rate _ _ auto
  simp only [State.alloc, free, fits, if_true, granted]
  rw [State.deliverFree_changed changed, State.mapPool_pool, List.length_drop]
  rfl

theorem State.alloc_unfit {s : State} {c n : Nat} {o : LinkOwner} (rate : Nat) (auto : Bool) (free : s.pool.lowestFree = some c)
    (unfit : s.pool.fits o n = false) :
    s.alloc n rate o auto = if s.pool.slot o ≠ .empty then refuse .busy s
      else (.pending, s.mapPool (·.setSlot o (.waiting n rate auto))) := by
  simp [State.alloc, free, unfit]

/-- The body of POOL.ALLOC. -/
def allocBody (n rate : Nat) (owner : Option LinkOwner) (auto : Bool) (s : State) : Reply × State :=
  match owner with
  | none => refuse .range s
  | some o => if n < 1 ∨ 256 < n ∨ rateKnown rate = false then refuse .range s else s.alloc n rate o auto

theorem execPoolAlloc_eq (q : Byte) (n rate : Nat) (o : Option LinkOwner) (auto : Bool) (s : State) :
    exec (.poolAlloc q n rate o auto) s = serve 3 0 q .runOnly s (allocBody n rate o auto) := rfl

/-- R64: a request that may be made goes on to the pool. -/
theorem allocBody_named {n rate : Nat} (one : 1 ≤ n) (most : n ≤ 256) (known : rate = 48000 ∨ rate = 24000 ∨ rate = 16000)
    (o : LinkOwner) (auto : Bool) (s : State) : allocBody n rate (some o) auto s = s.alloc n rate o auto := by
  have inside : ¬ (n < 1 ∨ 256 < n ∨ rateKnown rate = false) := by
    rw [rateKnown_iff.2 known]
    simp only [Bool.true_eq_false, or_false]
    omega
  exact if_neg inside

theorem allocBody_unnamed {n rate : Nat} {o : Option LinkOwner}
    (h : o = none ∨ n = 0 ∨ 256 < n ∨ (rate ≠ 48000 ∧ rate ≠ 24000 ∧ rate ≠ 16000)) (auto : Bool) (s : State) :
    allocBody n rate o auto s = refuse .range s := by
  cases o with
  | none => rfl
  | some o =>
    have outside : n < 1 ∨ 256 < n ∨ rateKnown rate = false := by
      rcases h with h | h | h | h
      · cases h
      · exact .inl (by omega)
      · exact .inr (.inl h)
      · exact .inr (.inr (by rw [Bool.eq_false_iff, ne_eq, rateKnown_iff]; tauto))
    exact if_pos outside

/-- Settles O30. -/
theorem allocationGrantsWaitsOrRefuses : Obligations.AllocationGrantsWaitsOrRefuses := by
  refine ⟨fun s q n rate o auto hs one most known => ⟨fun full => ?_, fun c free enough limit => ?_, fun c free unfit => ?_⟩,
    fun s q n rate o auto hs h => answers_runOnly 3 0 hs (execPoolAlloc_eq ..) rfl (allocBody_unnamed h auto _)⟩
  · refine answers_runOnly 3 0 hs (execPoolAlloc_eq ..) rfl ((allocBody_named one most known o auto _).trans ?_)
    have full' : s.taking.pool.lowestFree = none := full
    rw [State.alloc, full']
    rfl
  · have fits : s.taking.pool.fits o n = true := (Pool.fits_iff _ o n).2 ⟨enough, limit⟩
    have body := (allocBody_named one most known o auto _).trans (State.alloc_granted (s := s.taking) rate auto free one fits)
    cases o <;> exact answers_portless 3 0 hs (execPoolAlloc_eq ..) rfl body rfl
  · have unfits : s.taking.pool.fits o n = false := by
      rw [Bool.eq_false_iff, ne_eq, Pool.fits_iff]
      rintro ⟨enough, limit⟩
      rcases unfit with short | ⟨control, beyond⟩
      · exact absurd enough (Nat.not_le.2 short)
      · exact absurd (limit control) (Nat.not_le.2 beyond)
    have body := (allocBody_named one most known o auto _).trans (State.alloc_unfit (s := s.taking) rate auto free unfits)
    refine ⟨fun empty => ?_, fun taken => ?_⟩
    · exact answers_portless 3 0 hs (execPoolAlloc_eq ..) rfl (body.trans (if_neg (not_not.2 empty))) rfl
    · exact answers_runOnly 3 0 hs (execPoolAlloc_eq ..) rfl (body.trans (if_pos taken))

/-! ## POOL.PENDING and POOL.CANCEL (R69) -/

/-- R69: a collected slot is EMPTY where it was GRANTED, and stands otherwise. -/
theorem Slot.collect_spec (x : Slot) : (∀ n, x = .granted n → x.collect = .empty) ∧ ((∀ n, x ≠ .granted n) → x.collect = x) := by
  cases x with
  | empty => exact ⟨nofun, fun _ => rfl⟩
  | waiting => exact ⟨nofun, fun _ => rfl⟩
  | granted n => exact ⟨fun _ _ => rfl, fun h => absurd rfl (h n)⟩

/-- The body of POOL.CANCEL for a slot that may be named. -/
def cancelBody (o : LinkOwner) (s : State) : Reply × State :=
  match s.pool.slot o with
  | .waiting _ _ _ => report .ok (s.mapPool (·.setSlot o .empty))
  | .granted c => (.refused .state [c], s)
  | .empty => refuse .state s

theorem execPoolCancel_eq (q : Byte) (o : LinkOwner) (s : State) :
    exec (.poolCancel q (some o)) s = serve 3 2 q .runOnly s (cancelBody o) := rfl

/-- Settles O31, slot by slot. -/
theorem pendingAndCancelFollowTheSlots : Obligations.PendingAndCancelFollowTheSlots := by
  refine ⟨fun s q hs => ⟨s.pool.vehicleSlot.collect, s.pool.controlSlot.collect, ?_, s.pool.vehicleSlot.collect_spec.1,
    s.pool.vehicleSlot.collect_spec.2, s.pool.controlSlot.collect_spec⟩, fun s q o hs => ⟨fun n rate auto h => ?_, fun h => ?_, fun c h => ?_, ?_⟩,
    fun s q o startup hp => ?_⟩
  · exact answers_portless 3 1 hs (exec_poolPending q s) rfl rfl rfl
  · have slot : s.taking.pool.slot o = .waiting n rate auto := h
    have body : cancelBody o s.taking = report .ok (s.taking.mapPool (·.setSlot o .empty)) := by rw [cancelBody, slot]
    exact answers_portless 3 2 hs (execPoolCancel_eq q o s) rfl body rfl
  · have slot : s.taking.pool.slot o = .empty := h
    exact answers_runOnly 3 2 hs (execPoolCancel_eq q o s) rfl (by rw [cancelBody, slot]; rfl)
  · have slot : s.taking.pool.slot o = .granted c := h
    exact answers_runOnly 3 2 hs (execPoolCancel_eq q o s) rfl (by rw [cancelBody, slot])
  · exact answers_runOnly 3 2 hs (exec_poolCancel q none s) rfl rfl
  · have gate : gateRefusal .runOnly s = some .notStarted := by simp [gateRefusal, State.running, startup]
    exact ⟨answers_gated hp (exec_poolPending q s) rfl gate, answers_gated hp (exec_poolCancel q o s) rfl gate⟩

/-! ## POOL.READ (R72) -/

theorem Pool.readable_iff (p : Pool) :
    p.readable = true ↔ p.cursor.clip ≠ 0 ∧ p.cursor.dir = .read ∧ (p.clip p.cursor.clip).state = .ready := by
  simp [Pool.readable, and_assoc]

/-- The body of POOL.READ. -/
def readBody (count : Nat) (s : State) : Reply × State :=
  if count < 1 ∨ 120 < count then refuse .range s
  else if s.pool.readable then
    let c := s.pool.clip s.pool.cursor.clip
    let pos := s.pool.cursor.position
    let n := min count (c.sealedLen - pos)
    report (.samples (Memory.load c.pages s.pool.mem pos n) (pos + n) (decide (c.sealedLen ≤ pos + n)))
      (s.mapPool (fun p => { p with cursor := { p.cursor with position := pos + n } }))
  else refuse .state s

theorem execPoolRead_eq (q : Byte) (count : Nat) (s : State) :
    exec (.poolRead q count) s = serve 3 5 q .runOnly s (readBody count) := rfl

/-- Settles O33. -/
theorem readReturnsSamplesAtTheCursor : Obligations.ReadReturnsSamplesAtTheCursor := by
  refine ⟨fun s q count hs one most named dir ready => ?_, fun s q count hs h => ?_, fun s q count hs one most h => ?_⟩
  · let c := s.pool.clip s.pool.cursor.clip
    let pos := s.pool.cursor.position
    have readable : s.taking.pool.readable = true := (Pool.readable_iff _).2 ⟨named, dir, ready⟩
    have body := (if_neg (by omega : ¬ (count < 1 ∨ 120 < count))).trans (if_pos readable) (a := readBody count s.taking)
    have length : (Memory.load c.pages s.pool.mem pos (min count (c.sealedLen - pos))).length = min count (c.sealedLen - pos) := by
      simp [Memory.load]
    refine ⟨Memory.load c.pages s.pool.mem pos (min count (c.sealedLen - pos)), length, fun i hi => ?_, ?_⟩
    · exact Memory.load_getElem _ _ _ _ i (length ▸ hi)
    · rw [length]
      exact answers_portless 3 5 hs (execPoolRead_eq q count s) rfl body rfl
  · exact answers_runOnly 3 5 hs (execPoolRead_eq q count s) rfl (if_pos (by omega))
  · have unreadable : ¬ s.taking.pool.readable = true := by
      rw [Pool.readable_iff]
      rintro ⟨named, dir, ready⟩
      rcases h with h | h | h
      · exact named h
      · cases h.symm.trans dir
      · exact h ready
    exact answers_runOnly 3 5 hs (execPoolRead_eq q count s) rfl ((if_neg (by omega)).trans (if_neg unreadable))

end Sys2Proof.Machine
end

section
/-! SUPPORT. POOL.SEEK and POOL.WRITE (R70, R71), and the voice whose wait for its fill a write ends (R87). -/

namespace Sys2Proof.Machine

/-! ## Clip records -/

theorem Pool.setClip_rest (p : Pool) (n : Nat) (c : Clip) : p.setClip n c = { p with clips := (p.setClip n c).clips } := by
  unfold Pool.setClip
  split <;> rfl

@[simp] theorem Pool.setClip_freePages (p : Pool) (n : Nat) (c : Clip) : (p.setClip n c).freePages = p.freePages := by
  rw [Pool.setClip_rest]

@[simp] theorem Pool.setClip_vehicleSlot (p : Pool) (n : Nat) (c : Clip) : (p.setClip n c).vehicleSlot = p.vehicleSlot := by
  rw [Pool.setClip_rest]

@[simp] theorem Pool.setClip_controlSlot (p : Pool) (n : Nat) (c : Clip) : (p.setClip n c).controlSlot = p.controlSlot := by
  rw [Pool.setClip_rest]

/-- R62: a clip's pages are distinct. -/
theorem PagesOnce.clip_nodup {p : Pool} (h : PagesOnce p) (n : Nat) : (p.clip n).pages.Nodup := by
  by_cases inside : n ≠ 0 ∧ n - 1 < p.clips.length
  · obtain ⟨a, b, clips, -⟩ := flatMap_setClip p n Clip.empty inside.1 inside.2
    have all := (List.nodup_append.1 h.1).2.1
    rw [clips, List.flatMap_append, List.flatMap_cons] at all
    exact (List.nodup_append.1 (List.nodup_append.1 all).2.1).1
  · rw [p.clip_outside n inside]
    exact List.nodup_nil

/-! ## The samples of a write (R71) -/

/-- R71: the samples read back, where they fit the clip. -/
theorem Memory.load_store (pages : List Nat) (once : pages.Nodup) (l : List Sample) (m : Memory) (canonical : m.wf = true) (i : Nat)
    (fits : l = [] ∨ i + l.length ≤ pages.length * 1024) : Memory.load pages (Memory.store pages m i l) i l.length = l := by
  refine List.ext_getElem (by simp [Memory.load]) fun j _ inside => ?_
  have room : i + l.length ≤ pages.length * 1024 := fits.resolve_left fun e => by simp [e] at inside
  simpa [Memory.load] using Memory.read_store_same pages once l m canonical i j inside room

/-- What fits behind a position. -/
theorem take_fits {α : Type} (l : List α) (room pos : Nat) : l.take (room - pos) = [] ∨ pos + (l.take (room - pos)).length ≤ room := by
  rcases Nat.le_total room pos with h | h
  · exact .inl (by simp [Nat.sub_eq_zero_of_le h])
  · exact .inr (by simp only [List.length_take]; omega)

/-! ## The pool after a write -/

theorem Pool.put_clip {p : Pool} (h : (p.clip p.cursor.clip).state ≠ .free) (l : List Sample) : (p.put l).clip p.cursor.clip =
    { p.clip p.cursor.clip with fill := max (p.clip p.cursor.clip).fill (p.cursor.position + l.length) } :=
  Pool.clip_setClip h _

theorem Pool.put_clip_ne {p : Pool} {n : Nat} (named : p.cursor.clip ≠ 0) (h : n ≠ p.cursor.clip) (l : List Sample) :
    (p.put l).clip n = p.clip n :=
  p.clip_setClip_ne named (Ne.symm h) _

/-! ## The fill report (R87) -/

/-- R87: the voice waits for its fill on the clip, and the clip's fill count has reached its threshold. -/
def State.filled (s : State) (n : Nat) (v : Voice) : Prop :=
  (s.pool.clip n).use = .playing v ∧ (s.voice v).state = .waitingFill ∧
  ∃ e es, (s.voice v).queue = e :: es ∧ e.threshold ≠ 0 ∧ e.threshold ≤ (s.pool.clip n).fill

theorem State.fillReport_filled {s : State} {n : Nat} {v : Voice} (h : s.filled n v) : s.fillReport n = s.leaveFill v := by
  obtain ⟨use, state, e, es, queue, counts, reached⟩ := h
  simp [State.fillReport, use, state, queue, counts, reached]

theorem State.fillReport_unfilled {s : State} {n : Nat} (h : ∀ v, ¬ s.filled n v) : s.fillReport n = s := by
  unfold State.fillReport
  split
  next v use =>
    dsimp only
    split
    next e es state queue =>
      split
      next reached => exact absurd ⟨use, state, e, es, queue, reached⟩ (h v)
      next => rfl
    next => rfl
  next => rfl

/-! ## The write as a whole -/

/-- R87: the write makes the voice leave WAITING_FILL. -/
def State.fills (s : State) (l : List Sample) (v : Voice) : Prop :=
  (s.pool.clip s.pool.cursor.clip).use = .playing v ∧ (s.voice v).state = .waitingFill ∧
  (s.pool.clip s.pool.cursor.clip).fill < s.pool.cursor.position + l.length ∧
  ∃ e es, (s.voice v).queue = e :: es ∧ e.threshold ≠ 0 ∧ e.threshold ≤ s.pool.cursor.position + l.length

section
variable {s : State} {l : List Sample} (used : (s.pool.clip s.pool.cursor.clip).state ≠ .free)
include used

/-- The report of a write is made where the fill count rises, and finds the new one. -/
theorem State.fills_iff (v : Voice) : s.fills l v ↔
    (s.pool.clip s.pool.cursor.clip).fill < ((s.mapPool (·.put l)).pool.clip s.pool.cursor.clip).fill ∧
    (s.mapPool (·.put l)).filled s.pool.cursor.clip v := by
  have clip : (s.mapPool (·.put l)).pool.clip s.pool.cursor.clip = _ := Pool.put_clip used l
  have voice : (s.mapPool (·.put l)).voice v = s.voice v := rfl
  unfold State.fills State.filled
  rw [clip, voice]
  dsimp only
  constructor
  · rintro ⟨use, state, rises, e, es, queue, counts, reached⟩
    exact ⟨by omega, use, state, e, es, queue, counts, by omega⟩
  · rintro ⟨rises, use, state, e, es, queue, counts, reached⟩
    exact ⟨use, state, by omega, e, es, queue, counts, by omega⟩

theorem State.writeSamples_fills {v : Voice} (h : s.fills l v) : s.writeSamples l = (s.mapPool (·.put l)).leaveFill v := by
  obtain ⟨rises, filled⟩ := (State.fills_iff used v).1 h
  exact (if_pos rises).trans (State.fillReport_filled filled)

theorem State.writeSamples_unfilled (h : ∀ v, ¬ s.fills l v) : s.writeSamples l = s.mapPool (·.put l) := by
  unfold State.writeSamples
  dsimp only
  split
  next rises => exact State.fillReport_unfilled fun v filled => h v ((State.fills_iff used v).2 ⟨rises, filled⟩)
  next => rfl

/-- R71, R87: a write stores its samples, and one voice at most leaves WAITING_FILL. -/
theorem State.writeSamples_cases (l : List Sample) : (∃ v, s.fills l v ∧ s.writeSamples l = (s.mapPool (·.put l)).leaveFill v) ∨
    ((∀ v, ¬ s.fills l v) ∧ s.writeSamples l = s.mapPool (·.put l)) := by
  by_cases h : ∃ v, s.fills l v
  · obtain ⟨v, fills⟩ := h
    exact .inl ⟨v, fills, State.writeSamples_fills used fills⟩
  · have none_ := not_exists.1 h
    exact .inr ⟨none_, State.writeSamples_unfilled used none_⟩

theorem State.writeSamples_pool (l : List Sample) : (s.writeSamples l).pool = s.pool.put l := by
  rcases State.writeSamples_cases used l with ⟨v, -, h⟩ | ⟨-, h⟩ <;> rw [h] <;> rfl

/-- Besides the pool a write touches the voices' records alone. -/
theorem State.writeSamples_rest (l : List Sample) :
    s.writeSamples l = { s with pool := (s.writeSamples l).pool, voc := { s.voc with voices := (s.writeSamples l).voc.voices } } := by
  rcases State.writeSamples_cases used l with ⟨v, -, h⟩ | ⟨-, h⟩ <;> rw [h] <;> rfl

theorem State.writeSamples_frame (l : List Sample) :
    ClaimFrame { s with pool := { s.pool with mem := (s.writeSamples l).pool.mem } } (s.writeSamples l) := by
  have put : ClaimFrame { s with pool := { s.pool with mem := (s.pool.put l).mem } } (s.mapPool (·.put l)) := by
    simp [ClaimFrame, Pool.put]
  rw [State.writeSamples_pool used]
  rcases State.writeSamples_cases used l with ⟨v, -, h⟩ | ⟨-, h⟩ <;> rw [h]
  · exact put.trans (State.leaveFill_frame _ v)
  · exact put

theorem State.writeSamples_voice (l : List Sample) (v : Voice) :
    (s.fills l v → (s.writeSamples l).voice v = { s.voice v with state := if s.voiceHeard v then .playing else .waitingZone }) ∧
    (¬ s.fills l v → (s.writeSamples l).voice v = s.voice v) := by
  refine ⟨fun fills => ?_, fun still => ?_⟩
  · rw [State.writeSamples_fills used fills]
    exact State.setVoice_voice _ v _
  · rcases State.writeSamples_cases used l with ⟨w, fills, h⟩ | ⟨-, h⟩ <;> rw [h]
    · exact State.setVoice_voice_ne (s.mapPool (·.put l)) (fun e : w = v => still (e ▸ fills)) _
    · rfl

end

/-- A write reads nothing of the port. -/
theorem State.writeSamples_withPort (s : State) (p : Port) (l : List Sample) :
    (s.withPort p).writeSamples l = (s.writeSamples l).withPort p := by
  have report (t : State) (n : Nat) : (t.withPort p).fillReport n = (t.fillReport n).withPort p := by
    have pool : (t.withPort p).pool = t.pool := rfl
    have voice (v : Voice) : (t.withPort p).voice v = t.voice v := rfl
    unfold State.fillReport
    rw [pool]
    split
    · rw [voice]
      dsimp only
      split
      · split <;> rfl
      · rfl
    · rfl
  have put : (s.withPort p).mapPool (·.put l) = (s.mapPool (·.put l)).withPort p := rfl
  unfold State.writeSamples
  rw [put]
  dsimp only
  split
  next rises => exact (report _ _).trans (congrArg (fun t => State.withPort t p) (if_pos rises).symm)
  next stands => exact congrArg (fun t => State.withPort t p) (if_neg stands).symm

/-! ## POOL.WRITE (R71) -/

theorem Pool.writable_iff (p : Pool) :
    p.writable = true ↔ p.cursor.clip ≠ 0 ∧ p.cursor.dir = .write ∧ (p.clip p.cursor.clip).state = .filling := by
  simp [Pool.writable, and_assoc]

/-- R71: the samples of a request that are stored: the first 120, as far as the clip's pages go. -/
def Pool.accepted (p : Pool) (l : List Sample) : List Sample :=
  (l.take 120).take ((p.clip p.cursor.clip).pages.length * 1024 - p.cursor.position)

/-- The body of POOL.WRITE. -/
def writeBody (samples : List Sample) (s : State) : Reply × State :=
  if s.pool.writable then
    report (.written (s.pool.accepted samples).length (s.pool.cursor.position + (s.pool.accepted samples).length)
      (decide ((s.pool.accepted samples).length < (samples.take 120).length)) (decide (120 < samples.length)))
      (s.writeSamples (s.pool.accepted samples))
  else refuse .state s

theorem execPoolWrite_eq (q : Byte) (l : List Sample) (s : State) :
    exec (.poolWrite q l) s = serve 3 4 q .runOnly s (writeBody l) := rfl

theorem poolWrite_stores {s : State} (q : Byte) (hs : Serves s) (l : List Sample) (named : s.pool.cursor.clip ≠ 0)
    (dir : s.pool.cursor.dir = .write) (filling : (s.pool.clip s.pool.cursor.clip).state = .filling) :
    let fit := s.pool.accepted l
    Answers (.poolWrite q l) s (s.writeSamples fit) 0x34 q (.done (.written fit.length (s.pool.cursor.position + fit.length)
      (decide (fit.length < (l.take 120).length)) (decide (120 < l.length)))) := by
  intro fit
  have writable : s.taking.pool.writable = true := (Pool.writable_iff _).2 ⟨named, dir, filling⟩
  have used : (s.pool.clip s.pool.cursor.clip).state ≠ .free := by rw [filling]; decide
  have taken : s.taking.writeSamples fit = (s.writeSamples fit).withPort s.taking.port := s.writeSamples_withPort s.taking.port fit
  have kept : (s.writeSamples fit).port = s.port := by rw [State.writeSamples_rest used fit]
  have same : (s.taking.writeSamples fit).withPort s.port = s.writeSamples fit := by
    rw [taken, ← kept]
    rfl
  rw [← same]
  exact answers_portless 3 4 hs (execPoolWrite_eq q l s) rfl (if_pos writable) (by rw [taken]; rfl)

/-! ## POOL.SEEK (R70) -/

/-- The body of POOL.SEEK. -/
def seekBody (clip position : Nat) (dir : Option CursorDir) (s : State) : Reply × State :=
  match dir with
  | none => refuse .range s
  | some d =>
    if clipNumber clip then
      match s.pool.seekRefusal clip position d with
      | some c => refuse c s
      | none => report (.cursor ⟨clip, position, d⟩) (s.mapPool (fun p => { p with cursor := ⟨clip, position, d⟩ }))
    else refuse .range s

theorem execPoolSeek_eq (q : Byte) (n pos : Nat) (d : Option CursorDir) (s : State) :
    exec (.poolSeek q n pos d) s = serve 3 3 q .runOnly s (seekBody n pos d) := rfl

theorem clipNumber_outside {n : Nat} (h : n = 0 ∨ 63 < n) : clipNumber n = false := by
  simp only [clipNumber, decide_eq_false_iff_not]
  omega

theorem seekBody_refused {s : State} {n pos : Nat} {d : CursorDir} {r : RefCode} (one : 1 ≤ n) (most : n ≤ 63)
    (h : s.pool.seekRefusal n pos d = some r) : seekBody n pos (some d) s = refuse r s := by
  simp only [seekBody, clipNumber_eq one most, h, if_true]

theorem seekBody_accepted {s : State} {n pos : Nat} {d : CursorDir} (one : 1 ≤ n) (most : n ≤ 63)
    (h : s.pool.seekRefusal n pos d = none) : seekBody n pos (some d) s =
      report (.cursor ⟨n, pos, d⟩) (s.mapPool fun p => { p with cursor := ⟨n, pos, d⟩ }) := by
  simp only [seekBody, clipNumber_eq one most, h, if_true]

section
variable {p : Pool} {n pos : Nat} {d : CursorDir}

theorem Pool.seekRefusal_none
    (h : ((p.clip n).state = .filling ∧ d = .write ∧ pos ≤ (p.clip n).fill) ∨
      ((p.clip n).state = .ready ∧ d = .read ∧ pos ≤ (p.clip n).sealedLen)) : p.seekRefusal n pos d = none := by
  rcases h with ⟨state, rfl, inside⟩ | ⟨state, rfl, inside⟩
  · simp [Pool.seekRefusal, state, inside]
  · simp [Pool.seekRefusal, state, inside]

theorem Pool.seekRefusal_range
    (h : ((p.clip n).state = .filling ∧ d = .write ∧ (p.clip n).fill < pos) ∨
      ((p.clip n).state = .ready ∧ d = .read ∧ (p.clip n).sealedLen < pos)) : p.seekRefusal n pos d = some .range := by
  rcases h with ⟨state, rfl, behind⟩ | ⟨state, rfl, behind⟩
  · simp [Pool.seekRefusal, state, behind]
  · simp [Pool.seekRefusal, state, behind]

theorem Pool.seekRefusal_state
    (h : (p.clip n).state = .free ∨ (p.clip n).state = .capturing ∨ ((p.clip n).state = .ready ∧ d = .write) ∨
      ((p.clip n).state = .filling ∧ d = .read)) : p.seekRefusal n pos d = some .state := by
  rcases h with state | state | ⟨state, rfl⟩ | ⟨state, rfl⟩
  · simp [Pool.seekRefusal, state]
  · simp [Pool.seekRefusal, state]
  · simp [Pool.seekRefusal, state]
  · simp [Pool.seekRefusal, state]

end

/-- Settles O32: `State.writeSamples` is the write's effect, and `Pool.seekRefusal` decides the seek. -/
theorem writeStoresAtTheCursor : Obligations.WriteStoresAtTheCursor := by
  refine ⟨fun s q l hs canonical once _ named dir filling => ?_, fun s q l hs h => ?_,
    fun s q n pos d hs one most => ⟨fun h => ?_, fun h => ?_, fun h => ?_⟩, fun s q n pos d hs h => ?_⟩
  · intro n c pos fit
    have used : (s.pool.clip s.pool.cursor.clip).state ≠ .free := by rw [filling]; decide
    have pool : (s.writeSamples fit).pool = s.pool.put fit := State.writeSamples_pool used fit
    refine ⟨s.writeSamples fit, poolWrite_stores q hs l named dir filling, State.writeSamples_frame used fit, ?_, fun a other => ?_, ?_,
      fun m hm => ?_, ?_, ?_, ?_, ?_, State.writeSamples_rest used fit, fun v => State.writeSamples_voice used fit v⟩
    · rw [pool]
      exact Memory.load_store c.pages (once.clip_nodup n) fit s.pool.mem canonical pos (take_fits _ _ _)
    · rw [pool]
      exact Memory.read_store_other c.pages fit s.pool.mem pos a fun j hj => other _ (by omega) (by omega)
    · rw [pool]
      exact Pool.put_clip used fit
    · rw [pool]
      exact Pool.put_clip_ne named hm fit
    · rw [pool, ← dir]
      rfl
    · rw [pool]
      exact Pool.setClip_freePages _ _ _
    · rw [pool]
      exact Pool.setClip_vehicleSlot _ _ _
    · rw [pool]
      exact Pool.setClip_controlSlot _ _ _
  · have unwritable : ¬ s.taking.pool.writable = true := by
      rw [Pool.writable_iff]
      rintro ⟨named, dir, filling⟩
      rcases h with h | h | h
      · exact named h
      · cases h.symm.trans dir
      · exact h filling
    exact answers_runOnly 3 4 hs (execPoolWrite_eq q l s) rfl (if_neg unwritable)
  · exact answers_portless 3 3 hs (execPoolSeek_eq q n pos _ s) rfl
      (seekBody_accepted (s := s.taking) one most (Pool.seekRefusal_none h)) rfl
  · exact answers_runOnly 3 3 hs (execPoolSeek_eq q n pos _ s) rfl
      (seekBody_refused (s := s.taking) one most (Pool.seekRefusal_range h))
  · exact answers_runOnly 3 3 hs (execPoolSeek_eq q n pos _ s) rfl
      (seekBody_refused (s := s.taking) one most (Pool.seekRefusal_state h))
  · refine answers_runOnly 3 3 hs (execPoolSeek_eq q n pos d s) rfl ?_
    cases d with
    | none => rfl
    | some d =>
      have outside : clipNumber n = false := clipNumber_outside (by simpa [or_assoc] using h)
      simp only [seekBody, outside, Bool.false_eq_true, if_false]
      rfl

end Sys2Proof.Machine
end

section
/-! SUPPORT. The pool's counts, the grants of waiting requests (R65, R68), and what closing and freeing a clip do to them (R73, R74). -/

namespace Sys2Proof.Machine

/-! ## Counts and free clips -/

theorem Pool.clip_congr {p r : Pool} (h : p.clips = r.clips) (n : Nat) : p.clip n = r.clip n := by
  simp only [Pool.clip, h]

/-- The pages of a clip that count for an owner. -/
def Clip.heldBy (o : Owner) (c : Clip) : Nat := if c.owner = some o then c.pages.length else 0

theorem pagesHeldBy_cons (o : Owner) (c : Clip) (cs : List Clip) : pagesHeldBy o (c :: cs) = c.heldBy o + pagesHeldBy o cs := rfl

theorem pagesHeldBy_split (o : Owner) (c : Clip) (a b : List Clip) :
    pagesHeldBy o (a ++ c :: b) = c.heldBy o + pagesHeldBy o (a ++ b) := by
  induction a with
  | nil => rfl
  | cons d ds ih =>
    simp only [List.cons_append, pagesHeldBy_cons, ih]
    omega

/-- R62: a clip of the pool loses pages. -/
theorem Pool.otherHeld_setClip {p : Pool} {n back : Nat} {c : Clip} (inside : n ≠ 0 ∧ n - 1 < p.clips.length)
    (owner : c.owner = (p.clip n).owner ∨ c.pages = []) (pages : c.pages.length + back = (p.clip n).pages.length) :
    (p.setClip n c).otherHeld =
      p.otherHeld - if (p.clip n).owner = some .control ∨ (p.clip n).owner = some .capture then back else 0 := by
  obtain ⟨a, b, old, new⟩ := flatMap_setClip p n c inside.1 inside.2
  have loses (o : Owner) : (p.clip n).heldBy o = c.heldBy o + if (p.clip n).owner = some o then back else 0 := by
    unfold Clip.heldBy
    rcases owner with same | gone
    · rw [same]
      split <;> omega
    · rw [gone] at pages ⊢
      simp only [List.length_nil, Nat.zero_add, ite_self] at pages ⊢
      rw [pages]
  have control := loses .control
  have capture := loses .capture
  simp only [Pool.otherHeld, old, new, pagesHeldBy_split]
  rw [control, capture]
  rcases Option.eq_none_or_eq_some (p.clip n).owner with h | ⟨_ | _ | _, h⟩ <;> rw [h] <;> simp <;> omega

/-- A clip that is not FREE, before and after, does not matter to the lowest FREE one. -/
theorem lowestFree_split {c d : Clip} (a b : List Clip) (hc : c.state ≠ .free) (hd : d.state ≠ .free) (k : Nat) :
    lowestFree k (a ++ c :: b) = lowestFree k (a ++ d :: b) := by
  induction a generalizing k with
  | nil => simp [lowestFree, hc, hd]
  | cons e es ih => simp only [List.cons_append, lowestFree, ih]

theorem Pool.lowestFree_setClip {p : Pool} {n : Nat} {c : Clip} (old : (p.clip n).state ≠ .free) (new : c.state ≠ .free) :
    (p.setClip n c).lowestFree = p.lowestFree := by
  by_cases inside : n ≠ 0 ∧ n - 1 < p.clips.length
  · obtain ⟨a, b, before, after⟩ := flatMap_setClip p n c inside.1 inside.2
    rw [Pool.lowestFree, Pool.lowestFree, after, lowestFree_split a b new old, ← before]
  · exact absurd (by rw [p.clip_outside n inside]; rfl) old

/-- A clip that becomes FREE is the lowest one, or the lowest one stays. -/
theorem lowestFree_freed {c d : Clip} (a b : List Clip) (hd : d.state = .free) (k : Nat) :
    ∃ n, lowestFree k (a ++ d :: b) = some n ∧ (n = k + a.length ∨ lowestFree k (a ++ c :: b) = some n) := by
  induction a generalizing k with
  | nil => exact ⟨k, by simp [lowestFree, hd], .inl rfl⟩
  | cons e es ih =>
    simp only [List.cons_append, lowestFree]
    split
    · exact ⟨k, rfl, .inr rfl⟩
    · obtain ⟨n, lowest, which⟩ := ih (k + 1)
      exact ⟨n, lowest, which.imp_left fun h => by rw [h, List.length_cons]; omega⟩

theorem Pool.lowestFree_freed {p : Pool} {n : Nat} (inside : n ≠ 0 ∧ n - 1 < p.clips.length) :
    ∃ c, (p.setClip n Clip.empty).lowestFree = some c ∧ (c = n ∨ p.lowestFree = some c) := by
  obtain ⟨one, most⟩ := inside
  have before : p.clips = p.clips.take (n - 1) ++ p.clips[n - 1] :: p.clips.drop (n - 1 + 1) := by
    rw [← List.drop_eq_getElem_cons most, List.take_append_drop]
  have after : (p.setClip n Clip.empty).clips = p.clips.take (n - 1) ++ Clip.empty :: p.clips.drop (n - 1 + 1) := by
    rw [Pool.setClip, if_neg one]
    exact List.set_eq_take_append_cons_drop.trans (if_pos most)
  obtain ⟨c, lowest, which⟩ := Machine.lowestFree_freed (c := p.clips[n - 1]) (p.clips.take (n - 1)) (p.clips.drop (n - 1 + 1))
    (rfl : Clip.empty.state = .free) 1
  refine ⟨c, by rw [Pool.lowestFree, after, lowest], which.imp (fun h => ?_) fun h => ?_⟩
  · rw [h, List.length_take]
    omega
  · rw [Pool.lowestFree, before, h]

/-! ## One slot in a grant attempt (R68) -/

theorem State.attemptSlot_grant {s : State} {o : LinkOwner} {n rate k : Nat} {auto : Bool} (slot : s.pool.slot o = .waiting n rate auto)
    (free : s.pool.lowestFree = some k) (fits : s.pool.fits o n = true) : s.attemptSlot o =
      ((s.mapPool fun p => (p.grant k n rate (ownerOf o) .filling auto).setSlot o (.granted k)).deliverFree
        s.pool.freeCount).raise .allocDone := by
  simp [State.attemptSlot, slot, free, fits]

/-- A slot with no request that fits. -/
theorem State.attemptSlot_stands {s : State} {o : LinkOwner}
    (h : ∀ n rate auto, s.pool.slot o = .waiting n rate auto → s.pool.fits o n = false) : s.attemptSlot o = s := by
  unfold State.attemptSlot
  split
  next n rate auto k slot _ => rw [h n rate auto slot]; rfl
  next => rfl

/-- R68: what one slot of a grant attempt can do: nothing, or a grant of the lowest FREE clip. -/
theorem State.attemptSlot_cases (s : State) (o : LinkOwner) : s.attemptSlot o = s ∨
    ∃ n rate k auto, s.pool.lowestFree = some k ∧ (s.attemptSlot o).pool =
      (s.pool.grant k n rate (ownerOf o) .filling auto).setSlot o (.granted k) := by
  unfold State.attemptSlot
  split
  next n rate auto k _ free =>
    split
    · exact .inr ⟨n, rate, k, auto, free, by simp [State.deliverFree]⟩
    · exact .inl rfl
  next => exact .inl rfl

@[simp] theorem Pool.setSlot_clip (p : Pool) (o : LinkOwner) (x : Slot) (n : Nat) : (p.setSlot o x).clip n = p.clip n := by
  cases o <;> rfl

@[simp] theorem Pool.setSlot_slot_same (p : Pool) (o : LinkOwner) (x : Slot) : (p.setSlot o x).slot o = x := by
  cases o <;> rfl

theorem Pool.setSlot_slot_ne (p : Pool) {o r : LinkOwner} (h : r ≠ o) (x : Slot) : (p.setSlot o x).slot r = p.slot r := by
  cases o <;> cases r <;> first | rfl | exact absurd rfl h

theorem Pool.grant_slot (p : Pool) (c n rate : Nat) (o : Owner) (st : ClipState) (auto : Bool) (r : LinkOwner) :
    (p.grant c n rate o st auto).slot r = p.slot r := by
  cases r <;> simp [Pool.grant, Pool.slot]

@[simp] theorem State.attemptSlot_cursor (s : State) (o : LinkOwner) : (s.attemptSlot o).pool.cursor = s.pool.cursor := by
  rcases s.attemptSlot_cases o with h | ⟨n, rate, k, auto, -, h⟩ <;> rw [h]
  rw [Pool.grant, Pool.setClip_rest]
  cases o <;> rfl

theorem State.attemptSlot_slot_ne (s : State) {o r : LinkOwner} (h : r ≠ o) : (s.attemptSlot o).pool.slot r = s.pool.slot r := by
  rcases s.attemptSlot_cases o with e | ⟨n, rate, k, auto, -, e⟩ <;> rw [e]
  rw [Pool.setSlot_slot_ne _ h, Pool.grant_slot]

/-- A grant leaves every clip that is not FREE. -/
theorem State.attemptSlot_clip (s : State) (o : LinkOwner) {n : Nat} (used : (s.pool.clip n).state ≠ .free) :
    (s.attemptSlot o).pool.clip n = s.pool.clip n := by
  rcases s.attemptSlot_cases o with h | ⟨m, rate, k, auto, free, h⟩ <;> rw [h]
  obtain ⟨⟨one, -⟩, isFree⟩ := s.pool.lowestFree_spec k free
  rw [Pool.setSlot_clip]
  exact s.pool.clip_setClip_ne one (fun e : k = n => used (e ▸ isFree)) _

@[simp] theorem State.attemptSlot_voc (s : State) (o : LinkOwner) : (s.attemptSlot o).voc = s.voc := by
  unfold State.attemptSlot
  (repeat' split) <;> simp [State.deliverFree]

/-- R68: a request has been granted: its slot, its clip, and the notice. -/
structure Granted (t : State) (o : LinkOwner) (k n : Nat) : Prop where
  slot : t.pool.slot o = .granted k
  state : (t.pool.clip k).state = .filling
  owner : (t.pool.clip k).owner = some (ownerOf o)
  pages : (t.pool.clip k).pages.length = n
  flag : t.port.flags.getLsbD 0 = true

theorem State.attemptSlot_granted {s : State} {o : LinkOwner} {n rate k : Nat} {auto : Bool}
    (slot : s.pool.slot o = .waiting n rate auto) (free : s.pool.lowestFree = some k) (fits : s.pool.fits o n = true) :
    Granted (s.attemptSlot o) o k n := by
  obtain ⟨⟨one, inside⟩, -⟩ := s.pool.lowestFree_spec k free
  have enough : n ≤ s.pool.freePages.length := ((s.pool.fits_iff o n).1 fits).1
  have pool : (s.attemptSlot o).pool = (s.pool.grant k n rate (ownerOf o) .filling auto).setSlot o (.granted k) := by
    simp [State.attemptSlot_grant slot free fits, State.deliverFree]
  have clip : (s.attemptSlot o).pool.clip k =
      ⟨.filling, some (ownerOf o), some rate, s.pool.freePages.take n, 0, 0, auto, .unused⟩ := by
    rw [pool, Pool.setSlot_clip, Pool.grant_eq one]
    simp [Pool.clip, one, inside]
  refine ⟨by rw [pool, Pool.setSlot_slot_same], by rw [clip], by rw [clip], ?_, ?_⟩
  · rw [clip, List.length_take, Nat.min_eq_left enough]
  · rw [State.attemptSlot_grant slot free fits]
    exact Port.raise_sets _ .allocDone (by decide)

/-! ## Both slots (R68) -/

@[simp] theorem State.grantAttempt_cursor (s : State) : s.grantAttempt.pool.cursor = s.pool.cursor := by
  simp [State.grantAttempt]

@[simp] theorem State.grantAttempt_voc (s : State) : s.grantAttempt.voc = s.voc := by
  simp [State.grantAttempt]

theorem State.grantAttempt_clip (s : State) {n : Nat} (used : (s.pool.clip n).state ≠ .free) :
    s.grantAttempt.pool.clip n = s.pool.clip n := by
  have first := s.attemptSlot_clip .vehicle used
  exact ((s.attemptSlot .vehicle).attemptSlot_clip .control (first ▸ used)).trans first

/-- With no request waiting, nothing is granted. -/
theorem State.grantAttempt_stands {s : State} (vehicle : ∀ a b d, s.pool.vehicleSlot ≠ .waiting a b d)
    (control : ∀ a b d, s.pool.controlSlot ≠ .waiting a b d) : s.grantAttempt = s := by
  have first : s.attemptSlot .vehicle = s := State.attemptSlot_stands fun a b d h => absurd h (vehicle a b d)
  rw [State.grantAttempt, first]
  exact State.attemptSlot_stands fun a b d h => absurd h (control a b d)

/-- R68: the vehicle's request is served first, within the free pages. -/
theorem State.grantAttempt_vehicle {s : State} {n rate k : Nat} {auto : Bool} (slot : s.pool.vehicleSlot = .waiting n rate auto)
    (free : s.pool.lowestFree = some k) (enough : n ≤ s.pool.freePages.length) : Granted s.grantAttempt .vehicle k n := by
  have fits : s.pool.fits .vehicle n = true := (s.pool.fits_iff .vehicle n).2 ⟨enough, nofun⟩
  obtain ⟨first, state, owner, pages, flag⟩ := State.attemptSlot_granted (s := s) (o := .vehicle) slot free fits
  have clip := (s.attemptSlot .vehicle).attemptSlot_clip .control (n := k) (by rw [state]; decide)
  refine ⟨?_, ?_, ?_, ?_, ?_⟩
  · exact ((s.attemptSlot .vehicle).attemptSlot_slot_ne (o := .control) (by decide)).trans first
  · exact (congrArg Clip.state clip).trans state
  · exact (congrArg Clip.owner clip).trans owner
  · exact (congrArg (fun c => c.pages.length) clip).trans pages
  · exact ((s.attemptSlot .vehicle).attemptSlot_tells .control).flags 0 flag

/-- R68: the control link's request is served where the vehicle's does not fit, within its limit. -/
theorem State.grantAttempt_control {s : State} {n rate k : Nat} {auto : Bool} (slot : s.pool.controlSlot = .waiting n rate auto)
    (free : s.pool.lowestFree = some k) (vehicle : ∀ a b d, s.pool.vehicleSlot = .waiting a b d → s.pool.freePages.length < a)
    (enough : n ≤ s.pool.freePages.length) (limit : s.pool.otherHeld + n ≤ 928) : Granted s.grantAttempt .control k n := by
  have first : s.attemptSlot .vehicle = s := State.attemptSlot_stands fun a b d h => by
    rw [Bool.eq_false_iff, ne_eq, Pool.fits_iff]
    exact fun fits => absurd fits.1 (Nat.not_le.2 (vehicle a b d h))
  rw [State.grantAttempt, first]
  exact State.attemptSlot_granted (o := .control) slot free ((s.pool.fits_iff .control n).2 ⟨enough, fun _ => limit⟩)

/-! ## Closing and freeing a clip (R73, R74) -/

theorem Pool.clip_inside {p : Pool} {n : Nat} (length : p.clips.length = 63) (one : 1 ≤ n) (most : n ≤ 63) :
    n ≠ 0 ∧ n - 1 < p.clips.length := by omega

/-- R73: the pages that a length needs. -/
theorem ceilDiv_page (len : Nat) : ceilDiv len Config.pageSamples = (len + 1023) / 1024 := by
  simp [ceilDiv, Config.pageSamples]

/-- R73: the record of a clip closed at a length. -/
def Clip.closed (c : Clip) (len : Nat) : Clip :=
  { c with state := .ready, sealedLen := len, fill := len, pages := c.pages.take ((len + 1023) / 1024) }

theorem Pool.close_eq (p : Pool) {n : Nat} (one : n ≠ 0) (len : Nat) : p.close n len = { p with
    clips := p.clips.set (n - 1) ((p.clip n).closed len)
    freePages := p.freePages ++ (p.clip n).pages.drop ((len + 1023) / 1024) } := by
  simp only [Pool.close, Pool.setClip, if_neg one, ceilDiv_page, Clip.closed]

theorem Pool.close_clips (p : Pool) (n len : Nat) : (p.close n len).clips = (p.setClip n ((p.clip n).closed len)).clips := by
  simp only [Pool.close, ceilDiv_page, Clip.closed]

theorem Pool.close_clip {p : Pool} {n : Nat} (used : (p.clip n).state ≠ .free) (len : Nat) :
    (p.close n len).clip n = (p.clip n).closed len := by
  rw [Pool.clip_congr (p.close_clips n len), Pool.clip_setClip used]

theorem Pool.close_lowestFree {p : Pool} {n : Nat} (used : (p.clip n).state ≠ .free) (len : Nat) :
    (p.close n len).lowestFree = p.lowestFree := by
  rw [Pool.lowestFree, Pool.close_clips]
  exact Pool.lowestFree_setClip (c := (p.clip n).closed len) used nofun

theorem Pool.close_otherHeld {p : Pool} {n : Nat} (inside : n ≠ 0 ∧ n - 1 < p.clips.length) (len : Nat) : (p.close n len).otherHeld =
    p.otherHeld - if (p.clip n).owner = some .control ∨ (p.clip n).owner = some .capture
      then (p.clip n).pages.length - (len + 1023) / 1024 else 0 := by
  rw [Pool.otherHeld, Pool.close_clips]
  exact Pool.otherHeld_setClip (c := (p.clip n).closed len) inside (.inl rfl) (by simp only [Clip.closed, List.length_take]; omega)

theorem Pool.close_freePages (p : Pool) (n len : Nat) : (p.close n len).freePages.length =
    p.freePages.length + ((p.clip n).pages.length - (len + 1023) / 1024) := by
  simp only [Pool.close, List.length_append, List.length_drop, ceilDiv_page]

theorem Pool.close_slot (p : Pool) (n len : Nat) (o : LinkOwner) : (p.close n len).slot o = p.slot o := by
  cases o <;> simp [Pool.close, Pool.slot]

/-- R63: the pool with a clip freed. -/
theorem Pool.release_eq (p : Pool) {n : Nat} (one : n ≠ 0) : p.release n = { p with
    clips := p.clips.set (n - 1) Clip.empty
    freePages := p.freePages ++ (p.clip n).pages
    cursor := if p.cursor.clip = n then ⟨0, 0, p.cursor.dir⟩ else p.cursor } := by
  simp only [Pool.release, Pool.setClip, if_neg one]

theorem Pool.release_slot (p : Pool) (n : Nat) (o : LinkOwner) : (p.release n).slot o = p.slot o := by
  cases o <;> simp [Pool.release, Pool.slot]

theorem Pool.release_otherHeld {p : Pool} {n : Nat} (inside : n ≠ 0 ∧ n - 1 < p.clips.length) : (p.release n).otherHeld =
    p.otherHeld - if (p.clip n).owner = some .control ∨ (p.clip n).owner = some .capture then (p.clip n).pages.length else 0 :=
  Pool.otherHeld_setClip (c := Clip.empty) inside (.inr rfl) (Nat.zero_add _)

theorem State.deliverFree_pool (s : State) (old : Nat) : (s.deliverFree old).pool = s.pool := by
  simp [State.deliverFree]

end Sys2Proof.Machine
end

section
/-! SUPPORT. What a seal reports to the voice of its clip (R87, R91). -/

namespace Sys2Proof.Machine

/-! ## Hushes and fades (R36, R83) -/

@[simp] theorem State.orderHush_voice (s : State) (src : Source) (n : Nat) (v : Voice) : (s.orderHush src n).voice v = s.voice v := by
  unfold State.orderHush
  split <;> rfl

theorem State.orderHush_hush (s : State) (src : Source) (n : Nat) : (s.orderHush src n).rend.hush.get src = true := by
  unfold State.orderHush
  split
  next h => exact h
  next => simp

@[simp] theorem State.orderHush_rest (s : State) (src : Source) (n : Nat) :
    (s.orderHush src n).port = s.port ∧ (s.orderHush src n).pool = s.pool := by
  unfold State.orderHush
  split <;> exact ⟨rfl, rfl⟩

theorem State.startFade_voice (s : State) (v : Voice) : (s.startFade v).voice v = { s.voice v with fade := some 6 } := by
  rw [State.startFade, State.setVoice_voice, State.orderHush_voice]

theorem State.startFade_voice_ne (s : State) {v w : Voice} (h : v ≠ w) : (s.startFade v).voice w = s.voice w := by
  rw [State.startFade, State.setVoice_voice_ne _ h, State.orderHush_voice]

theorem State.startFade_hush (s : State) (v : Voice) : (s.startFade v).rend.hush.get (voiceSource v) = true :=
  s.orderHush_hush (voiceSource v) 5

@[simp] theorem State.startFade_rest (s : State) (v : Voice) : (s.startFade v).port = s.port ∧ (s.startFade v).pool = s.pool :=
  s.orderHush_rest (voiceSource v) 5

/-! ## The cut of a pass (R91) -/

/-- R90: another pass follows where the entry repeats without end, or more than one pass remains. -/
theorem anotherPass_iff (e : Entry) (passes : Nat) : anotherPass e passes = true ↔ e.repeats = 0 ∨ 1 < passes := by
  unfold anotherPass passesAfter
  by_cases h : e.repeats = 0
  · simp [h]
  · simp only [h, beq_iff_eq, Bool.or_eq_true, decide_eq_true_eq, if_false, false_or]
    omega

theorem State.conclude_eq {s : State} {v : Voice} {e : Entry} {es : List Entry} (queue : (s.voice v).queue = e :: es) (o : CompStatus) :
    s.conclude v o = s.setVoice v { s.voice v with
      queue := { e with outcome := some o } :: es, state := .retiring, gap := none, maxWait := none } := by
  simp [State.conclude, queue]

/-- R91: the voice's record after its pass has been cut, up to the fade. -/
def VoiceRec.cut (r : VoiceRec) (e : Entry) (es : List Entry) : VoiceRec :=
  if anotherPass e r.passes then
    { r with state := .gap, passes := passesAfter e r.passes, position := 0, gap := some (max e.gap 6) }
  else
    { r with passes := passesAfter e r.passes, queue := { e with outcome := some .played } :: es, state := .retiring, gap := none, maxWait := none }

theorem State.setVoice_setVoice (s : State) (v : Voice) (r r' : VoiceRec) : (s.setVoice v r).setVoice v r' = s.setVoice v r' := by
  cases v <;> rfl

theorem State.cutPass_eq {s : State} {v : Voice} {e : Entry} {es : List Entry} (queue : (s.voice v).queue = e :: es) :
    s.cutPass v e = (s.setVoice v ((s.voice v).cut e es)).startFade v := by
  unfold State.cutPass VoiceRec.cut
  dsimp only
  split
  · rfl
  · rw [State.conclude_eq (e := e) (es := es) (by rw [State.setVoice_voice]; exact queue), State.setVoice_voice, State.setVoice_setVoice]

/-! ## The report (R73, R87, R91) -/

/-- R91: the voice stands beyond the clip's sealed length, in PLAYING or in WAITING_ZONE after its first sample. -/
def State.beyond (s : State) (n : Nat) (v : Voice) : Prop :=
  (s.pool.clip n).use = .playing v ∧
  ((s.voice v).state = .playing ∨ ((s.voice v).state = .waitingZone ∧ (s.voice v).first = true)) ∧
  (s.pool.clip n).sealedLen < (s.voice v).position

theorem State.sealReport_fill {s : State} {n : Nat} {v : Voice} (use : (s.pool.clip n).use = .playing v)
    (waits : (s.voice v).state = .waitingFill) : s.sealReport n = s.leaveFill v := by
  simp [State.sealReport, use, waits]

theorem State.sealReport_beyond {s : State} {n : Nat} {v : Voice} {e : Entry} {es : List Entry} (h : s.beyond n v)
    (queue : (s.voice v).queue = e :: es) : s.sealReport n = s.cutPass v e := by
  obtain ⟨use, state | ⟨state, first⟩, past⟩ := h
  · simp [State.sealReport, use, state, queue, past]
  · simp [State.sealReport, use, state, queue, first, past]

/-- R73: what the report of a seal can do. -/
theorem State.sealReport_cases (s : State) (n : Nat) : s.sealReport n = s ∨
    (∃ v, (s.pool.clip n).use = .playing v ∧ (s.voice v).state = .waitingFill ∧ s.sealReport n = s.leaveFill v) ∨
    ∃ v e es, s.beyond n v ∧ (s.voice v).queue = e :: es ∧ s.sealReport n = (s.setVoice v ((s.voice v).cut e es)).startFade v := by
  have cut {v : Voice} {e : Entry} {es : List Entry} (queue : (s.voice v).queue = e :: es) (h : s.beyond n v) :
      s.sealReport n = (s.setVoice v ((s.voice v).cut e es)).startFade v :=
    (State.sealReport_beyond h queue).trans (State.cutPass_eq queue)
  cases use : (s.pool.clip n).use with
  | unused => exact .inl (by simp [State.sealReport, use])
  | queued => exact .inl (by simp [State.sealReport, use])
  | playing v =>
    by_cases waits : (s.voice v).state = .waitingFill
    · exact .inr (.inl ⟨v, rfl, waits, State.sealReport_fill use waits⟩)
    · by_cases past : s.beyond n v
      · cases queue : (s.voice v).queue with
        | nil =>
          obtain ⟨-, state | ⟨state, -⟩, -⟩ := past
          · exact .inl (by simp [State.sealReport, use, state, queue])
          · exact .inl (by simp [State.sealReport, use, state, queue])
        | cons e es => exact .inr (.inr ⟨v, e, es, past, queue, cut queue past⟩)
      · refine .inl ?_
        unfold State.sealReport
        rw [use]
        dsimp only
        split
        next h => exact absurd h waits
        next state _ => exact if_neg fun h => past ⟨use, .inl state, h⟩
        next state _ => exact if_neg fun h => past ⟨use, .inr ⟨state, h.1⟩, h.2⟩
        next => rfl

theorem State.sealReport_voice_other {s : State} {n : Nat} {v : Voice}
    (h : (s.pool.clip n).use ≠ .playing v ∨ ((s.voice v).state ≠ .waitingFill ∧ ¬ s.beyond n v)) :
    (s.sealReport n).voice v = s.voice v := by
  rcases s.sealReport_cases n with e | ⟨w, use, waits, e⟩ | ⟨w, _, _, beyond, _, e⟩ <;> rw [e]
  · refine State.setVoice_voice_ne s (fun same : w = v => ?_) _
    subst same
    exact h.elim (fun h => h use) fun h => h.1 waits
  · have other : w ≠ v := by
      rintro rfl
      exact h.elim (fun h => h beyond.1) fun h => h.2 beyond
    rw [State.startFade_voice_ne _ other, State.setVoice_voice_ne _ other]

theorem State.sealReport_rest (s : State) (n : Nat) : (s.sealReport n).port = s.port ∧ (s.sealReport n).pool = s.pool := by
  rcases s.sealReport_cases n with e | ⟨w, -, -, e⟩ | ⟨w, _, _, -, -, e⟩ <;> rw [e]
  · exact ⟨rfl, rfl⟩
  · exact ⟨rfl, rfl⟩
  · exact State.startFade_rest _ w

/-! ## Closing a clip: the pool, and the voice of the clip -/

/-- R73: the clip is READY and its pages are back, before any grant. -/
def State.closing (s : State) (n len : Nat) : State := (s.mapPool (·.close n len)).deliverFree s.pool.freeCount

theorem State.closing_pool (s : State) (n len : Nat) : (s.closing n len).pool = s.pool.close n len := by
  rw [State.closing, State.deliverFree_pool]
  rfl

theorem State.closing_rest (s : State) (n len : Nat) : (s.closing n len).voc = s.voc ∧ (s.closing n len).port = s.port := by
  simp [State.closing, State.deliverFree]

theorem State.closeClip_returns {s : State} {n len : Nat} (h : 0 < (s.pool.clip n).pages.length - (len + 1023) / 1024) :
    s.closeClip n len = (s.closing n len).grantAttempt :=
  if_pos (by rw [ceilDiv_page]; omega)

theorem State.closeClip_keeps {s : State} {n len : Nat} (h : (s.pool.clip n).pages.length - (len + 1023) / 1024 = 0) :
    s.closeClip n len = s.closing n len :=
  if_neg (by rw [ceilDiv_page]; omega)

theorem State.closeClip_voc (s : State) (n len : Nat) : (s.closeClip n len).voc = s.voc := by
  rcases Nat.eq_zero_or_pos ((s.pool.clip n).pages.length - (len + 1023) / 1024) with h | h
  · rw [State.closeClip_keeps h, (s.closing_rest n len).1]
  · rw [State.closeClip_returns h, State.grantAttempt_voc, (s.closing_rest n len).1]

theorem State.closeClip_cursor (s : State) (n len : Nat) : (s.closeClip n len).pool.cursor = s.pool.cursor := by
  have closing : (s.closing n len).pool.cursor = s.pool.cursor := by
    rw [State.closing_pool, Pool.close, Pool.setClip_rest]
  rcases Nat.eq_zero_or_pos ((s.pool.clip n).pages.length - (len + 1023) / 1024) with h | h
  · rw [State.closeClip_keeps h, closing]
  · rw [State.closeClip_returns h, State.grantAttempt_cursor, closing]

theorem State.closeClip_clip {s : State} {n : Nat} (used : (s.pool.clip n).state ≠ .free) (len : Nat) :
    (s.closeClip n len).pool.clip n = (s.pool.clip n).closed len := by
  have closing : (s.closing n len).pool.clip n = (s.pool.clip n).closed len := by
    rw [State.closing_pool, Pool.close_clip used]
  rcases Nat.eq_zero_or_pos ((s.pool.clip n).pages.length - (len + 1023) / 1024) with h | h
  · rw [State.closeClip_keeps h, closing]
  · rw [State.closeClip_returns h, State.grantAttempt_clip _ (by rw [closing]; exact nofun), closing]

theorem Granted.sealReport {t : State} {o : LinkOwner} {k m : Nat} (h : Granted t o k m) (n : Nat) : Granted (t.sealReport n) o k m := by
  obtain ⟨slot, state, owner, pages, flag⟩ := h
  obtain ⟨port, pool⟩ := t.sealReport_rest n
  exact ⟨by rw [pool, slot], by rw [pool, state], by rw [pool, owner], by rw [pool, pages], by rw [port, flag]⟩

theorem Granted.untaken {s v : State} {o : LinkOwner} {k m : Nat} (h : Granted v o k m) : Granted (s.untaken v) o k m :=
  ⟨h.slot, h.state, h.owner, h.pages, h.flag⟩

/-- R68, R73: the pages of a seal come back to the vehicle's request. -/
theorem State.seal_grantsVehicle {s : State} {n len k m rate : Nat} {auto : Bool} (used : (s.pool.clip n).state ≠ .free)
    (returns : 0 < (s.pool.clip n).pages.length - (len + 1023) / 1024) (free : s.pool.lowestFree = some k)
    (slot : s.pool.vehicleSlot = .waiting m rate auto)
    (enough : m ≤ s.pool.freePages.length + ((s.pool.clip n).pages.length - (len + 1023) / 1024)) :
    Granted (s.seal n len) .vehicle k m := by
  rw [State.seal, State.closeClip_returns returns]
  refine (State.grantAttempt_vehicle (rate := rate) (auto := auto) ?_ ?_ ?_).sealReport n
  · rw [State.closing_pool]
    exact (s.pool.close_slot n len .vehicle).trans slot
  · rw [State.closing_pool, Pool.close_lowestFree used, free]
  · rwa [State.closing_pool, Pool.close_freePages]

/-- R68, R73: they come to the control link's request where the vehicle's does not fit, within its limit. -/
theorem State.seal_grantsControl {s : State} {n len k m rate : Nat} {auto : Bool} (used : (s.pool.clip n).state ≠ .free)
    (returns : 0 < (s.pool.clip n).pages.length - (len + 1023) / 1024) (free : s.pool.lowestFree = some k)
    (slot : s.pool.controlSlot = .waiting m rate auto)
    (vehicle : ∀ a b d, s.pool.vehicleSlot = .waiting a b d →
      s.pool.freePages.length + ((s.pool.clip n).pages.length - (len + 1023) / 1024) < a)
    (enough : m ≤ s.pool.freePages.length + ((s.pool.clip n).pages.length - (len + 1023) / 1024))
    (limit : s.pool.otherHeld - (if (s.pool.clip n).owner = some .control ∨ (s.pool.clip n).owner = some .capture
      then (s.pool.clip n).pages.length - (len + 1023) / 1024 else 0) + m ≤ 928) : Granted (s.seal n len) .control k m := by
  have inside : n ≠ 0 ∧ n - 1 < s.pool.clips.length := by
    by_contra outside
    exact used (by rw [s.pool.clip_outside n outside]; rfl)
  rw [State.seal, State.closeClip_returns returns]
  refine (State.grantAttempt_control (rate := rate) (auto := auto) ?_ ?_ ?_ ?_ ?_).sealReport n
  · rw [State.closing_pool]
    exact (s.pool.close_slot n len .control).trans slot
  · rw [State.closing_pool, Pool.close_lowestFree used, free]
  · intro a b d h
    rw [State.closing_pool] at h ⊢
    rw [Pool.close_freePages]
    exact vehicle a b d ((s.pool.close_slot n len .vehicle).symm.trans h)
  · rwa [State.closing_pool, Pool.close_freePages]
  · rwa [State.closing_pool, Pool.close_otherHeld inside]

/-- R73: with no page returned, or no request waiting, the pool is the closed one. -/
theorem State.seal_pool {s : State} {n len : Nat} (h : (s.pool.clip n).pages.length - (len + 1023) / 1024 = 0 ∨
      ((∀ a b d, s.pool.vehicleSlot ≠ .waiting a b d) ∧ ∀ a b d, s.pool.controlSlot ≠ .waiting a b d)) :
    (s.seal n len).pool = s.pool.close n len := by
  rw [State.seal, (State.sealReport_rest _ n).2]
  rcases Nat.eq_zero_or_pos ((s.pool.clip n).pages.length - (len + 1023) / 1024) with keeps | returns
  · rw [State.closeClip_keeps keeps, State.closing_pool]
  · obtain ⟨vehicle, control⟩ := h.resolve_left (Nat.ne_of_gt returns)
    have vehicle' (a b d) : (s.closing n len).pool.vehicleSlot ≠ .waiting a b d := by
      rw [State.closing_pool]
      exact fun e => vehicle a b d ((s.pool.close_slot n len .vehicle).symm.trans e)
    have control' (a b d) : (s.closing n len).pool.controlSlot ≠ .waiting a b d := by
      rw [State.closing_pool]
      exact fun e => control a b d ((s.pool.close_slot n len .control).symm.trans e)
    rw [State.closeClip_returns returns, State.grantAttempt_stands vehicle' control', State.closing_pool]

section
variable {s : State} {n : Nat} (used : (s.pool.clip n).state ≠ .free) (len : Nat) {v : Voice}
include used

/-- What the report of a seal finds: the clip's mark and length, and the voices as they were. -/
theorem State.closeClip_reported (v : Voice) : ((s.closeClip n len).pool.clip n).use = (s.pool.clip n).use ∧
    ((s.closeClip n len).pool.clip n).sealedLen = len ∧ (s.closeClip n len).voice v = s.voice v ∧
    (s.closeClip n len).voiceHeard v = s.voiceHeard v := by
  have heard : (s.closeClip n len).voiceHeard v = s.voiceHeard v := by
    simp only [State.voiceHeard, State.claim, State.zone, State.closeClip_arb]
  rw [State.closeClip_clip used, State.voice, State.closeClip_voc]
  exact ⟨rfl, rfl, rfl, heard⟩

/-- R87: a voice in WAITING_FILL leaves at the seal of its clip. -/
theorem State.seal_fill (use : (s.pool.clip n).use = .playing v) (waits : (s.voice v).state = .waitingFill) :
    (s.seal n len).voice v = { s.voice v with state := if s.voiceHeard v then .playing else .waitingZone } := by
  obtain ⟨use', -, voice, heard⟩ := State.closeClip_reported used len v
  rw [State.seal, State.sealReport_fill (use'.trans use) (by rw [voice, waits]), State.leaveFill, State.setVoice_voice, voice, heard]

theorem State.closeClip_beyond : (s.closeClip n len).beyond n v ↔ (s.pool.clip n).use = .playing v ∧
    ((s.voice v).state = .playing ∨ ((s.voice v).state = .waitingZone ∧ (s.voice v).first = true)) ∧ len < (s.voice v).position := by
  obtain ⟨use, length, voice, -⟩ := State.closeClip_reported used len v
  rw [State.beyond, use, length, voice]

/-- R91: a voice beyond the new length is cut and fades out. -/
theorem State.seal_cut {e : Entry} {es : List Entry} (h : (s.closeClip n len).beyond n v) (queue : (s.voice v).queue = e :: es) :
    (s.seal n len).rend.hush.get (voiceSource v) = true ∧ (s.seal n len).voice v = { (s.voice v).cut e es with fade := some 6 } := by
  obtain ⟨-, -, voice, -⟩ := State.closeClip_reported used len v
  have queue' : ((s.closeClip n len).voice v).queue = e :: es := by rw [voice, queue]
  rw [State.seal, State.sealReport_beyond h queue', State.cutPass_eq queue', voice]
  exact ⟨State.startFade_hush _ v, by rw [State.startFade_voice, State.setVoice_voice]⟩

/-- R73: any other voice stands. -/
theorem State.seal_other (h : (s.pool.clip n).use ≠ .playing v ∨ ((s.voice v).state ≠ .waitingFill ∧ ¬ (s.closeClip n len).beyond n v)) :
    (s.seal n len).voice v = s.voice v := by
  obtain ⟨use, -, voice, -⟩ := State.closeClip_reported used len v
  rw [State.seal, State.sealReport_voice_other (by rw [use, voice]; exact h), voice]

end

end Sys2Proof.Machine
end

section
/-! SUPPORT. POOL.SEAL and POOL.RELEASE (R73, R74). -/

namespace Sys2Proof.Machine

/-- A request that passes its gate, with an effect within the frame of the claim operations. -/
theorem answers_claimFrame {c : Instr} {s v : State} (cls verb : Nat) {g : Gate} {code q : Byte} {body : State → Reply × State}
    {r : Reply} (hp : s.port.resetPending = false) (hg : gateRefusal g s = none) (he : exec c s = serve cls verb q g s body)
    (hc : codeByte cls verb = code) (hb : body s.taking = (r, v)) (frame : ClaimFrame s.taking v) :
    Answers c s (s.untaken v) code q r ∧ ClaimFrame s (s.untaken v) :=
  ⟨answers_effect cls verb hp hg he hc hb frame.sends.1 frame.sends.2, frame.untaken⟩

/-! ## The requests -/

/-- The body of POOL.SEAL. -/
def sealBody (clip length : Nat) (s : State) : Reply × State :=
  if clipNumber clip then
    let c := s.pool.clip clip
    if c.state ≠ .filling then refuse .state s
    else if length = 0 ∨ c.fill < length then refuse .range s
    else report (.sealed length ((length + 1023) / 1024) (c.pages.length - (length + 1023) / 1024)) (s.seal clip length)
  else refuse .range s

theorem execPoolSeal_eq (q : Byte) (n len : Nat) (s : State) :
    exec (.poolSeal q n len) s = serve 3 6 q .runOnly s (sealBody n len) := by
  have body : (fun s : State =>
      if clipNumber n then
        if (s.pool.clip n).state ≠ .filling then refuse .state s
        else if len = 0 ∨ (s.pool.clip n).fill < len then refuse .range s
        else report (.sealed len (ceilDiv len Config.pageSamples) ((s.pool.clip n).pages.length - ceilDiv len Config.pageSamples))
          (s.seal n len)
      else refuse .range s) = sealBody n len := by
    rw [ceilDiv_page]
    rfl
  rw [← body]
  rfl

theorem sealBody_accepted {s : State} {n len : Nat} (one : 1 ≤ n) (most : n ≤ 63) (filling : (s.pool.clip n).state = .filling)
    (nonempty : 1 ≤ len) (filled : len ≤ (s.pool.clip n).fill) : sealBody n len s =
      report (.sealed len ((len + 1023) / 1024) ((s.pool.clip n).pages.length - (len + 1023) / 1024)) (s.seal n len) := by
  have inside : ¬ (len = 0 ∨ (s.pool.clip n).fill < len) := by omega
  simp only [sealBody, clipNumber_eq one most, filling, if_true, ne_eq, not_true_eq_false, if_false, inside]

/-- The body of POOL.RELEASE. -/
def releaseBody (clip : Nat) (s : State) : Reply × State :=
  if clipNumber clip then
    let c := s.pool.clip clip
    if c.state = .free then refuse .state s
    else if c.state = .capturing ∨ c.use ≠ .unused then refuse .inUse s
    else report (.released c.pages.length) (s.freeClip clip)
  else refuse .range s

theorem execPoolRelease_eq (q : Byte) (n : Nat) (s : State) :
    exec (.poolRelease q n) s = serve 3 7 q .runOnly s (releaseBody n) := rfl

theorem releaseBody_accepted {s : State} {n : Nat} (one : 1 ≤ n) (most : n ≤ 63) (used : (s.pool.clip n).state ≠ .free)
    (closed : (s.pool.clip n).state ≠ .capturing) (unused : (s.pool.clip n).use = .unused) :
    releaseBody n s = report (.released (s.pool.clip n).pages.length) (s.freeClip n) := by
  simp [releaseBody, clipNumber_eq one most, used, closed, unused]

/-! ## Freeing a clip (R74) -/

/-- R74: the clip is FREE and its pages are back, before any grant. -/
def State.releasing (s : State) (n : Nat) : State := (s.mapPool (·.release n)).deliverFree s.pool.freeCount

theorem State.releasing_pool (s : State) (n : Nat) : (s.releasing n).pool = s.pool.release n := by
  rw [State.releasing, State.deliverFree_pool]
  rfl

theorem State.freeClip_eq (s : State) (n : Nat) : s.freeClip n = (s.releasing n).grantAttempt := rfl

theorem Pool.release_freePages (p : Pool) (n : Nat) :
    (p.release n).freePages.length = p.freePages.length + (p.clip n).pages.length :=
  List.length_append

theorem Pool.release_lowestFree {p : Pool} {n : Nat} (inside : n ≠ 0 ∧ n - 1 < p.clips.length) :
    ∃ c, (p.release n).lowestFree = some c ∧ (c = n ∨ p.lowestFree = some c) :=
  Pool.lowestFree_freed inside

/-- R74: with no request waiting, the clip's pages join the free list, its record empties, and a cursor that names it is cleared. -/
theorem State.freeClip_unrequested {s : State} {n : Nat} (vehicle : ∀ a b d, s.pool.vehicleSlot ≠ .waiting a b d)
    (control : ∀ a b d, s.pool.controlSlot ≠ .waiting a b d) : s.freeClip n = s.releasing n := by
  rw [State.freeClip_eq]
  refine State.grantAttempt_stands (fun a b d => ?_) fun a b d => ?_
  · rw [State.releasing_pool]
    exact fun e => vehicle a b d ((s.pool.release_slot n .vehicle).symm.trans e)
  · rw [State.releasing_pool]
    exact fun e => control a b d ((s.pool.release_slot n .control).symm.trans e)

/-- R68, R74: the vehicle's request takes the freed clip, or a lower FREE one. -/
theorem State.freeClip_grantsVehicle {s : State} {n m rate : Nat} {auto : Bool} (inside : n ≠ 0 ∧ n - 1 < s.pool.clips.length)
    (slot : s.pool.vehicleSlot = .waiting m rate auto) (enough : m ≤ s.pool.freePages.length + (s.pool.clip n).pages.length) :
    ∃ c, Granted (s.freeClip n) .vehicle c m ∧ (c = n ∨ s.pool.lowestFree = some c) := by
  obtain ⟨c, free, which⟩ := Pool.release_lowestFree inside
  refine ⟨c, State.grantAttempt_vehicle (s := s.releasing n) (rate := rate) (auto := auto) ?_ ?_ ?_, which⟩
  · rw [State.releasing_pool]
    exact (s.pool.release_slot n .vehicle).trans slot
  · rw [State.releasing_pool, free]
  · rwa [State.releasing_pool, Pool.release_freePages]

theorem State.freeClip_grantsControl {s : State} {n m rate : Nat} {auto : Bool} (inside : n ≠ 0 ∧ n - 1 < s.pool.clips.length)
    (slot : s.pool.controlSlot = .waiting m rate auto)
    (vehicle : ∀ a b d, s.pool.vehicleSlot = .waiting a b d → s.pool.freePages.length + (s.pool.clip n).pages.length < a)
    (enough : m ≤ s.pool.freePages.length + (s.pool.clip n).pages.length)
    (limit : s.pool.otherHeld - (if (s.pool.clip n).owner = some .control ∨ (s.pool.clip n).owner = some .capture
      then (s.pool.clip n).pages.length else 0) + m ≤ 928) :
    ∃ c, Granted (s.freeClip n) .control c m ∧ (c = n ∨ s.pool.lowestFree = some c) := by
  obtain ⟨c, free, which⟩ := Pool.release_lowestFree inside
  refine ⟨c, State.grantAttempt_control (s := s.releasing n) (rate := rate) (auto := auto) ?_ ?_ ?_ ?_ ?_, which⟩
  · rw [State.releasing_pool]
    exact (s.pool.release_slot n .control).trans slot
  · rw [State.releasing_pool, free]
  · intro a b d h
    rw [State.releasing_pool] at h ⊢
    rw [Pool.release_freePages]
    exact vehicle a b d ((s.pool.release_slot n .vehicle).symm.trans h)
  · rwa [State.releasing_pool, Pool.release_freePages]
  · rwa [State.releasing_pool, Pool.release_otherHeld inside]

theorem State.releasing_rest (s : State) (n : Nat) : s.releasing n = { s with pool := (s.releasing n).pool, wat := (s.releasing n).wat } := by
  unfold State.releasing State.deliverFree State.deliverChange
  split <;> rfl

/-! ## The refusals -/

theorem poolSeal_refused {s : State} (q : Byte) (hs : Serves s) {n : Nat} (len : Nat) (one : 1 ≤ n) (most : n ≤ 63) :
    ((s.pool.clip n).state ≠ .filling → Answers (.poolSeal q n len) s s 0x36 q (.refused .state [])) ∧
    ((s.pool.clip n).state = .filling → (len = 0 ∨ (s.pool.clip n).fill < len) →
      Answers (.poolSeal q n len) s s 0x36 q (.refused .range [])) := by
  refine ⟨fun other => ?_, fun filling outside => ?_⟩
  · exact answers_runOnly 3 6 hs (execPoolSeal_eq q n len s) rfl ((if_pos (clipNumber_eq one most)).trans (if_pos other))
  · exact answers_runOnly 3 6 hs (execPoolSeal_eq q n len s) rfl
      ((if_pos (clipNumber_eq one most)).trans ((if_neg (not_not.2 filling)).trans (if_pos outside)))

theorem poolRelease_refused {s : State} (q : Byte) (hs : Serves s) {n : Nat} (one : 1 ≤ n) (most : n ≤ 63) :
    ((s.pool.clip n).state = .free → Answers (.poolRelease q n) s s 0x37 q (.refused .state [])) ∧
    ((s.pool.clip n).state = .capturing ∨ ((s.pool.clip n).state ≠ .free ∧ (s.pool.clip n).use ≠ .unused) →
      Answers (.poolRelease q n) s s 0x37 q (.refused .inUse [])) := by
  refine ⟨fun free => ?_, fun engaged => ?_⟩
  · exact answers_runOnly 3 7 hs (execPoolRelease_eq q n s) rfl ((if_pos (clipNumber_eq one most)).trans (if_pos free))
  · have used : (s.pool.clip n).state ≠ .free := by
      rcases engaged with capturing | ⟨used, -⟩
      · rw [capturing]
        decide
      · exact used
    exact answers_runOnly 3 7 hs (execPoolRelease_eq q n s) rfl
      ((if_pos (clipNumber_eq one most)).trans ((if_neg used).trans (if_pos (engaged.imp_right And.right))))

theorem poolSealRelease_unnamed {s : State} (q : Byte) (hs : Serves s) {n : Nat} (len : Nat) (h : n = 0 ∨ 63 < n) :
    Answers (.poolSeal q n len) s s 0x36 q (.refused .range []) ∧ Answers (.poolRelease q n) s s 0x37 q (.refused .range []) := by
  have outside : ¬ clipNumber n = true := by simp [clipNumber_outside h]
  exact ⟨answers_runOnly 3 6 hs (execPoolSeal_eq q n len s) rfl (if_neg outside),
    answers_runOnly 3 7 hs (execPoolRelease_eq q n s) rfl (if_neg outside)⟩

/-! ## The two requests together -/

/-- R91: the cut record, with and without another pass. -/
theorem VoiceRec.cut_spec (r : VoiceRec) (e : Entry) (es : List Entry) :
    (e.repeats = 0 ∨ 1 < r.passes → { r.cut e es with fade := some 6 } = { r with
      state := .gap, position := 0, gap := some (max e.gap 6), fade := some 6
      passes := if e.repeats = 0 then r.passes else r.passes - 1 }) ∧
    (e.repeats ≠ 0 → r.passes ≤ 1 → { r.cut e es with fade := some 6 } = { r with
      state := .retiring, gap := none, maxWait := none, fade := some 6, passes := r.passes - 1
      queue := { e with outcome := some .played } :: es }) := by
  refine ⟨fun more => ?_, fun finite last => ?_⟩
  · rw [VoiceRec.cut, if_pos ((anotherPass_iff e _).2 more)]
    rfl
  · have none_ : ¬ anotherPass e r.passes = true := by
      rw [anotherPass_iff]
      omega
    rw [VoiceRec.cut, if_neg none_, passesAfter, if_neg finite]

/-- Settles O34: `State.seal` and `State.freeClip` are the effects, on the state in which the reply before has left. -/
theorem sealAndRelease : Obligations.SealAndRelease := by
  refine ⟨fun s q n len hs length one most filling nonempty filled => ?_, fun s q n len hs one most => poolSeal_refused q hs len one most,
    fun s q n hs one most length used closed unused => ?_, fun s q n hs one most => poolRelease_refused q hs one most,
    fun s q n len hs h => poolSealRelease_unnamed q hs len h⟩
  · intro c kept
    have used : (s.taking.pool.clip n).state ≠ .free := by
      change (s.pool.clip n).state ≠ .free
      rw [filling]
      decide
    obtain ⟨answers, frame⟩ := answers_claimFrame 3 6 hs.2 hs.gate (execPoolSeal_eq q n len s) rfl
      (sealBody_accepted (s := s.taking) one most filling nonempty filled) (State.seal_frame s.taking n len)
    have pool : (s.taking.seal n len).pool = (s.taking.closeClip n len).pool := (State.sealReport_rest _ n).2
    refine ⟨s.untaken (s.taking.seal n len), answers, frame, ?_, ?_, ⟨fun h => ?_, fun k m rate auto returns free slot enough => ?_,
      fun k m rate auto returns free slot vehicle enough limit => ?_⟩, fun v => ?_⟩
    · exact (congrArg (fun p => p.clip n) pool).trans (State.closeClip_clip used len)
    · exact (congrArg Pool.cursor pool).trans (State.closeClip_cursor _ n len)
    · exact (State.seal_pool (s := s.taking) h).trans (s.pool.close_eq (Nat.ne_of_gt one) len)
    · obtain ⟨granted, state, owner, pages, flag⟩ := State.seal_grantsVehicle (s := s.taking) used returns free slot enough
      exact ⟨granted, state, owner, pages, flag⟩
    · obtain ⟨granted, state, owner, pages, flag⟩ := State.seal_grantsControl (s := s.taking) used returns free slot vehicle enough limit
      exact ⟨granted, state, owner, pages, flag⟩
    · have cut := State.closeClip_beyond (s := s.taking) used len (v := v)
      refine ⟨fun use waits => State.seal_fill (s := s.taking) used len use waits, fun e es beyond queue => ?_, fun h => ?_⟩
      · obtain ⟨hush, voice⟩ := State.seal_cut (s := s.taking) used len (cut.2 beyond) queue
        obtain ⟨more, last⟩ := (s.voice v).cut_spec e es
        exact ⟨hush, fun h => voice.trans (more h), fun h h' => voice.trans (last h h')⟩
      · exact State.seal_other (s := s.taking) used len (h.imp_right fun h => ⟨h.1, fun b => h.2 (cut.1 b)⟩)
  · intro back other
    have inside : n ≠ 0 ∧ n - 1 < s.taking.pool.clips.length := Pool.clip_inside length one most
    obtain ⟨answers, frame⟩ := answers_claimFrame 3 7 hs.2 hs.gate (execPoolRelease_eq q n s) rfl
      (releaseBody_accepted (s := s.taking) one most used closed unused) (State.freeClip_frame s.taking n)
    refine ⟨s.untaken (s.taking.freeClip n), answers, frame, fun vehicle control => ?_, fun m rate auto slot enough => ?_,
      fun m rate auto slot vehicle enough limit => ?_⟩
    · have freed : s.taking.freeClip n = s.taking.releasing n := State.freeClip_unrequested vehicle control
      have rest := s.taking.releasing_rest n
      have port : (s.taking.releasing n).port = s.taking.port := by rw [rest]
      rw [freed, State.untaken_of_port port]
      refine ⟨?_, (s.taking.releasing_pool n).trans (s.pool.release_eq (Nat.ne_of_gt one))⟩
      rw [rest]
      rfl
    · obtain ⟨c, granted, which⟩ := State.freeClip_grantsVehicle (s := s.taking) inside slot enough
      exact ⟨⟨c, granted.slot, which⟩, granted.flag⟩
    · obtain ⟨c, granted, which⟩ := State.freeClip_grantsControl (s := s.taking) inside slot vehicle enough limit
      exact ⟨⟨c, granted.slot, which⟩, granted.flag⟩

end Sys2Proof.Machine
end

section
/-! SUPPORT. The end of an entry (R92, R93): what its completion and the next entry leave of the voice, of the completion queues and of the
clip that is freed. -/

namespace Sys2Proof.Machine

/-! ## The completion queues -/

/-- The completion queues and their waiters stand. -/
structure SameCompletions (s t : State) : Prop where
  control : t.voc.control = s.voc.control
  vehicle : t.voc.vehicle = s.voc.vehicle
  waiters : ∀ b, t.waiters b = s.waiters b

theorem SameCompletions.of_voc {s t : State} (h : t.voc = s.voc) : SameCompletions s t :=
  ⟨by rw [h], by rw [h], fun b => by rw [State.waiters, State.waiters, h]⟩

theorem SameCompletions.refl (s : State) : SameCompletions s s := .of_voc rfl

theorem SameCompletions.trans {s t u : State} (h : SameCompletions s t) (h' : SameCompletions t u) : SameCompletions s u :=
  ⟨h'.control.trans h.control, h'.vehicle.trans h.vehicle, fun b => (h'.waiters b).trans (h.waiters b)⟩

theorem State.setVoice_completions (s : State) (v : Voice) (r : VoiceRec) : SameCompletions s (s.setVoice v r) := ⟨rfl, rfl, fun _ => rfl⟩

theorem ClaimChange.completions {s t : State} (h : ClaimChange s t) : SameCompletions s t := by
  cases h with
  | setZone | mapRend | raise => exact .of_voc rfl
  | voiceReport v =>
    rw [State.voiceReport_eq]
    exact s.setVoice_completions v _
  | noteHeld p => exact .of_voc (s.noteHeld_voc p)
  | captureFor p => exact .of_voc (s.captureFor_rest p).2.2.2

theorem ClaimWork.completions {s t : State} (h : ClaimWork s t) : SameCompletions s t :=
  h.keep SameCompletions.refl (fun _ _ _ => SameCompletions.trans) fun _ _ => ClaimChange.completions

/-! ## Hushes -/

theorem State.liftHush_hush (s : State) (src : Source) : (s.liftHush src).rend.hush.get src = false := by
  unfold State.liftHush
  split
  next => simp
  next h => exact Bool.eq_false_iff.2 h

theorem State.liftHush_rest (s : State) (src : Source) :
    (s.liftHush src).voc = s.voc ∧ (s.liftHush src).pool = s.pool ∧ (s.liftHush src).port = s.port := by
  unfold State.liftHush
  split <;> exact ⟨rfl, rfl, rfl⟩

/-! ## The next entry (R86, R92) -/

/-- R86: the voice of an entry that has become current. -/
theorem State.becomeCurrent_voice (s : State) (v : Voice) (e : Entry) : (s.becomeCurrent v e).voice v = (s.voice v).current e := by
  have placed : ((s.setUse e.clip (.playing v)).setVoice v ((s.voice v).current e)).voice v = (s.voice v).current e :=
    State.setVoice_voice _ v _
  exact ((s.becomeCurrent_work v e).voice_still (by rw [placed]; exact nofun) (by rw [placed]; exact nofun)).trans placed

theorem State.becomeCurrent_completions (s : State) (v : Voice) (e : Entry) : SameCompletions s (s.becomeCurrent v e) :=
  have placed : SameCompletions s ((s.setUse e.clip (.playing v)).setVoice v ((s.voice v).current e)) := ⟨rfl, rfl, fun _ => rfl⟩
  placed.trans (s.becomeCurrent_work v e).completions

theorem State.becomeCurrent_hush (s : State) (v : Voice) (e : Entry) :
    (s.becomeCurrent v e).rend.hush.get (voiceSource v) = false :=
  State.liftHush_hush _ _

theorem State.leaveZones_mark (s : State) (v : Voice) (z : Zone) : (s.leaveZones v).mark z (voiceSource v) = none := by
  rw [State.leaveZones, State.mark_of_arb (State.liftHush_arb ..), State.withdrawAll_mark, if_pos rfl]

theorem State.leaveZones_hush (s : State) (v : Voice) : (s.leaveZones v).rend.hush.get (voiceSource v) = false :=
  State.liftHush_hush _ _

/-- R92: a voice in RETIRING does not hear that its claims go. -/
theorem State.leaveZones_voice {s : State} {v : Voice} (retiring : (s.voice v).state = .retiring) : (s.leaveZones v).voice v = s.voice v :=
  (s.leaveZones_work v).voice_still (by rw [retiring]; decide) (by rw [retiring]; decide)

theorem State.goIdle_voice {s : State} {v : Voice} (retiring : (s.voice v).state = .retiring) :
    (s.goIdle v).voice v = (s.voice v).silent := by
  rw [State.goIdle_eq, State.setVoice_voice, State.leaveZones_voice retiring]

theorem State.nextEntry_cons {s : State} {v : Voice} {e : Entry} {es : List Entry} (queue : (s.voice v).queue = e :: es) :
    s.nextEntry v = s.becomeCurrent v e := by
  rw [State.nextEntry, queue]

theorem State.nextEntry_nil {s : State} {v : Voice} (queue : (s.voice v).queue = []) : s.nextEntry v = s.goIdle v := by
  rw [State.nextEntry, queue]

/-- R92, R96: what the next entry, or its absence, makes of a voice in RETIRING. -/
structure MovesOn (s t : State) (v : Voice) : Prop where
  queue : (t.voice v).queue = (s.voice v).queue
  state : (t.voice v).state = if (s.voice v).queue = [] then .idle else .starting
  fade : (t.voice v).fade = none
  flushing : (t.voice v).flushing = false
  hush : t.rend.hush.get (voiceSource v) = false
  completions : SameCompletions s t

theorem State.nextEntry_moves {s : State} {v : Voice} (retiring : (s.voice v).state = .retiring) : MovesOn s (s.nextEntry v) v := by
  cases queue : (s.voice v).queue with
  | nil =>
    have voice := State.goIdle_voice retiring
    rw [State.nextEntry_nil queue]
    refine ⟨?_, ?_, ?_, ?_, s.leaveZones_hush v, ?_⟩
    · rw [voice]; rfl
    · rw [voice, if_pos queue]; rfl
    · rw [voice]; rfl
    · rw [voice]; rfl
    · exact (s.leaveZones_work v).completions.trans (State.setVoice_completions _ v _)
  | cons e es =>
    have voice := s.becomeCurrent_voice v e
    rw [State.nextEntry_cons queue]
    refine ⟨?_, ?_, ?_, ?_, s.becomeCurrent_hush v e, s.becomeCurrent_completions v e⟩
    · rw [voice]; rfl
    · rw [voice, if_neg (by rw [queue]; exact nofun)]; rfl
    · rw [voice]; rfl
    · rw [voice]; rfl

/-! ## The head of the queue leaves (R92) -/

theorem State.freeClip_voc (s : State) (n : Nat) : (s.freeClip n).voc = s.voc := by
  rw [State.freeClip_eq, State.grantAttempt_voc, s.releasing_rest n]

/-- R92: the voice without its head, the head's clip unused. -/
def State.headless (s : State) (v : Voice) (e : Entry) (es : List Entry) : State :=
  (s.setVoice v { s.voice v with queue := es, fade := none }).setUse e.clip .unused

theorem State.headless_voice (s : State) (v : Voice) (e : Entry) (es : List Entry) :
    (s.headless v e es).voice v = { s.voice v with queue := es, fade := none } :=
  s.setVoice_voice v _

/-- R92: the head leaves, its clip is freed where no completion is owed, and the next entry follows. -/
theorem State.retireHead_eq {s : State} {v : Voice} {e : Entry} {es : List Entry} (queue : (s.voice v).queue = e :: es) :
    s.retireHead v = (if e.outcome == some .played && s.autoOf e.clip then (s.headless v e es).freeClip e.clip
      else s.headless v e es).nextEntry v := by
  rw [State.retireHead]
  dsimp only
  rw [queue]
  rfl

theorem State.retireHead_moves {s : State} {v : Voice} {e : Entry} {es : List Entry} (queue : (s.voice v).queue = e :: es)
    (retiring : (s.voice v).state = .retiring) : ((s.retireHead v).voice v).queue = es ∧
    ((s.retireHead v).voice v).state = (if es = [] then .idle else .starting) ∧ SameCompletions s (s.retireHead v) := by
  rw [State.retireHead_eq queue]
  let t := if e.outcome == some .played && s.autoOf e.clip then (s.headless v e es).freeClip e.clip else s.headless v e es
  have voc : t.voc = (s.headless v e es).voc := by
    change (if _ then _ else _ : State).voc = _
    split
    · exact State.freeClip_voc _ _
    · rfl
  have voice : t.voice v = { s.voice v with queue := es, fade := none } := by
    rw [State.voice, voc]
    exact s.headless_voice v e es
  obtain ⟨queue', state, -, -, -, completions⟩ := State.nextEntry_moves (s := t) (v := v) (by rw [voice, retiring])
  rw [voice] at queue' state
  have headless : SameCompletions s (s.headless v e es) := ⟨rfl, rfl, fun _ => rfl⟩
  exact ⟨queue', state, headless.trans ((SameCompletions.of_voc voc).trans completions)⟩

/-! ## Completions (R93) -/

theorem onControl_iff (v : Voice) : onControl v = true ↔ v ≠ .chime := by
  cases v <;> simp [onControl]

theorem State.append_voice (s : State) (b : Bool) (c : Completion) (v : Voice) : (s.append b c).voice v = s.voice v := by
  cases b with
  | true => exact s.append_control_voice c v
  | false =>
    rw [State.append, if_neg Bool.false_ne_true, State.buildChimeDone]
    split <;> rfl

theorem State.append_control (s : State) (c : Completion) :
    (s.append true c).voc.control = s.voc.control ++ [c] ∧ (s.append true c).port.flags.getLsbD 1 = true :=
  ⟨rfl, Port.raise_sets s.port .completion (by decide)⟩

theorem State.append_vehicle (s : State) (c : Completion) : (s.append false c).voc.vehicle = s.voc.vehicle ++ [c] := by
  rw [State.append, if_neg Bool.false_ne_true, State.buildChimeDone]
  split <;> rfl

theorem State.setWaiters_rest (s : State) (b : Bool) (l : List Waiter) :
    (s.setWaiters b l).waiters b = l ∧ (s.setWaiters b l).rend = s.rend := by
  cases b <;> exact ⟨rfl, rfl⟩

/-! ## Retirement (R92) -/

section
variable {s : State} {v : Voice} {e : Entry} {es : List Entry} (queue : (s.voice v).queue = e :: es)
include queue

/-- R92: the entry owes a completion, and its queue has room. -/
theorem State.retire_room (owes : s.owes e = true) (first : s.waiters (onControl v) = []) (room : 0 < s.queueRoom (onControl v)) :
    s.retire v = (s.append (onControl v) ⟨e.clip, some v, e.outcome.getD .flushed⟩).retireHead v := by
  have room' : 0 < s.room (onControl v) := by simpa [State.room, first] using room
  simp only [State.retire, queue, owes, room', if_true]

theorem State.retire_full (owes : s.owes e = true) (full : s.waiters (onControl v) ≠ [] ∨ s.queueRoom (onControl v) = 0) :
    s.retire v = s.stall v := by
  have room : ¬ 0 < s.room (onControl v) := by
    rcases full with h | h
    · simp [State.room, h]
    · simp [State.room, h]
  simp only [State.retire, queue, owes, room, if_true, if_false]

theorem State.retire_unowed (owes : s.owes e = false) : s.retire v = s.retireHead v := by
  simp only [State.retire, queue, owes, Bool.false_eq_true, if_false]

variable (retiring : (s.voice v).state = .retiring)
include retiring

/-- R92, R93: with room the completion is appended, and the next entry follows. -/
theorem State.retire_appends {o : CompStatus} (outcome : e.outcome = some o) (owes : s.owes e = true)
    (first : s.waiters (onControl v) = []) (room : 0 < s.queueRoom (onControl v)) :
    (v = .chime → (s.retire v).voc.vehicle = s.voc.vehicle ++ [⟨e.clip, some v, o⟩]) ∧
    (v ≠ .chime → (s.retire v).voc.control = s.voc.control ++ [⟨e.clip, some v, o⟩] ∧ (s.retire v).port.flags.getLsbD 1 = true) ∧
    ((s.retire v).voice v).queue = es ∧ ((s.retire v).voice v).state = if es = [] then .idle else .starting := by
  rw [State.retire_room queue owes first room, outcome]
  let t := s.append (onControl v) ⟨e.clip, some v, o⟩
  have voice : t.voice v = s.voice v := s.append_voice _ _ v
  obtain ⟨queue', state, completions⟩ := State.retireHead_moves (s := t) (by rw [voice, queue]) (by rw [voice, retiring])
  refine ⟨fun chime => completions.vehicle.trans ?_, fun other => ?_, queue', state⟩
  · subst chime
    exact s.append_vehicle _
  · have control : onControl v = true := (onControl_iff v).2 other
    have appended : t = s.append true ⟨e.clip, some v, o⟩ := by rw [← control]
    obtain ⟨joined, flag⟩ := s.append_control ⟨e.clip, some v, o⟩
    exact ⟨completions.control.trans (appended ▸ joined), (State.retireHead_tells t v).flags 1 (appended ▸ flag)⟩

/-- R92, R93: without room the voice stalls, its completion owed. -/
theorem State.retire_stalls (owes : s.owes e = true) (full : s.waiters (onControl v) ≠ [] ∨ s.queueRoom (onControl v) = 0) :
    (s.retire v).waiters (onControl v) = s.waiters (onControl v) ++ [.voice v] ∧ ((s.retire v).voice v).queue = e :: es ∧
    ((s.retire v).voice v).state = .retiring ∧ ((s.retire v).voice v).fade = none ∧
    (s.retire v).rend.hush.get (voiceSource v) = false ∧ ∀ z, (s.retire v).claim z (voiceSource v) = none := by
  let t := (s.leaveZones v).setVoice v { s.voice v with state := .retiring, fade := none }
  have stalled : s.retire v = t.setWaiters (onControl v) ((s.leaveZones v).waiters (onControl v) ++ [.voice v]) := by
    rw [State.retire_full queue owes full, State.stall_eq, State.leaveZones_voice retiring]
  have voice : t.voice v = { s.voice v with state := .retiring, fade := none } := State.setVoice_voice _ v _
  obtain ⟨waiters, rend⟩ := t.setWaiters_rest (onControl v) ((s.leaveZones v).waiters (onControl v) ++ [.voice v])
  rw [stalled, State.setWaiters_voice, voice]
  refine ⟨?_, queue, rfl, rfl, ?_, fun z => ?_⟩
  · rw [waiters, (s.leaveZones_work v).completions.waiters]
  · rw [rend]
    exact s.leaveZones_hush v
  · rw [State.claim_eq_none, State.mark_of_arb (State.setWaiters_arb ..)]
    exact s.leaveZones_mark v z

end

end Sys2Proof.Machine
end

section
/-! SUPPORT. What becomes of a clip that has been freed while the claims of the next entry are at work (R76, R143). -/

namespace Sys2Proof.Machine

/-- R76: what a capture's open gives. -/
theorem State.captureOpen_some {s t : State} {c : Nat} (h : s.captureOpen = some (c, t)) : s.pool.lowestFree = some c ∧
    t = (s.mapPool (·.grant c 1 24000 .capture .capturing true)).deliverFree s.pool.freeCount := by
  unfold State.captureOpen at h
  split at h
  · cases h
  · split at h
    · cases h
    next lowest =>
      split at h
      · cases h
      · obtain ⟨rfl, rfl⟩ := Prod.mk.inj (Option.some.inj h)
        exact ⟨lowest, rfl⟩

/-- R76: the clip is FREE, or the capture has taken it. -/
def State.freeOrCaptured (s : State) (n : Nat) : Prop :=
  (s.pool.clip n).state = .free ∨
  ((s.pool.clip n).state = .capturing ∧ (s.pool.clip n).owner = some .capture ∧ ∃ p, s.traf.capture = .recording p n)

/-- No announcement may be captured, and the clip is FREE. -/
def State.freeUnsought (s : State) (n : Nat) : Prop :=
  ((s.ann .p1).eligible = false ∧ (s.ann .p2).eligible = false) ∧ (s.pool.clip n).state = .free

theorem State.ann_unsought {s : State} (h : (s.ann .p1).eligible = false ∧ (s.ann .p2).eligible = false) (p : Path) :
    (s.ann p).eligible = false := by
  cases p
  · exact h.1
  · exact h.2

/-- R143: an open takes the lowest FREE clip, which the record then names. -/
theorem State.beginCapture_free {s : State} {n : Nat} (p : Path) (free : (s.pool.clip n).state = .free) :
    (s.beginCapture p).freeOrCaptured n := by
  unfold State.beginCapture
  split
  next c t opened =>
    obtain ⟨lowest, rfl⟩ := State.captureOpen_some opened
    obtain ⟨⟨one, inside⟩, -⟩ := s.pool.lowestFree_spec c lowest
    by_cases taken : c = n
    · subst taken
      have clip : ((s.mapPool (·.grant c 1 24000 .capture .capturing true)).deliverFree s.pool.freeCount).pool.clip c =
          ⟨.capturing, some .capture, some 24000, s.pool.freePages.take 1, 0, 0, true, .unused⟩ := by
        rw [State.deliverFree_pool, State.mapPool_pool, Pool.grant_eq one]
        simp [Pool.clip, one, inside]
      exact .inr ⟨congrArg Clip.state clip, congrArg Clip.owner clip, p, rfl⟩
    · exact .inl ((congrArg Clip.state (State.captured_clip one taken)).trans free)
  next => exact .inl free

theorem State.noteHeld_pool (s : State) (p : Path) : (s.noteHeld p).pool = s.pool := by
  unfold State.noteHeld
  dsimp only
  split <;> rfl

/-- R144: the held masks change, and neither the capture nor an eligible mark does. -/
theorem State.noteHeld_traf (s : State) (p : Path) : (s.noteHeld p).traf.capture = s.traf.capture ∧
    ∀ x, ((s.noteHeld p).ann x).eligible = (s.ann x).eligible := by
  unfold State.noteHeld
  dsimp only
  split
  · exact ⟨rfl, fun _ => rfl⟩
  · exact ⟨rfl, fun x => by cases p <;> cases x <;> rfl⟩

theorem ClaimChange.freeOrCaptured {s t : State} (h : ClaimChange s t) {n : Nat} (hs : s.freeOrCaptured n) : t.freeOrCaptured n := by
  cases h with
  | setZone | mapRend | raise => exact hs
  | voiceReport v =>
    rw [State.voiceReport_eq]
    exact hs
  | noteHeld p =>
    rw [State.freeOrCaptured, State.noteHeld_pool, (s.noteHeld_traf p).1]
    exact hs
  | captureFor p =>
    unfold State.captureFor
    split
    next begins =>
      rcases hs with free | ⟨-, -, x, recording⟩
      · exact State.beginCapture_free p free
      · cases begins.1.symm.trans recording
    next => exact hs

theorem ClaimChange.freeUnsought {s t : State} (h : ClaimChange s t) {n : Nat} (hs : s.freeUnsought n) : t.freeUnsought n := by
  cases h with
  | setZone | mapRend | raise => exact hs
  | voiceReport v =>
    rw [State.voiceReport_eq]
    exact hs
  | noteHeld p =>
    obtain ⟨-, eligible⟩ := s.noteHeld_traf p
    rw [State.freeUnsought, State.noteHeld_pool, eligible, eligible]
    exact hs
  | captureFor p =>
    have still : s.captureFor p = s := if_neg fun begins => by
      simp [State.wantsCapture, State.ann_unsought hs.1 p] at begins
    rw [still]
    exact hs

/-- R84: a mark is all that changes of the clips. -/
theorem State.setUse_record (s : State) (m : Nat) (u : UseMarker) (n : Nat) :
    ∃ x, (s.setUse m u).pool.clip n = { s.pool.clip n with use := x } := by
  by_cases used : (s.pool.clip m).state = .free
  · have still : (s.setUse m u).pool = s.pool := if_pos used
    exact ⟨_, congrArg (fun p => p.clip n) still⟩
  · by_cases same : m = n
    · subst same
      exact ⟨u, State.setUse_clip used u⟩
    · have one : m ≠ 0 := by
        rintro rfl
        exact used rfl
      have written : (s.setUse m u).pool = s.pool.setClip m { s.pool.clip m with use := u } := if_neg used
      rw [written, Pool.clip_setClip_ne _ one same]
      exact ⟨_, rfl⟩

/-- What the marks, the voices' records and the claims' work keep, the next entry keeps. -/
theorem State.nextEntry_keep {P : State → Prop} (work : ∀ s t, ClaimChange s t → P s → P t)
    (voice : ∀ s v r, P s → P (s.setVoice v r)) (use : ∀ s m u, P s → P (s.setUse m u)) (s : State) (v : Voice) (h : P s) :
    P (s.nextEntry v) := by
  have chain {a b : State} (hab : ClaimWork a b) (ha : P a) : P b := by
    induction hab with
    | refl => exact ha
    | tail _ hc ih => exact work _ _ hc ih
  unfold State.nextEntry
  split
  next e es _ => exact chain (s.becomeCurrent_work v e) (voice _ _ _ (use _ _ _ h))
  next =>
    rw [State.goIdle_eq]
    exact voice _ _ _ (chain (s.leaveZones_work v) h)

theorem State.nextEntry_freed {s : State} {n : Nat} (v : Voice) (h : (s.pool.clip n).state = .free) :
    (s.nextEntry v).freeOrCaptured n ∧
    ((s.ann .p1).eligible = false → (s.ann .p2).eligible = false → ((s.nextEntry v).pool.clip n).state = .free) := by
  refine ⟨?_, fun p1 p2 => ?_⟩
  · refine State.nextEntry_keep (P := fun s => s.freeOrCaptured n) (fun _ _ hc => hc.freeOrCaptured) (fun _ _ _ h => h)
      (fun t m u ht => ?_) s v (.inl h)
    obtain ⟨x, clip⟩ := t.setUse_record m u n
    rw [State.freeOrCaptured, clip]
    exact ht
  · refine (State.nextEntry_keep (P := fun s => s.freeUnsought n) (fun _ _ hc => hc.freeUnsought) (fun _ _ _ h => h)
      (fun t m u ht => ?_) s v ⟨⟨p1, p2⟩, h⟩).2
    obtain ⟨x, clip⟩ := t.setUse_record m u n
    rw [State.freeUnsought, clip]
    exact ht

/-- R76, R92: the clip of a PLAYED entry with auto-release, with no request waiting. -/
theorem State.retireHead_freed {s : State} {v : Voice} {e : Entry} {es : List Entry} (queue : (s.voice v).queue = e :: es)
    (freed : (e.outcome == some .played && s.autoOf e.clip) = true) (inside : e.clip ≠ 0 ∧ e.clip - 1 < s.pool.clips.length)
    (vehicle : ∀ a b d, s.pool.vehicleSlot ≠ .waiting a b d) (control : ∀ a b d, s.pool.controlSlot ≠ .waiting a b d) :
    (s.retireHead v).freeOrCaptured e.clip ∧
    ((s.ann .p1).eligible = false → (s.ann .p2).eligible = false → ((s.retireHead v).pool.clip e.clip).state = .free) := by
  let t := s.headless v e es
  have pool : t.pool = s.pool ∨ t.pool = s.pool.setClip e.clip { s.pool.clip e.clip with use := .unused } := by
    change (if _ then _ else _ : Pool) = _ ∨ (if _ then _ else _ : Pool) = _
    split
    · exact .inl rfl
    · exact .inr rfl
  have length : t.pool.clips.length = s.pool.clips.length := by
    rcases pool with h | h <;> rw [h]
    exact Pool.setClip_length _ _ _
  have vehicle' (a b d) : t.pool.vehicleSlot ≠ .waiting a b d := by
    rcases pool with h | h <;> rw [h]
    · exact vehicle a b d
    · rw [Pool.setClip_vehicleSlot]
      exact vehicle a b d
  have control' (a b d) : t.pool.controlSlot ≠ .waiting a b d := by
    rcases pool with h | h <;> rw [h]
    · exact control a b d
    · rw [Pool.setClip_controlSlot]
      exact control a b d
  have free : t.freeClip e.clip = t.releasing e.clip := State.freeClip_unrequested vehicle' control'
  have clip : ((t.releasing e.clip).pool.clip e.clip).state = .free := by
    have empty : (t.pool.release e.clip).clip e.clip = Clip.empty := by
      rw [Pool.release_eq _ inside.1]
      simp [Pool.clip, inside.1, length, inside.2]
    rw [State.releasing_pool, empty]
    rfl
  have ann (p : Path) : (t.releasing e.clip).ann p = s.ann p := by
    rw [t.releasing_rest e.clip]
    rfl
  have next := State.nextEntry_freed v clip
  rw [ann, ann] at next
  rw [State.retireHead_eq queue, if_pos freed, free]
  exact next

end Sys2Proof.Machine
end

section
/-! SUPPORT. MAX_WAIT_EXPIRY, GAP_EXPIRY and FADE_COMPLETE (R83, R89 to R93, R96). -/

namespace Sys2Proof.Machine

theorem exec_voiceTimer {s : State} (run : s.port.op = .run) (v : Voice) : exec (.maxWaitExpiry v) s = .next (s.expire v) ∧
    exec (.gapExpiry v) s = .next (s.endGap v) ∧ exec (.fadeComplete v) s = .next (s.endFade v) := by
  have running : s.running = true := s.running_iff.2 run
  exact ⟨congrArg Host.Outcome.next (if_pos running), congrArg Host.Outcome.next (if_pos running), congrArg Host.Outcome.next (if_pos running)⟩

/-- A timer that has nothing to do. -/
theorem next_of_still {c : Prop} [Decidable c] {s t : State} (h : t = s) :
    (Host.Outcome.next (if c then t else s) : Out) = .next s := by
  rw [h, ite_self]

/-- R93: an entry owes a completion but where it was PLAYED from a clip with auto-release. -/
theorem State.owes_iff {s : State} {e : Entry} {o : CompStatus} (outcome : e.outcome = some o) :
    s.owes e = true ↔ o ≠ .played ∨ (s.pool.clip e.clip).auto = false := by
  simp [State.owes, State.autoOf, outcome, ← Bool.not_eq_true]

/-! ## The maximum wait (R89) -/

/-- R89: an entry before its first sample expires. -/
theorem State.expire_due {s : State} {v : Voice} {e : Entry} {es : List Entry} (due : (s.voice v).maxWait = some 0)
    (queue : (s.voice v).queue = e :: es)
    (waits : (s.voice v).state = .starting ∨ (s.voice v).state = .waitingFill ∨ (s.voice v).state = .waitingZone) :
    s.expire v = (s.setVoice v { s.voice v with
      queue := { e with outcome := some .expired } :: es, state := .retiring, gap := none, maxWait := none }).retire v := by
  rw [← State.conclude_eq queue .expired]
  rcases waits with h | h | h
  · simp only [State.expire, due, h, if_true]
  · simp only [State.expire, due, h, if_true]
  · simp only [State.expire, due, h, if_true]

theorem State.expire_still {s : State} {v : Voice} (h : (s.voice v).maxWait ≠ some 0 ∨
    ((s.voice v).state ≠ .starting ∧ (s.voice v).state ≠ .waitingFill ∧ (s.voice v).state ≠ .waitingZone)) : s.expire v = s := by
  unfold State.expire
  split
  next due =>
    obtain ⟨starting, fill, zone⟩ := h.resolve_left (not_not.2 due)
    split
    next h => exact absurd h starting
    next h => exact absurd h fill
    next h => exact absurd h zone
    next => rfl
  next => rfl

/-! ## The gap (R90, R91) -/

/-- R90: the next pass begins. -/
theorem State.endGap_due {s : State} {v : Voice} (state : (s.voice v).state = .gap) (due : (s.voice v).gap = some 0) :
    s.endGap v = (s.liftHush (voiceSource v)).setVoice v { s.voice v with
      state := if s.voiceHeard v then .playing else .waitingZone, gap := none, fade := none, position := 0 } :=
  if_pos ⟨state, due⟩

theorem State.endGap_still {s : State} {v : Voice} (h : (s.voice v).gap ≠ some 0 ∨ (s.voice v).state ≠ .gap) : s.endGap v = s :=
  if_neg fun due => h.elim (fun h => h due.2) fun h => h due.1

/-! ## The fade (R83, R92, R96) -/

section
variable {s : State} {v : Voice} (due : (s.voice v).fade = some 0)
include due

theorem State.endFade_cleared (state : (s.voice v).state ≠ .retiring) : s.endFade v = s.setVoice v { s.voice v with fade := none } := by
  rw [State.endFade]
  dsimp only
  rw [if_pos due]
  split
  next h _ => exact absurd h state
  next h _ => exact absurd h state
  next => rfl

theorem State.endFade_flushed (state : (s.voice v).state = .retiring) (flushing : (s.voice v).flushing = true) :
    s.endFade v = (s.setVoice v { s.voice v with fade := none }).nextEntry v := by
  simp only [State.endFade, due, state, flushing, if_true]

theorem State.endFade_retires (state : (s.voice v).state = .retiring) (flushing : (s.voice v).flushing = false) :
    s.endFade v = (s.setVoice v { s.voice v with fade := none }).retire v := by
  simp only [State.endFade, due, state, flushing, if_true]

end

theorem State.endFade_still {s : State} {v : Voice} (h : (s.voice v).fade ≠ some 0) : s.endFade v = s := if_neg h

/-- R96: the voice of a flush takes the entry placed meanwhile, or goes IDLE. -/
theorem State.nextEntry_placed {s : State} {v : Voice} :
    ((s.voice v).queue = [] → ∀ z, (s.nextEntry v).claim z (voiceSource v) = none) ∧
    ∀ e es, (s.voice v).queue = e :: es → (s.nextEntry v).voice v = (s.voice v).current e ∧
      ∀ z, ((s.nextEntry v).claim z (voiceSource v)).isSome = e.mask.get z := by
  refine ⟨fun queue z => ?_, fun e es queue => ⟨?_, fun z => ?_⟩⟩
  · rw [State.nextEntry_nil queue, State.claim_eq_none]
    exact s.leaveZones_mark v z
  · rw [State.nextEntry_cons queue, State.becomeCurrent_voice]
  · rw [State.nextEntry_cons queue, State.claim_isSome, State.becomeCurrent_mark]

/-! ## The three timers together -/

theorem maxWaitExpires {s : State} {v : Voice} {e : Entry} {es : List Entry} (due : (s.voice v).maxWait = some 0)
    (queue : (s.voice v).queue = e :: es)
    (waits : (s.voice v).state = .starting ∨ (s.voice v).state = .waitingFill ∨ (s.voice v).state = .waitingZone) :
    let t := s.expire v
    (s.waiters (onControl v) = [] → 0 < s.queueRoom (onControl v) →
      (v = .chime → t.voc.vehicle = s.voc.vehicle ++ [⟨e.clip, some v, .expired⟩]) ∧
      (v ≠ .chime → t.voc.control = s.voc.control ++ [⟨e.clip, some v, .expired⟩] ∧ t.port.flags.getLsbD 1 = true) ∧
      (t.voice v).queue = es ∧ (t.voice v).state = (if es = [] then .idle else .starting)) ∧
    (s.waiters (onControl v) ≠ [] ∨ s.queueRoom (onControl v) = 0 →
      t.waiters (onControl v) = s.waiters (onControl v) ++ [.voice v] ∧
      (t.voice v).queue = { e with outcome := some .expired } :: es ∧ (t.voice v).state = .retiring ∧
      ∀ z, t.claim z (voiceSource v) = none) := by
  intro t
  let x : VoiceRec := { s.voice v with queue := { e with outcome := some .expired } :: es, state := .retiring, gap := none, maxWait := none }
  let u := s.setVoice v x
  have expired : t = u.retire v := State.expire_due due queue waits
  have voice : u.voice v = x := s.setVoice_voice v x
  have queue' : (u.voice v).queue = { e with outcome := some .expired } :: es := by rw [voice]
  have retiring : (u.voice v).state = .retiring := by rw [voice]
  have owes : u.owes { e with outcome := some .expired } = true := (State.owes_iff rfl).2 (.inl nofun)
  rw [expired]
  refine ⟨fun first room => State.retire_appends queue' retiring rfl owes first room, fun full => ?_⟩
  obtain ⟨waiters, head, state, -, -, claims⟩ := State.retire_stalls queue' retiring owes full
  exact ⟨waiters, head, state, claims⟩

theorem fadeRetires {s : State} {v : Voice} {e : Entry} {es : List Entry} {o : CompStatus} (due : (s.voice v).fade = some 0)
    (state : (s.voice v).state = .retiring) (flushing : (s.voice v).flushing = false) (queue : (s.voice v).queue = e :: es)
    (outcome : e.outcome = some o) :
    let t := s.endFade v
    ((o ≠ .played ∨ (s.pool.clip e.clip).auto = false) →
      (s.waiters (onControl v) = [] → 0 < s.queueRoom (onControl v) →
        (v = .chime → t.voc.vehicle = s.voc.vehicle ++ [⟨e.clip, some v, o⟩]) ∧
        (v ≠ .chime → t.voc.control = s.voc.control ++ [⟨e.clip, some v, o⟩] ∧ t.port.flags.getLsbD 1 = true) ∧
        (t.voice v).queue = es ∧ (t.voice v).state = (if es = [] then .idle else .starting)) ∧
      (s.waiters (onControl v) ≠ [] ∨ s.queueRoom (onControl v) = 0 →
        t.waiters (onControl v) = s.waiters (onControl v) ++ [.voice v] ∧ (t.voice v).queue = e :: es ∧
        (t.voice v).state = .retiring ∧ (t.voice v).fade = none ∧ t.rend.hush.get (voiceSource v) = false ∧
        ∀ z, t.claim z (voiceSource v) = none)) ∧
    (o = .played → (s.pool.clip e.clip).auto = true →
      t.voc.control = s.voc.control ∧ t.voc.vehicle = s.voc.vehicle ∧
      (t.voice v).queue = es ∧ (t.voice v).state = (if es = [] then .idle else .starting) ∧
      (s.pool.clips.length = 63 → 1 ≤ e.clip → e.clip ≤ 63 → (∀ a b d, s.pool.vehicleSlot ≠ .waiting a b d) →
        (∀ a b d, s.pool.controlSlot ≠ .waiting a b d) → t.freeOrCaptured e.clip ∧
        ((s.ann .p1).eligible = false → (s.ann .p2).eligible = false → (t.pool.clip e.clip).state = .free))) := by
  intro t
  let u := s.setVoice v { s.voice v with fade := none }
  have retired : t = u.retire v := State.endFade_retires due state flushing
  have voice : u.voice v = { s.voice v with fade := none } := s.setVoice_voice v _
  have queue' : (u.voice v).queue = e :: es := by rw [voice, queue]
  have retiring : (u.voice v).state = .retiring := by rw [voice, state]
  rw [retired]
  refine ⟨fun owes => ?_, fun played auto => ?_⟩
  · have owes' : u.owes e = true := (State.owes_iff outcome).2 owes
    exact ⟨State.retire_appends queue' retiring outcome owes', State.retire_stalls queue' retiring owes'⟩
  · subst played
    have freed : (e.outcome == some .played && u.autoOf e.clip) = true := by
      have auto' : u.autoOf e.clip = true := auto
      rw [outcome, auto']
      rfl
    have unowed : u.owes e = false := by rw [State.owes, freed]; rfl
    obtain ⟨rest, next, completions⟩ := State.retireHead_moves queue' retiring
    rw [State.retire_unowed queue' unowed]
    exact ⟨completions.control, completions.vehicle, rest, next, fun length one most vehicle control =>
      State.retireHead_freed queue' freed (Pool.clip_inside length one most) vehicle control⟩

/-- Settles O37, timer by timer. -/
theorem voiceTimersExpire : Obligations.VoiceTimersExpire := by
  refine ⟨fun s v e es run due queue waits => ?_, fun s v h => next_of_still (State.expire_still h),
    fun s v run state due => ?_, fun s v h => next_of_still (State.endGap_still h), fun s v run due state => ?_,
    fun s v run due state flushing => ?_, fun s v e es o run due state flushing queue outcome => ?_,
    fun s v h => next_of_still (State.endFade_still h)⟩
  · exact ⟨_, (exec_voiceTimer run v).1, s.expire_frame v, maxWaitExpires due queue waits⟩
  · refine ⟨_, (exec_voiceTimer run v).2.1, s.endGap_frame v, ?_⟩
    obtain ⟨voc, pool, port⟩ := s.liftHush_rest (voiceSource v)
    rw [State.endGap_due state due]
    refine ⟨?_, s.liftHush_hush _, pool, s.liftHush_arb _, port⟩
    simp only [State.setVoice, State.mapVoc_voc, voc]
  · rw [(exec_voiceTimer run v).2.2, State.endFade_cleared due state]
    rfl
  · refine ⟨_, (exec_voiceTimer run v).2.2, s.endFade_frame v, ?_⟩
    have voice := s.setVoice_voice v { s.voice v with fade := none }
    obtain ⟨queue, idle, fade, flushed, hush, completions⟩ :=
      State.nextEntry_moves (s := s.setVoice v { s.voice v with fade := none }) (v := v) (by rw [voice, state])
    obtain ⟨gone, placed⟩ := State.nextEntry_placed (s := s.setVoice v { s.voice v with fade := none }) (v := v)
    rw [voice] at queue idle gone placed
    rw [State.endFade_flushed due state flushing]
    refine ⟨queue, fade, flushed, hush, completions.control, completions.vehicle, fun empty => ?_, fun e es head => ?_⟩
    · exact ⟨idle.trans (if_pos empty), gone empty⟩
    · obtain ⟨current, claims⟩ := placed e es head
      rw [current]
      exact ⟨rfl, rfl, rfl, rfl, rfl, claims⟩
  · exact ⟨_, (exec_voiceTimer run v).2.2, s.endFade_frame v, fadeRetires due state flushing queue outcome⟩

end Sys2Proof.Machine
end

section
/-! SUPPORT. VOICE.ENQUEUE (R84, R86), and how the requests to a voice name it. -/

namespace Sys2Proof.Machine

/-! ## The voice that a request names (R84, R96, R97) -/

theorem linkVoice_named {n : Nat} {v : Voice} (named : voiceOf n = some v) (other : v ≠ .chime) : linkVoice n = .ok v := by
  rw [linkVoice, named]
  cases v with
  | chime => exact absurd rfl other
  | prompt | traffic | ring => rfl

theorem linkVoice_chime : linkVoice 0 = .error .privileged := rfl

theorem linkVoice_outside {n : Nat} (h : 3 < n) : linkVoice n = .error .range := by
  rw [linkVoice, voiceOf_isNone h]

/-- A request that names a voice: what it does once the voice may be named. -/
def voiceBody (n : Nat) (body : Voice → State → Reply × State) (s : State) : Reply × State :=
  match linkVoice n with
  | .error c => refuse c s
  | .ok v => body v s

theorem voiceBody_named {n : Nat} {v : Voice} (named : voiceOf n = some v) (other : v ≠ .chime) (body : Voice → State → Reply × State)
    (s : State) : voiceBody n body s = body v s := by
  rw [voiceBody, linkVoice_named named other]

/-- R84, R96, R97: CHIME is the vehicle's alone, and there are four voices. -/
theorem answers_unnamedVoice {c : Instr} {s : State} {verb n : Nat} {code q : Byte} {body : Voice → State → Reply × State} (hs : Unlocked s)
    (he : exec c s = serve 4 verb q .lockable s (voiceBody n body)) (hc : codeByte 4 verb = code) :
    (n = 0 → Answers c s s code q (.refused .privileged [])) ∧ (3 < n → Answers c s s code q (.refused .range [])) := by
  refine ⟨fun chime => ?_, fun outside => ?_⟩
  · subst chime
    exact answers_lockable 4 verb hs he hc (by rw [voiceBody, linkVoice_chime]; rfl)
  · exact answers_lockable 4 verb hs he hc (by rw [voiceBody, linkVoice_outside outside]; rfl)

/-! ## The checks of a placing and its entry (R84) -/

theorem maskOf_eq {m : Nat} (inside : m ≠ 0 ∧ m ≤ 15) :
    maskOf m = some ⟨m.testBit 0, m.testBit 1, m.testBit 2, m.testBit 3⟩ := if_neg (by omega)

theorem maskOf_eq_none_iff (m : Nat) : maskOf m = none ↔ m = 0 ∨ 15 < m := by
  unfold maskOf
  split
  next h => exact iff_of_true rfl (by omega)
  next h => exact iff_of_false nofun (by omega)

/-- R84 step 3: a number outside its range. -/
theorem placing_outside (p : Placing) :
    (!clipNumber p.clip || (maskOf p.mask).isNone || decide (5000 < p.gap) || decide (60 < p.maxWait)) = true ↔
      p.clip = 0 ∨ 63 < p.clip ∨ p.mask = 0 ∨ 15 < p.mask ∨ 5000 < p.gap ∨ 60 < p.maxWait := by
  simp only [clipNumber, Bool.or_eq_true, Bool.not_eq_true', decide_eq_false_iff_not, Option.isNone_iff_eq_none, maskOf_eq_none_iff,
    decide_eq_true_eq]
  omega

/-- R81: the owner that no voice of the control link accepts. -/
theorem not_accepts_iff {v : Voice} (other : v ≠ .chime) (o : Option Owner) : (!accepts v o) = true ↔ o = some .vehicle := by
  cases v with
  | chime => exact absurd rfl other
  | prompt | traffic | ring => simp [accepts]

/-- R84: checks 3 to 8, the first that applies. -/
theorem State.placeRefusal_eq (s : State) {v : Voice} (other : v ≠ .chime) (p : Placing) : s.placeRefusal v p =
    if p.clip = 0 ∨ 63 < p.clip ∨ p.mask = 0 ∨ 15 < p.mask ∨ 5000 < p.gap ∨ 60 < p.maxWait then some .range
    else if (s.pool.clip p.clip).state = .free then some .state
    else if (s.pool.clip p.clip).owner = some .vehicle then some .range
    else if (s.pool.clip p.clip).state = .capturing ∨ (s.pool.clip p.clip).use ≠ .unused then some .inUse
    else if (s.pool.clip p.clip).state = .filling ∧ (s.pool.clip p.clip).pages.length * 1024 < p.threshold then some .range
    else if 8 ≤ (s.voice v).queue.length then some .busy
    else none :=
  if_congr (placing_outside p) rfl (if_congr .rfl rfl (if_congr (not_accepts_iff other _) rfl rfl))

theorem State.placeRefusal_mask {s : State} {v : Voice} (other : v ≠ .chime) {p : Placing} (h : s.placeRefusal v p = none) :
    p.mask ≠ 0 ∧ p.mask ≤ 15 := by
  rw [State.placeRefusal_eq s other] at h
  split at h
  · cases h
  · omega

/-- R84: the entry as placed. -/
theorem Placing.entry_eq {p : Placing} (mask : p.mask ≠ 0 ∧ p.mask ≤ 15) : p.entry =
    ⟨p.clip, ⟨p.mask.testBit 0, p.mask.testBit 1, p.mask.testBit 2, p.mask.testBit 3⟩, min p.repeats 15, p.gap, p.threshold,
      max (-48) (min 0 p.trim), p.maxWait, none⟩ := by
  rw [Placing.entry, maskOf_eq mask, clampInt_eq_max_min (by decide)]
  rfl

theorem ZoneSet.get_testBits (m : Nat) (z : Zone) :
    PerZone.get (⟨m.testBit 0, m.testBit 1, m.testBit 2, m.testBit 3⟩ : ZoneSet) z = m.testBit z.num := by
  cases z <;> rfl

/-! ## The request -/

/-- VOICE.ENQUEUE for a voice that may be named. -/
def enqueueBody (p : Placing) (v : Voice) (s : State) : Reply × State :=
  match s.place v p with
  | .error c => refuse c s
  | .ok t => report (.enqueued ((s.voice v).queue.length + 1) p.entry (t.voice v).state (decide (15 < p.repeats))
      (decide (p.entry.trim ≠ p.trim))) t

theorem exec_voiceEnqueue (q : Byte) (n clip mask repeats gap threshold : Nat) (trim : Int) (maxWait : Nat) (s : State) :
    exec (.voiceEnqueue q n clip mask repeats gap threshold trim maxWait) s =
      serve 4 0 q .lockable s (voiceBody n (enqueueBody ⟨clip, mask, repeats, gap, threshold, trim, maxWait⟩)) := rfl

theorem enqueueBody_accepted {s : State} {v : Voice} {p : Placing} (h : s.placeRefusal v p = none) : enqueueBody p v s =
    report (.enqueued ((s.voice v).queue.length + 1) p.entry ((s.accept v p.entry).voice v).state (decide (15 < p.repeats))
      (decide (p.entry.trim ≠ p.trim))) (s.accept v p.entry) := by
  rw [enqueueBody, State.place, h]

theorem enqueueBody_refused {s : State} {v : Voice} {p : Placing} {c : RefCode} (h : s.placeRefusal v p = some c) :
    enqueueBody p v s = refuse c s := by
  rw [enqueueBody, State.place, h]

/-- R84: an entry placed behind others changes the pool and the voices alone. -/
theorem State.accept_waits {s : State} {v : Voice} (e : Entry) (busy : (s.voice v).state ≠ .idle) :
    s.accept v e = { s with pool := (s.accept v e).pool, voc := (s.accept v e).voc } := by
  have waits : s.accept v e = (s.setUse e.clip (.queued v)).setVoice v { s.voice v with queue := (s.voice v).queue ++ [e] } := if_neg busy
  rw [waits]
  rfl

/-- Settles O35: `State.accept` is the effect of an accepted placing, on the state in which the reply before has left. -/
theorem enqueuePlacesAnEntry : Obligations.EnqueuePlacesAnEntry := by
  refine ⟨fun s q n v clip mask repeats gap threshold trim maxWait hs named other placed => ?_,
    fun s q n v clip mask repeats gap threshold trim maxWait c hs named other refused => ?_,
    fun s v clip mask repeats gap threshold trim maxWait other =>
      s.placeRefusal_eq other ⟨clip, mask, repeats, gap, threshold, trim, maxWait⟩,
    fun s q n clip mask repeats gap threshold trim maxWait hs =>
      answers_unnamedVoice hs (exec_voiceEnqueue q n clip mask repeats gap threshold trim maxWait s) rfl⟩
  · let p : Placing := ⟨clip, mask, repeats, gap, threshold, trim, maxWait⟩
    have used : (s.taking.pool.clip p.entry.clip).state ≠ .free := State.placeRefusal_used placed
    have entry : p.entry = ⟨clip, ⟨mask.testBit 0, mask.testBit 1, mask.testBit 2, mask.testBit 3⟩, min repeats 15, gap, threshold,
        max (-48) (min 0 trim), maxWait, none⟩ := Placing.entry_eq (State.placeRefusal_mask other placed)
    have zones (z : Zone) : p.entry.mask.get z = mask.testBit z.num := by
      rw [entry]
      exact ZoneSet.get_testBits mask z
    have body := (voiceBody_named named other (enqueueBody p) s.taking).trans (enqueueBody_accepted placed)
    obtain ⟨answers, frame⟩ := answers_claimFrame 4 0 hs.1.2 hs.gate (exec_voiceEnqueue q n clip mask repeats gap threshold trim maxWait s)
      rfl body (s.taking.accept_frame v p.entry)
    have trimmed : p.entry.trim = max (-48) (min 0 trim) := by rw [entry]
    rw [trimmed] at answers
    refine ⟨s.untaken (s.taking.accept v p.entry), p.entry, answers, frame, entry, ?_, fun idle => ?_, fun busy => ?_⟩
    · by_cases idle : (s.taking.voice v).state = .idle
      · exact (State.accept_idle used idle).1
      · exact congrArg VoiceRec.queue (State.accept_busy used idle).2.1
    · obtain ⟨-, starting, playing, claims⟩ := State.accept_idle (s := s.taking) used idle
      exact ⟨starting, playing, fun z => (claims z).trans (zones z)⟩
    · obtain ⟨-, voice, queued⟩ := State.accept_busy (s := s.taking) used busy
      have rest := State.accept_waits (s := s.taking) p.entry busy
      have state := congrArg VoiceRec.state voice
      refine ⟨?_, state, queued⟩
      rw [State.untaken_of_port (by rw [rest]), rest]
      rfl
  · have body := (voiceBody_named named other _ s.taking).trans (enqueueBody_refused refused)
    exact answers_lockable 4 0 hs (exec_voiceEnqueue q n clip mask repeats gap threshold trim maxWait s) rfl body

end Sys2Proof.Machine
end

section
/-! SUPPORT. VOICE.COMPLETIONS and VOICE.SKIP (R94, R97), and the counts of the completions (R93, R96). -/

namespace Sys2Proof.Machine

/-! ## What a flush does with an entry (R96) -/

/-- R96: a flush frees the clip of the entry. -/
def State.frees (s : State) (e : Entry) : Bool := (s.pool.clip e.clip).auto && (e.outcome == none || e.outcome == some .played)

/-- R96: the completion that a flush owes for an entry. -/
def Entry.flushed (v : Voice) (e : Entry) : Completion := ⟨e.clip, some v, e.outcome.getD .flushed⟩

theorem State.flushOne_eq (s : State) (v : Voice) (e : Entry) :
    s.flushOne v e = if s.frees e then (none, true) else (some (e.flushed v), false) := by
  unfold State.flushOne State.owes State.autoOf State.frees Entry.flushed
  cases outcome : e.outcome with
  | none => simp
  | some o =>
    by_cases played : o = .played
    · subst played
      cases (s.pool.clip e.clip).auto <;> simp
    · simp [played]

theorem State.flushOne_isSome (s : State) (v : Voice) (e : Entry) : (s.flushOne v e).1.isSome = !s.frees e := by
  rw [State.flushOne_eq]
  cases s.frees e <;> rfl

/-- R96: the entries that owe a completion, by their outcomes. -/
theorem State.flushOwes_eq (s : State) (v : Voice) : s.flushOwes v = ((s.voice v).queue.filter (fun e => match e.outcome with
    | some o => !(decide (o = .played) && (s.pool.clip e.clip).auto)
    | none => !(s.pool.clip e.clip).auto)).length := by
  refine congrArg List.length (List.filter_congr fun e _ => ?_)
  rw [State.flushOne_isSome, State.frees]
  cases e.outcome with
  | none => simp
  | some o => simp [Bool.and_comm, beq_eq_decide]

/-- R93, R96: the room of the two completion queues. -/
theorem State.room_eq (s : State) : s.room true = (if s.voc.controlWaiters = [] then 16 - s.voc.control.length else 0) ∧
    s.room false = (if s.voc.vehicleWaiters = [] then 8 - s.voc.vehicle.length else 0) :=
  ⟨if_congr List.isEmpty_iff rfl rfl, if_congr List.isEmpty_iff rfl rfl⟩

/-! ## VOICE.COMPLETIONS (R94) -/

/-- The body of VOICE.COMPLETIONS. -/
def completionsBody (s : State) : Reply × State :=
  if s.voc.control.isEmpty then report (.completions [] 0) s
  else report (.completions (s.voc.control.take 8) (s.voc.control.drop 8).length) s.takeCompletions

theorem exec_voiceCompletions (q : Byte) (s : State) : exec (.voiceCompletions q) s = serve 4 1 q .runOnly s completionsBody := rfl

/-- R93, R94: with no waiter, the completions leave and nothing else changes. -/
theorem State.takeCompletions_eq {s : State} (first : s.voc.controlWaiters = []) :
    s.takeCompletions = s.mapVoc fun x => { x with control := x.control.drop 8 } := by
  have waiters : (s.mapVoc fun x => { x with control := x.control.drop 8 }).waiters true = [] := first
  rw [State.takeCompletions, State.serveWaiters, waiters]
  rfl

theorem voiceCompletions_takes {s : State} (q : Byte) (hs : Serves s) : ∃ u,
    Answers (.voiceCompletions q) s u 0x41 q (.done (.completions (s.voc.control.take 8) (s.voc.control.length - 8))) ∧
    ClaimFrame s u ∧ (s.voc.controlWaiters = [] → u = { s with voc := { s.voc with control := s.voc.control.drop 8 } }) := by
  by_cases empty : s.voc.control = []
  · have body : completionsBody s.taking = report (.completions [] 0) s.taking := if_pos (List.isEmpty_iff.2 empty)
    rw [empty]
    refine ⟨s, answers_runOnly 4 1 hs (exec_voiceCompletions q s) rfl body, by simp [ClaimFrame], fun _ => ?_⟩
    rw [List.drop_nil, ← empty]
  · have body : completionsBody s.taking =
        report (.completions (s.voc.control.take 8) (s.voc.control.drop 8).length) s.taking.takeCompletions :=
      if_neg fun h => empty (List.isEmpty_iff.1 h)
    obtain ⟨answers, frame⟩ := answers_claimFrame 4 1 hs.2 hs.gate (exec_voiceCompletions q s) rfl body s.taking.takeCompletions_frame
    rw [List.length_drop] at answers
    refine ⟨_, answers, frame, fun first => ?_⟩
    have taken := State.takeCompletions_eq (s := s.taking) first
    rw [State.untaken_of_port (by rw [taken]; rfl), taken]
    rfl

/-! ## VOICE.SKIP (R97) -/

/-- VOICE.SKIP for a voice that may be named. -/
def skipBody (v : Voice) (s : State) : Reply × State :=
  match (s.voice v).state, (s.voice v).queue with
  | .idle, _ => refuse .state s
  | .retiring, _ => refuse .state s
  | _, [] => refuse .state s
  | _, e :: _ => report (.skipped e.clip (s.voice v).queue.length) ((s.conclude v .flushed).startFade v)

theorem exec_voiceSkip (q : Byte) (n : Nat) (s : State) : exec (.voiceSkip q n) s = serve 4 3 q .lockable s (voiceBody n skipBody) := rfl

theorem skipBody_refused {s : State} {v : Voice} (h : (s.voice v).state = .idle ∨ (s.voice v).state = .retiring) :
    skipBody v s = refuse .state s := by
  rcases h with h | h
  · simp only [skipBody, h]
  · simp only [skipBody, h]

theorem skipBody_skips {s : State} {v : Voice} {e : Entry} {es : List Entry} (queue : (s.voice v).queue = e :: es)
    (idle : (s.voice v).state ≠ .idle) (retiring : (s.voice v).state ≠ .retiring) :
    skipBody v s = report (.skipped e.clip (es.length + 1)) ((s.conclude v .flushed).startFade v) := by
  rw [skipBody, queue]
  cases state : (s.voice v).state with
  | idle => exact absurd state idle
  | retiring => exact absurd state retiring
  | starting | waitingFill | waitingZone | playing | gap => rfl

theorem State.startFade_arb (s : State) (v : Voice) : (s.startFade v).arb = s.arb := s.orderHush_arb (voiceSource v) 5

/-- R97: the current entry is FLUSHED and fades out. -/
theorem State.skip_spec {s : State} {v : Voice} {e : Entry} {es : List Entry} (queue : (s.voice v).queue = e :: es) :
    let t := (s.conclude v .flushed).startFade v
    t.voice v = { s.voice v with
      queue := { e with outcome := some .flushed } :: es, state := .retiring, gap := none, maxWait := none, fade := some 6 } ∧
    t.rend.hush.get (voiceSource v) = true ∧ t.pool = s.pool ∧ t.arb = s.arb := by
  intro t
  obtain ⟨-, pool⟩ := (s.conclude v .flushed).startFade_rest v
  have concluded := State.conclude_eq queue .flushed
  refine ⟨?_, State.startFade_hush _ v, pool.trans ?_, (State.startFade_arb _ v).trans ?_⟩
  · rw [State.startFade_voice, concluded, State.setVoice_voice]
  · rw [concluded]; rfl
  · rw [concluded]; rfl

theorem voiceSkip_skips {s : State} {n : Nat} {v : Voice} (q : Byte) (hs : Unlocked s) (named : voiceOf n = some v) (other : v ≠ .chime) :
    (∀ e es, (s.voice v).queue = e :: es → (s.voice v).state ≠ .idle → (s.voice v).state ≠ .retiring →
      ∃ u, Answers (.voiceSkip q n) s u 0x43 q (.done (.skipped e.clip (es.length + 1))) ∧ ClaimFrame s u ∧
        u.voice v = { s.voice v with
          queue := { e with outcome := some .flushed } :: es
          state := .retiring
          gap := none
          maxWait := none
          fade := some 6 } ∧
        u.rend.hush.get (voiceSource v) = true ∧ u.pool = s.pool ∧ u.arb = s.arb) ∧
    ((s.voice v).state = .idle ∨ (s.voice v).state = .retiring →
      Answers (.voiceSkip q n) s s 0x43 q (.refused .state [])) := by
  have body := voiceBody_named named other skipBody s.taking
  refine ⟨fun e es queue idle retiring => ?_, fun h => ?_⟩
  · obtain ⟨answers, frame⟩ := answers_claimFrame 4 3 hs.1.2 hs.gate (exec_voiceSkip q n s) rfl
      (body.trans (skipBody_skips (s := s.taking) queue idle retiring)) (by simp [ClaimFrame])
    exact ⟨_, answers, frame, State.skip_spec (s := s.taking) queue⟩
  · exact answers_lockable 4 3 hs (exec_voiceSkip q n s) rfl (body.trans (skipBody_refused (s := s.taking) h))

end Sys2Proof.Machine
end

section
/-! SUPPORT. The entries of a flush (R96): what becomes of one entry, and of the queue, entry by entry from its head on. -/

namespace Sys2Proof.Machine

/-! ## The clips and the slots -/

theorem State.setUse_clip_ne (s : State) {m n : Nat} (other : m ≠ n) (u : UseMarker) : (s.setUse m u).pool.clip n = s.pool.clip n := by
  by_cases free : (s.pool.clip m).state = .free
  · have still : (s.setUse m u).pool = s.pool := if_pos free
    rw [still]
  · have one : m ≠ 0 := by
      rintro rfl
      exact free rfl
    have marked : (s.setUse m u).pool = s.pool.setClip m { s.pool.clip m with use := u } := if_neg free
    rw [marked, Pool.clip_setClip_ne _ one other]

/-- R84: a mark leaves the pages and the requests. -/
theorem State.setUse_rest (s : State) (m : Nat) (u : UseMarker) :
    (s.setUse m u).pool = { s.pool with clips := (s.setUse m u).pool.clips } := by
  rw [State.setUse, State.mapPool_pool]
  dsimp only
  split
  · rfl
  · exact Pool.setClip_rest ..

theorem State.setUse_slot (s : State) (m : Nat) (u : UseMarker) (o : LinkOwner) : (s.setUse m u).pool.slot o = s.pool.slot o := by
  rw [State.setUse_rest]
  cases o <;> rfl

theorem Pool.release_clip_ne (p : Pool) {m n : Nat} (other : m ≠ n) : (p.release m).clip n = p.clip n := by
  by_cases one : m = 0
  · exact Pool.clip_congr (r := p) (by rw [Pool.release, Pool.setClip, if_pos one]) n
  · exact p.clip_setClip_ne one other Clip.empty

theorem Pool.release_clip (p : Pool) (n : Nat) : (p.release n).clip n = Clip.empty := by
  by_cases inside : n ≠ 0 ∧ n - 1 < p.clips.length
  · rw [Pool.release_eq _ inside.1]
    simp [Pool.clip, inside.1, inside.2]
  · exact Pool.clip_outside _ n (by rwa [Pool.release_length])

theorem Pool.grant_clip_ne (p : Pool) {k n : Nat} (one : k ≠ 0) (other : k ≠ n) (m rate : Nat) (o : Owner) (st : ClipState) (auto : Bool) :
    (p.grant k m rate o st auto).clip n = p.clip n :=
  p.clip_setClip_ne one other _

theorem State.freeClip_still (s : State) {m n : Nat} (other : m ≠ n) (used : (s.pool.clip n).state ≠ .free) :
    (s.freeClip m).pool.clip n = s.pool.clip n := by
  have released : (s.releasing m).pool.clip n = s.pool.clip n := by rw [State.releasing_pool, Pool.release_clip_ne _ other]
  rw [State.freeClip_eq, State.grantAttempt_clip _ (released ▸ used), released]

/-- R68, R74: the clip is FREE, or a request that waited has it. -/
def Pool.freeOrGranted (p : Pool) (n : Nat) : Prop := p.clip n = Clip.empty ∨ ∃ o, p.slot o = .granted n

theorem State.attemptSlot_freeOrGranted {s : State} {n : Nat} (o : LinkOwner) (h : s.pool.freeOrGranted n) :
    (s.attemptSlot o).pool.freeOrGranted n := by
  unfold State.attemptSlot
  split
  next m rate auto k waits lowest =>
    split
    next =>
      obtain ⟨⟨one, -⟩, -⟩ := s.pool.lowestFree_spec k lowest
      simp only [State.raise, State.mapPort_pool, State.deliverFree_pool, State.mapPool_pool]
      by_cases taken : k = n
      · exact .inr ⟨o, by rw [Pool.setSlot_slot_same, taken]⟩
      · refine h.imp (fun empty => ?_) fun ⟨r, granted⟩ => ⟨r, ?_⟩
        · rw [Pool.setSlot_clip, Pool.grant_clip_ne _ one taken, empty]
        · have other : r ≠ o := by
            rintro rfl
            cases waits.symm.trans granted
          rw [Pool.setSlot_slot_ne _ other, Pool.grant_slot, granted]
    next => exact h
  next => exact h

theorem State.grantAttempt_freeOrGranted {s : State} {n : Nat} (h : s.pool.freeOrGranted n) : s.grantAttempt.pool.freeOrGranted n :=
  State.attemptSlot_freeOrGranted .control (State.attemptSlot_freeOrGranted .vehicle h)

theorem State.freeClip_freeOrGranted (s : State) (n : Nat) : (s.freeClip n).pool.freeOrGranted n := by
  refine State.grantAttempt_freeOrGranted (s := s.releasing n) (.inl ?_)
  rw [State.releasing_pool, Pool.release_clip]

theorem State.freeClip_keepsGranted {s : State} {n : Nat} (m : Nat) (h : s.pool.freeOrGranted n) : (s.freeClip m).pool.freeOrGranted n := by
  by_cases same : m = n
  · exact same ▸ s.freeClip_freeOrGranted m
  · refine State.grantAttempt_freeOrGranted (s := s.releasing m) ?_
    rw [State.releasing_pool, Pool.freeOrGranted, Pool.release_clip_ne _ same]
    exact h.imp_right fun ⟨o, granted⟩ => ⟨o, by rw [Pool.release_slot, granted]⟩

theorem State.setUse_freeOrGranted {s : State} {n : Nat} (m : Nat) (u : UseMarker) (h : s.pool.freeOrGranted n) :
    (s.setUse m u).pool.freeOrGranted n := by
  refine h.imp (fun empty => ?_) fun ⟨o, granted⟩ => ⟨o, by rw [State.setUse_slot, granted]⟩
  by_cases same : m = n
  · subst same
    have still : (s.setUse m u).pool = s.pool := if_pos (by rw [empty]; rfl)
    rw [still, empty]
  · rw [State.setUse_clip_ne _ same, empty]

/-- R68: no request waits. -/
def Pool.unrequested (p : Pool) : Prop := ∀ o n rate auto, p.slot o ≠ .waiting n rate auto

theorem State.freeClip_unrequested_pool {s : State} (quiet : s.pool.unrequested) (n : Nat) : (s.freeClip n).pool = s.pool.release n := by
  rw [State.freeClip_unrequested (quiet .vehicle) (quiet .control), State.releasing_pool]

/-! ## One entry -/

/-- R96: an entry leaves the queue: its clip is unused, and then it is freed or its completion appended. -/
def State.flushStep (s : State) (v : Voice) (e : Entry) : State :=
  if s.frees e then (s.setUse e.clip .unused).freeClip e.clip else (s.setUse e.clip .unused).append true (e.flushed v)

section
variable {s : State} {e : Entry} (v : Voice)

theorem State.flushStep_of_frees (h : s.frees e = true) : s.flushStep v e = (s.setUse e.clip .unused).freeClip e.clip := if_pos h

theorem State.flushStep_of_owes (h : s.frees e = false) : s.flushStep v e = (s.setUse e.clip .unused).append true (e.flushed v) :=
  if_neg (by rw [h]; decide)

theorem State.flushStep_voc : (s.flushStep v e).voc =
    { s.voc with control := s.voc.control ++ if s.frees e then [] else [e.flushed v] } := by
  cases h : s.frees e with
  | true =>
    rw [State.flushStep_of_frees v h, State.freeClip_voc, if_pos rfl, List.append_nil]
    rfl
  | false =>
    rw [State.flushStep_of_owes v h]
    rfl

theorem State.flushStep_arb : (s.flushStep v e).arb = s.arb := by
  unfold State.flushStep
  split
  · rw [State.freeClip_arb, State.setUse_arb]
  · rw [State.append_arb, State.setUse_arb]

theorem State.flushStep_tells : OnlyTells s (s.flushStep v e) := by
  unfold State.flushStep
  split
  · exact (s.setUse_tells _ _).trans (State.freeClip_tells _ _)
  · exact (s.setUse_tells _ _).trans (State.append_tells _ _ _)

/-- R93: an append raises COMPLETION. -/
theorem State.flushStep_flag (h : s.frees e = false) : (s.flushStep v e).port.flags.getLsbD 1 = true := by
  rw [State.flushStep_of_owes v h]
  exact (State.append_control _ _).2

/-- R96: another clip in use stands. -/
theorem State.flushStep_still {n : Nat} (other : e.clip ≠ n) (used : (s.pool.clip n).state ≠ .free) :
    (s.flushStep v e).pool.clip n = s.pool.clip n := by
  have marked := s.setUse_clip_ne other .unused
  unfold State.flushStep
  split
  · rw [State.freeClip_still _ other (marked ▸ used), marked]
  · exact marked

theorem State.flushStep_unused (h : s.frees e = false) (used : (s.pool.clip e.clip).state ≠ .free) :
    (s.flushStep v e).pool.clip e.clip = { s.pool.clip e.clip with use := .unused } := by
  rw [State.flushStep_of_owes v h]
  exact State.setUse_clip used .unused

theorem State.flushStep_freeOrGranted (h : s.frees e = true) : (s.flushStep v e).pool.freeOrGranted e.clip := by
  rw [State.flushStep_of_frees v h]
  exact State.freeClip_freeOrGranted _ _

theorem State.flushStep_keepsGranted {n : Nat} (h : s.pool.freeOrGranted n) : (s.flushStep v e).pool.freeOrGranted n := by
  have marked := State.setUse_freeOrGranted e.clip .unused h
  unfold State.flushStep
  split
  · exact State.freeClip_keepsGranted _ marked
  · exact marked

/-- R74, R96: with no request waiting, the pool after one entry. -/
theorem State.flushStep_pool (quiet : s.pool.unrequested) : (s.flushStep v e).pool =
    if s.frees e then (s.setUse e.clip .unused).pool.release e.clip else (s.setUse e.clip .unused).pool := by
  have marked : (s.setUse e.clip .unused).pool.unrequested := fun o n rate auto h => quiet o n rate auto ((s.setUse_slot ..).symm.trans h)
  unfold State.flushStep
  split
  · exact State.freeClip_unrequested_pool marked _
  · rfl

theorem State.flushStep_quiet (quiet : s.pool.unrequested) : (s.flushStep v e).pool.unrequested := by
  intro o n rate auto
  have slot : (s.flushStep v e).pool.slot o = s.pool.slot o := by
    rw [State.flushStep_pool v quiet]
    split
    · rw [Pool.release_slot, State.setUse_slot]
    · rw [State.setUse_slot]
  rw [slot]
  exact quiet o n rate auto

theorem State.flushStep_clip_ne (quiet : s.pool.unrequested) {n : Nat} (other : e.clip ≠ n) :
    (s.flushStep v e).pool.clip n = s.pool.clip n := by
  rw [State.flushStep_pool v quiet]
  split
  · rw [Pool.release_clip_ne _ other, State.setUse_clip_ne _ other]
  · rw [State.setUse_clip_ne _ other]

theorem State.flushStep_freed (quiet : s.pool.unrequested) (h : s.frees e = true) : (s.flushStep v e).pool.clip e.clip = Clip.empty := by
  rw [State.flushStep_pool v quiet, if_pos h, Pool.release_clip]

theorem State.flushStep_freePages (quiet : s.pool.unrequested) : (s.flushStep v e).pool.freePages =
    s.pool.freePages ++ if s.frees e then (s.pool.clip e.clip).pages else [] := by
  obtain ⟨x, record⟩ := s.setUse_record e.clip .unused e.clip
  have pages : (s.setUse e.clip .unused).pool.freePages = s.pool.freePages := by rw [State.setUse_rest]
  rw [State.flushStep_pool v quiet]
  split
  · rw [Pool.release, pages, record]
  · rw [pages, List.append_nil]

end

/-! ## The whole queue -/

/-- R96: a flush of the entries, from the head on, with the numbers of completions and of clips freed. -/
inductive Flushing (v : Voice) : State → List Entry → State → Nat → Nat → Prop
  | nil (s : State) : Flushing v s [] s 0 0
  | cons {s t : State} {e : Entry} {es : List Entry} {a f : Nat} (rest : Flushing v (s.flushStep v e) es t a f) :
      Flushing v s (e :: es) t ((!s.frees e).toNat + a) ((s.frees e).toNat + f)

theorem State.flushEntries_flushing {v : Voice} (control : onControl v = true) (l : List Entry) (s : State) (a f : Nat) :
    ∃ t x y, State.flushEntries v l s a f = (t, a + x, f + y) ∧ Flushing v s l t x y := by
  induction l generalizing s a f with
  | nil => exact ⟨s, 0, 0, rfl, .nil s⟩
  | cons e es ih =>
    unfold State.flushEntries
    rw [State.flushOne_eq, control]
    cases h : s.frees e with
    | true =>
      obtain ⟨t, x, y, ends, rest⟩ := ih ((s.setUse e.clip .unused).freeClip e.clip) a (f + 1)
      refine ⟨t, _, _, ?_, .cons (State.flushStep_of_frees v h ▸ rest)⟩
      simpa [h, Nat.add_assoc] using ends
    | false =>
      obtain ⟨t, x, y, ends, rest⟩ := ih ((s.setUse e.clip .unused).append true (e.flushed v)) (a + 1) f
      refine ⟨t, _, _, ?_, .cons (State.flushStep_of_owes v h ▸ rest)⟩
      simpa [h, Nat.add_assoc] using ends

section
variable {v : Voice} {s t : State} {l : List Entry} {a f : Nat}

theorem Flushing.counts (h : Flushing v s l t a f) : a + f = l.length := by
  induction h with
  | nil => rfl
  | @cons s _ e _ _ _ _ ih =>
    have one : (!s.frees e).toNat + (s.frees e).toNat = 1 := by cases s.frees e <;> rfl
    rw [List.length_cons, ← ih]
    omega

/-- R93, R96: the control queue alone changes of the voices' part. -/
theorem Flushing.voc (h : Flushing v s l t a f) :
    t.voc = { s.voc with control := t.voc.control } ∧ t.voc.control.length = s.voc.control.length + a := by
  induction h with
  | nil => exact ⟨rfl, rfl⟩
  | @cons s _ e _ _ _ _ ih =>
    obtain ⟨voc, length⟩ := ih
    rw [State.flushStep_voc] at voc length
    refine ⟨voc, length.trans ?_⟩
    cases s.frees e
    · simp +arith
    · simp

theorem Flushing.arb (h : Flushing v s l t a f) : t.arb = s.arb := by
  induction h with
  | nil => rfl
  | cons _ ih => rw [ih, State.flushStep_arb]

theorem Flushing.tells (h : Flushing v s l t a f) : OnlyTells s t := by
  induction h with
  | nil s => exact .refl s
  | cons _ ih => exact (State.flushStep_tells v).trans ih

theorem Flushing.flag (h : Flushing v s l t a f) (owed : a ≠ 0) : t.port.flags.getLsbD 1 = true := by
  induction h with
  | nil => exact absurd rfl owed
  | @cons s _ e _ _ _ rest ih =>
    cases first : s.frees e with
    | true => exact ih (by simpa [first] using owed)
    | false => exact rest.tells.flags 1 (State.flushStep_flag v first)

theorem Flushing.keepsGranted (h : Flushing v s l t a f) {n : Nat} (given : s.pool.freeOrGranted n) : t.pool.freeOrGranted n := by
  induction h with
  | nil => exact given
  | cons _ ih => exact ih (State.flushStep_keepsGranted v given)

/-- R96: a clip in use that no entry names stands. -/
theorem Flushing.still (h : Flushing v s l t a f) {n : Nat} (unnamed : n ∉ l.map Entry.clip) (used : (s.pool.clip n).state ≠ .free) :
    t.pool.clip n = s.pool.clip n := by
  induction h with
  | nil => rfl
  | cons _ ih =>
    obtain ⟨other, unnamed⟩ := not_or.1 (List.mem_cons.not.1 unnamed)
    have first := State.flushStep_still v (Ne.symm other) used
    rw [ih unnamed (first ▸ used), first]

/-! ## A queue as R84 places it -/

/-- R84: the entries name different clips, none of them FREE. -/
def Placed (p : Pool) (l : List Entry) : Prop := (l.map Entry.clip).Nodup ∧ ∀ e ∈ l, (p.clip e.clip).state ≠ .free

/-- R96: the entries behind the one that leaves keep their clips. -/
theorem Placed.behind {e : Entry} {es : List Entry} (h : Placed s.pool (e :: es)) (v : Voice) {x : Entry} (mem : x ∈ es) :
    (s.flushStep v e).pool.clip x.clip = s.pool.clip x.clip := by
  obtain ⟨distinct, used⟩ := h
  have fresh := (List.nodup_cons.1 distinct).1
  exact State.flushStep_still v (fun same => fresh (same ▸ List.mem_map_of_mem mem)) (used x (List.mem_cons_of_mem _ mem))

theorem Placed.step {e : Entry} {es : List Entry} (h : Placed s.pool (e :: es)) (v : Voice) : Placed (s.flushStep v e).pool es :=
  ⟨(List.nodup_cons.1 h.1).2, fun x mem => by rw [h.behind v mem]; exact h.2 x (List.mem_cons_of_mem _ mem)⟩

theorem Placed.frees {e : Entry} {es : List Entry} (h : Placed s.pool (e :: es)) (v : Voice) {x : Entry} (mem : x ∈ es) :
    (s.flushStep v e).frees x = s.frees x := by
  rw [State.frees, State.frees, h.behind v mem]

theorem Placed.filter_frees {e : Entry} {es : List Entry} (h : Placed s.pool (e :: es)) (v : Voice) :
    es.filter (s.flushStep v e).frees = es.filter s.frees :=
  List.filter_congr fun _ mem => h.frees v mem

/-- R96: the owed completions follow in queue order. -/
theorem Flushing.told (h : Flushing v s l t a f) (placed : Placed s.pool l) :
    t.voc.control = s.voc.control ++ (l.filter (fun e => !s.frees e)).map (Entry.flushed v) := by
  induction h with
  | nil => exact (List.append_nil _).symm
  | @cons s _ e _ _ _ _ ih =>
    rw [ih (placed.step v), State.flushStep_voc, List.filter_cons, List.filter_congr fun x mem => congrArg not (placed.frees v mem)]
    cases s.frees e <;> simp

theorem Flushing.freed (h : Flushing v s l t a f) (placed : Placed s.pool l) : f = (l.filter s.frees).length := by
  induction h with
  | nil => rfl
  | @cons s _ e _ _ _ _ ih =>
    rw [ih (placed.step v), List.filter_cons, placed.filter_frees v]
    cases s.frees e
    · simp
    · simp [Nat.add_comm]

theorem Flushing.unused (h : Flushing v s l t a f) (placed : Placed s.pool l) : ∀ e ∈ l, s.frees e = false →
    t.pool.clip e.clip = { s.pool.clip e.clip with use := .unused } := by
  induction h with
  | nil => exact nofun
  | @cons s _ e es _ _ rest ih =>
    intro x mem tells
    rcases List.mem_cons.1 mem with rfl | mem
    · have used := placed.2 x (List.mem_cons_self ..)
      have first := State.flushStep_unused v tells used
      rw [rest.still (List.nodup_cons.1 placed.1).1 (by rw [first]; exact used), first]
    · rw [ih (placed.step v) x mem ((placed.frees v mem).trans tells), placed.behind v mem]

theorem Flushing.granted (h : Flushing v s l t a f) (placed : Placed s.pool l) : ∀ e ∈ l, s.frees e = true →
    t.pool.freeOrGranted e.clip := by
  induction h with
  | nil => exact nofun
  | cons rest ih =>
    intro x mem frees
    rcases List.mem_cons.1 mem with rfl | mem
    · exact rest.keepsGranted (State.flushStep_freeOrGranted v frees)
    · exact ih (placed.step v) x mem ((placed.frees v mem).trans frees)

/-! ## With no request waiting -/

theorem Flushing.unnamed (h : Flushing v s l t a f) (quiet : s.pool.unrequested) {n : Nat} (other : n ∉ l.map Entry.clip) :
    t.pool.clip n = s.pool.clip n := by
  induction h with
  | nil => rfl
  | cons _ ih =>
    obtain ⟨first, other⟩ := not_or.1 (List.mem_cons.not.1 other)
    rw [ih (State.flushStep_quiet v quiet) other, State.flushStep_clip_ne v quiet (Ne.symm first)]

theorem Flushing.emptied (h : Flushing v s l t a f) (placed : Placed s.pool l) (quiet : s.pool.unrequested) :
    ∀ e ∈ l, s.frees e = true → t.pool.clip e.clip = Clip.empty := by
  induction h with
  | nil => exact nofun
  | cons rest ih =>
    intro x mem frees
    rcases List.mem_cons.1 mem with rfl | mem
    · rw [rest.unnamed (State.flushStep_quiet v quiet) (List.nodup_cons.1 placed.1).1, State.flushStep_freed v quiet frees]
    · exact ih (placed.step v) (State.flushStep_quiet v quiet) x mem ((placed.frees v mem).trans frees)

theorem Flushing.freePages (h : Flushing v s l t a f) (placed : Placed s.pool l) (quiet : s.pool.unrequested) :
    t.pool.freePages = s.pool.freePages ++ (l.filter s.frees).flatMap (fun e => (s.pool.clip e.clip).pages) := by
  induction h with
  | nil => exact (List.append_nil _).symm
  | @cons s _ e es _ _ _ ih =>
    have behind : (es.filter s.frees).flatMap (fun x => ((s.flushStep v e).pool.clip x.clip).pages) =
        (es.filter s.frees).flatMap fun x => (s.pool.clip x.clip).pages :=
      List.flatMap_congr fun x mem => congrArg Clip.pages (placed.behind v (List.mem_filter.1 mem).1)
    rw [ih (placed.step v) (State.flushStep_quiet v quiet), State.flushStep_freePages v quiet, List.filter_cons,
      placed.filter_frees v, behind]
    cases s.frees e <;> simp

end

end Sys2Proof.Machine
end

section
/-! SUPPORT. VOICE.FLUSH (R96): the voice without its entries, and its fade. -/

namespace Sys2Proof.Machine

/-! ## The voice before and after its entries -/

/-- R96: the voice without its entries, and no longer a waiter. -/
def State.unqueued (s : State) (v : Voice) : State :=
  (s.setVoice v { s.voice v with queue := [] }).setWaiters true (s.voc.controlWaiters.filter (fun w => w != .voice v))

theorem State.unqueued_voice (s : State) (v : Voice) : (s.unqueued v).voice v = { s.voice v with queue := [] } := by
  rw [State.unqueued, State.setWaiters_voice, State.setVoice_voice]

theorem State.unqueued_voice_ne (s : State) {v w : Voice} (other : w ≠ v) : (s.unqueued v).voice w = s.voice w := by
  rw [State.unqueued, State.setWaiters_voice, State.setVoice_voice_ne _ other.symm]

theorem State.unqueued_waiters (s : State) (v : Voice) : .voice v ∉ (s.unqueued v).voc.controlWaiters := by
  change Waiter.voice v ∉ s.voc.controlWaiters.filter (fun w => w != .voice v)
  simp

/-- R96: a flushed voice that was not IDLE fades out; a fade that runs goes on. -/
def State.flushFade (s : State) (v : Voice) : State :=
  if (s.voice v).state = .idle then s
  else
    let t := s.setVoice v { s.voice v with state := .retiring, flushing := true, gap := none, maxWait := none }
    if (s.voice v).fade.isSome then t else t.startFade v

theorem State.startFade_completions (s : State) (v : Voice) : SameCompletions s (s.startFade v) :=
  (s.orderHush_work (voiceSource v) 5).completions.trans (State.setVoice_completions _ v _)

/-- R96: the fade changes the flushed voice and its hush alone. -/
structure FadesOnly (s t : State) (v : Voice) : Prop where
  port : t.port = s.port
  pool : t.pool = s.pool
  arb : t.arb = s.arb
  completions : SameCompletions s t
  others : ∀ w, w ≠ v → t.voice w = s.voice w
  queue : (t.voice v).queue = (s.voice v).queue

theorem State.flushFade_only (s : State) (v : Voice) : FadesOnly s (s.flushFade v) v := by
  unfold State.flushFade
  split
  · exact ⟨rfl, rfl, rfl, .refl s, fun _ _ => rfl, rfl⟩
  · let t := s.setVoice v { s.voice v with state := .retiring, flushing := true, gap := none, maxWait := none }
    have completions : SameCompletions s t := s.setVoice_completions v _
    have others (w : Voice) (other : w ≠ v) : t.voice w = s.voice w := s.setVoice_voice_ne other.symm _
    have queue : (t.voice v).queue = (s.voice v).queue := by
      change ((s.setVoice v _).voice v).queue = _
      rw [State.setVoice_voice]
    dsimp only
    split
    · exact ⟨rfl, rfl, rfl, completions, others, queue⟩
    · obtain ⟨port, pool⟩ := t.startFade_rest v
      exact ⟨port, pool, t.startFade_arb v, completions.trans (t.startFade_completions v),
        fun w other => (t.startFade_voice_ne other.symm).trans (others w other), (t.startFade_queue v).trans queue⟩

theorem State.flushFade_fades {s : State} {v : Voice} (active : (s.voice v).state ≠ .idle) :
    ((s.flushFade v).voice v).state = .retiring ∧ ((s.flushFade v).voice v).flushing = true ∧
    ((s.flushFade v).voice v).fade = some ((s.voice v).fade.getD 6) := by
  rw [State.flushFade, if_neg active]
  dsimp only
  split
  next running =>
    obtain ⟨n, fade⟩ := Option.isSome_iff_exists.1 running
    rw [State.setVoice_voice]
    exact ⟨rfl, rfl, by simp only [fade, Option.getD_some]⟩
  next still =>
    rw [State.startFade_voice, State.setVoice_voice, Option.not_isSome_iff_eq_none.1 still]
    exact ⟨rfl, rfl, rfl⟩

/-! ## The flush -/

/-- R96: a flush with room for what it owes. -/
theorem State.flush_eq {s : State} {v : Voice} (other : v ≠ .chime) (room : s.flushOwes v ≤ s.room true) :
    ∃ t a f, Flushing v (s.unqueued v) (s.voice v).queue t a f ∧ s.flush v = .ok (t.flushFade v, (s.voice v).queue.length, a, f) := by
  have control := (onControl_iff v).2 other
  obtain ⟨t, a, f, entries, flushing⟩ := State.flushEntries_flushing control (s.voice v).queue (s.unqueued v) 0 0
  have voice : t.voice v = { s.voice v with queue := [] } := by
    have unchanged := State.flushEntries_voice control v (s.voice v).queue (s.unqueued v) 0 0
    rw [entries] at unchanged
    exact unchanged.trans (s.unqueued_voice v)
  rw [Nat.zero_add, Nat.zero_add] at entries
  refine ⟨t, a, f, flushing, ?_⟩
  have entries' : State.flushEntries v (s.voice v).queue ((s.setVoice v { s.voice v with queue := [] }).setWaiters true
      (((s.setVoice v { s.voice v with queue := [] }).waiters true).filter (fun w => w != .voice v))) 0 0 = (t, a, f) := entries
  simp only [State.flush, control, if_neg (Nat.not_lt.2 room), entries', State.flushFade, voice]

/-- VOICE.FLUSH for a voice that may be named. -/
def flushBody (v : Voice) (s : State) : Reply × State :=
  match s.flush v with
  | .error c => refuse c s
  | .ok r => report (.flushed r.2.1 r.2.2.1 r.2.2.2) r.1

theorem exec_voiceFlush (q : Byte) (n : Nat) (s : State) : exec (.voiceFlush q n) s = serve 4 2 q .lockable s (voiceBody n flushBody) := rfl

theorem flushBody_busy {s : State} {v : Voice} (other : v ≠ .chime) (full : s.room true < s.flushOwes v) :
    flushBody v s = refuse .busy s := by
  rw [flushBody, State.flush_busy (by rwa [(onControl_iff v).2 other])]

theorem voiceFlush_busy {s : State} {n : Nat} {v : Voice} (q : Byte) (hs : Unlocked s) (named : voiceOf n = some v) (other : v ≠ .chime)
    (full : s.room true < s.flushOwes v) : Answers (.voiceFlush q n) s s 0x42 q (.refused .busy []) :=
  answers_lockable 4 2 hs (exec_voiceFlush q n s) rfl
    ((voiceBody_named named other flushBody s.taking).trans (flushBody_busy (s := s.taking) other full))

/-- R96: what a flush of `a` completions and `f` freed clips leaves. -/
structure Flushed (s u : State) (v : Voice) (a f : Nat) : Prop where
  counts : a + f = (s.voice v).queue.length
  queue : (u.voice v).queue = []
  length : u.voc.control.length = s.voc.control.length + a
  waiters : .voice v ∉ u.voc.controlWaiters
  others : ∀ w, w ≠ v → u.voice w = s.voice w
  arb : u.arb = s.arb
  flag : a ≠ 0 → u.port.flags.getLsbD 1 = true
  fades : (s.voice v).state ≠ .idle → (u.voice v).state = .retiring ∧ (u.voice v).flushing = true ∧
    (u.voice v).fade = some ((s.voice v).fade.getD 6)

/-- R96: where the queue is as R84 places it, which completions are told and what becomes of the clips. -/
structure FlushedPlaced (s u : State) (v : Voice) (f : Nat) : Prop where
  told : u.voc.control = s.voc.control ++ ((s.voice v).queue.filter (fun e => !s.frees e)).map (Entry.flushed v)
  freed : f = ((s.voice v).queue.filter s.frees).length
  unused : ∀ e ∈ (s.voice v).queue, s.frees e = false → u.pool.clip e.clip = { s.pool.clip e.clip with use := .unused }
  granted : ∀ e ∈ (s.voice v).queue, s.frees e = true → u.pool.freeOrGranted e.clip
  emptied : s.pool.unrequested → ∀ e ∈ (s.voice v).queue, s.frees e = true → u.pool.clip e.clip = Clip.empty
  freePages : s.pool.unrequested → u.pool.freePages =
    s.pool.freePages ++ ((s.voice v).queue.filter s.frees).flatMap (fun e => (s.pool.clip e.clip).pages)
  unnamed : s.pool.unrequested → ∀ n, n ∉ (s.voice v).queue.map Entry.clip → u.pool.clip n = s.pool.clip n

theorem Flushed.untaken {s u : State} {v : Voice} {a f : Nat} (h : Flushed s.taking u v a f) : Flushed s (s.untaken u) v a f :=
  ⟨h.counts, h.queue, h.length, h.waiters, h.others, h.arb, h.flag, h.fades⟩

theorem FlushedPlaced.untaken {s u : State} {v : Voice} {f : Nat} (h : FlushedPlaced s.taking u v f) : FlushedPlaced s (s.untaken u) v f :=
  ⟨h.told, h.freed, h.unused, h.granted, h.emptied, h.freePages, h.unnamed⟩

section
variable {s t : State} {v : Voice} {a f : Nat} (h : Flushing v (s.unqueued v) (s.voice v).queue t a f)
include h

theorem Flushing.flushed : Flushed s (t.flushFade v) v a f := by
  obtain ⟨port, -, arb, completions, others, queue⟩ := t.flushFade_only v
  obtain ⟨voc, length⟩ := h.voc
  have voice (w : Voice) : t.voice w = (s.unqueued v).voice w := by rw [State.voice, voc]; rfl
  have own : t.voice v = { s.voice v with queue := [] } := (voice v).trans (s.unqueued_voice v)
  refine ⟨h.counts, queue.trans (by rw [own]), completions.control ▸ length, ?_, fun w other => ?_, arb.trans h.arb,
    fun owed => port ▸ h.flag owed, fun active => ?_⟩
  · have waiters : (t.flushFade v).voc.controlWaiters = t.voc.controlWaiters := completions.waiters true
    rw [waiters, voc]
    exact s.unqueued_waiters v
  · rw [others w other, voice, State.unqueued_voice_ne _ other]
  · have fades := State.flushFade_fades (s := t) (v := v) (by rw [own]; exact active)
    rwa [own] at fades

theorem Flushing.flushedPlaced (placed : Placed s.pool (s.voice v).queue) : FlushedPlaced s (t.flushFade v) v f := by
  obtain ⟨-, pool, -, completions, -, -⟩ := t.flushFade_only v
  refine ⟨completions.control.trans (h.told placed), h.freed placed, ?_, ?_, ?_, ?_, ?_⟩
  all_goals rw [pool]
  · exact h.unused placed
  · exact h.granted placed
  · exact h.emptied placed
  · exact h.freePages placed
  · exact fun quiet n => h.unnamed quiet

end

theorem voiceFlush_flushes {s : State} {n : Nat} {v : Voice} (q : Byte) (hs : Unlocked s) (named : voiceOf n = some v) (other : v ≠ .chime)
    (room : s.flushOwes v ≤ s.room true) : ∃ u a f,
    Answers (.voiceFlush q n) s u 0x42 q (.done (.flushed (s.voice v).queue.length a f)) ∧ ClaimFrame s u ∧ Flushed s u v a f ∧
    (Placed s.pool (s.voice v).queue → FlushedPlaced s u v f) := by
  obtain ⟨t, a, f, flushing, flushed⟩ := State.flush_eq (s := s.taking) other room
  have body : flushBody v s.taking = report (.flushed (s.voice v).queue.length a f) (t.flushFade v) := by
    rw [flushBody, flushed]
    rfl
  obtain ⟨answers, frame⟩ := answers_claimFrame 4 2 hs.1.2 hs.gate (exec_voiceFlush q n s) rfl
    ((voiceBody_named named other flushBody s.taking).trans body) (State.flush_frame flushed)
  exact ⟨_, a, f, answers, frame, flushing.flushed.untaken, fun placed => (flushing.flushedPlaced placed).untaken⟩

theorem Pool.freeOrGranted_cases {p : Pool} {n : Nat} (h : p.freeOrGranted n) :
    p.clip n = Clip.empty ∨ p.vehicleSlot = .granted n ∨ p.controlSlot = .granted n := by
  rcases h with empty | ⟨_ | _, granted⟩
  · exact .inl empty
  · exact .inr (.inr granted)
  · exact .inr (.inl granted)

theorem Pool.unrequested_of {p : Pool} (vehicle : ∀ n rate auto, p.vehicleSlot ≠ .waiting n rate auto)
    (control : ∀ n rate auto, p.controlSlot ≠ .waiting n rate auto) : p.unrequested := by
  intro o
  cases o with
  | control => exact control
  | vehicle => exact vehicle

/-- Settles O36, request by request. -/
theorem completionsFlushAndSkip : Obligations.CompletionsFlushAndSkip := by
  refine ⟨fun s v => ⟨s.room_eq.1, s.room_eq.2, s.flushOwes_eq v⟩, fun s q hs => voiceCompletions_takes q hs,
    fun s q n v hs named other => ⟨fun room => ?_, voiceFlush_busy q hs named other⟩,
    fun s q n v hs named other => voiceSkip_skips q hs named other, fun s q hs => ?_⟩
  · obtain ⟨u, a, f, answers, frame, flushed, clips⟩ := voiceFlush_flushes q hs named other room
    refine ⟨u, a, f, answers, frame, flushed.counts, flushed.queue, flushed.length, flushed.waiters, flushed.others, flushed.arb,
      fun distinct used => ?_, flushed.fades⟩
    obtain ⟨told, freed, unused, granted, emptied, freePages, unnamed⟩ := clips ⟨distinct, used⟩
    refine ⟨told, flushed.flag, freed, unused, fun e mem frees => Pool.freeOrGranted_cases (granted e mem frees), fun vehicle control => ?_⟩
    have quiet := Pool.unrequested_of vehicle control
    exact ⟨emptied quiet, freePages quiet, unnamed quiet⟩
  · have flush (n : Nat) := answers_unnamedVoice hs (exec_voiceFlush q n s) rfl
    have skip (n : Nat) := answers_unnamedVoice hs (exec_voiceSkip q n s) rfl
    exact ⟨(flush 0).1 rfl, (skip 0).1 rfl, fun n outside => ⟨(flush n).2 outside, (skip n).2 outside⟩⟩

end Sys2Proof.Machine
end

section
/-! SUPPORT. The tuner's events in RUN: what each of them answers, before its changes of the station table are counted and after. -/

namespace Sys2Proof.Machine

theorem exec_settleDone {s : State} (run : s.port.op = .run) (p : Path) :
    exec (.settleDone p) s = .next (State.countDevice s (s.settled p)) := by
  change Host.Outcome.next (if s.running then _ else _) = _
  rw [if_pos (s.running_iff.mpr run)]

theorem exec_afCheckBegin {s : State} (run : s.port.op = .run) :
    exec .afCheckBegin s = .next (State.countDevice s s.checkBegin) := by
  change Host.Outcome.next (if s.running then _ else _) = _
  rw [if_pos (s.running_iff.mpr run)]

theorem exec_peekReturn {s : State} (run : s.port.op = .run) :
    exec .peekReturn s = .next (State.countDevice s s.peekEnd) := by
  change Host.Outcome.next (if s.running then _ else _) = _
  rw [if_pos (s.running_iff.mpr run)]

end Sys2Proof.Machine
end

section
/-! Refutes O43, O46 and O47. Each of them says of every state in RUN what a plan of P2 leaves of the rear zones' ENTERTAINMENT sources, or
what P2 is given by them, and none asks for claim lists in order (R5, ClaimsOk), as O40 and O41 do. A plan of P2 can end P2's announcement,
which withdraws TRAFFIC_2 (R142). In a list where TRAFFIC_2 stands as an ENTERTAINMENT claim above RADIO_2, the withdrawal changes the
zone's ENTERTAINMENT source: from TRAFFIC_2 to RADIO_2, a source that has the next plan give P2 to the zone. -/

namespace Sys2Proof.Machine

/-- In RUN, with REAR_L's TRAFFIC_2 filed as ENTERTAINMENT above RADIO_2, and P2's announcement LIVE. -/
def misfiledTraffic : State :=
  (inRun.setZone .rearL ⟨[⟨.traffic2, .entertainment, .audible, 1, false, false⟩,
      ⟨.radio2, .entertainment, .held, 2, false, false⟩], 3, none, none, false⟩).setAnn .p2
    ⟨.live, ZoneSet.empty, ZoneSet.empty, false, 0, none⟩

/-- P1 at the end of its settling time, P2 still REAR. -/
def misfiledLock : State :=
  (misfiledTraffic.setPath .p1 { PathRec.reset .front with state := .tuning, phase := some .settling, wait := some 0 }).setPath .p2
    (PathRec.reset .rear)

theorem misfiledLock_source :
    (State.countDevice misfiledLock (misfiledLock.settled .p1)).entSource .rearL = some .radio2 := by decide +kernel

/-- Refutes O43: P1's lock plans P2, which leaves REAR, and REAR_L's ENTERTAINMENT source does not stay. -/
theorem not_tunesRunLockOrFail : ¬ Obligations.TunesRunLockOrFail := by
  intro h
  obtain ⟨-, lock, -⟩ := h
  obtain ⟨t, ht, -, -, -, -, -, source, -⟩ := lock misfiledLock rfl rfl rfl rfl rfl
  obtain rfl := Host.Outcome.next.inj ((exec_settleDone rfl .p1).symm.trans ht)
  rw [misfiledLock_source] at source
  exact absurd source (by decide)

/-- A check is due on P1, LOCKED at 8750 with the other frequency 9000 in its record; diversity has P2 planned as PARTNER first. -/
def misfiledCheck : State :=
  ((misfiledTraffic.setPath .p1 { PathRec.reset .front with state := .locked }).mapTun
    (fun t => { t with flags := ⟨true, false, true, false⟩, holdDue := true })).mapSta
      (·.setRec 0 (some ⟨0, .fm, none, none, [⟨8750, 0, 0⟩, ⟨9000, 0, 0⟩], false, none, .host, 0⟩))

theorem misfiledCheck_role :
    ((State.countDevice misfiledCheck misfiledCheck.checkBegin).path .p2).role = .rear := by decide +kernel

/-- Refutes O46: P2 is REAR where the statement has it in SCAN on the first candidate. -/
theorem not_afChecksTryTheCandidates : ¬ Obligations.AfChecksTryTheCandidates := by
  intro h
  obtain ⟨-, begins, -⟩ := h
  obtain ⟨-, tries⟩ := begins misfiledCheck rfl rfl rfl rfl rfl rfl
  obtain ⟨t, ht, -, -, role, -⟩ := tries 9000 [] (by decide) rfl (by decide) (by decide) (by decide) (by decide) (by decide)
  obtain rfl := Host.Outcome.next.inj ((exec_afCheckBegin rfl).symm.trans ht)
  rw [misfiledCheck_role] at role
  exact absurd role (by decide)

/-- A peek at 9000 that ends with its return confirmed, 9000 still untried. -/
def misfiledPeek : State :=
  (misfiledTraffic.setPath .p1 { PathRec.reset .front with state := .peek }).mapTun
    (fun t => { t with flags := ⟨true, false, true, false⟩, check := some ⟨[], [9000], 0, none⟩,
                       peek := some ⟨9000, 10, true, false, true, true⟩ })

theorem misfiledPeek_role :
    ((State.countDevice misfiledPeek misfiledPeek.peekEnd).path .p2).role = .rear := by decide +kernel

/-- Refutes O47: P2 is REAR where the statement has it in SCAN on the candidate left. -/
theorem not_peeksVisitACandidate : ¬ Obligations.PeeksVisitACandidate := by
  intro h
  obtain ⟨-, -, -, returns, -⟩ := h
  obtain ⟨-, goesOn⟩ := returns misfiledPeek _ rfl rfl (by decide) rfl
  obtain ⟨-, left⟩ := goesOn _ rfl rfl
  obtain ⟨-, tries⟩ := left 9000 [] rfl
  obtain ⟨t, l, ht, -, -, role, -⟩ := tries (by decide) (by decide) (by decide)
  obtain rfl := Host.Outcome.next.inj ((exec_peekReturn rfl).symm.trans ht)
  rw [misfiledPeek_role] at role
  exact absurd role (by decide)

end Sys2Proof.Machine
end

section
/-! SUPPORT. RADIO_1's hush and the notice flags under the work on claims and announcements: a hush of RADIO_1 is P1's alone to order and
to lift (R103, R113, R116), and no flag falls (R188). -/

namespace Sys2Proof.Machine

/-- RADIO_1's hush stays, and no flag falls. -/
structure HushStays (s t : State) : Prop where
  hush : t.rend.hush.radio1 = s.rend.hush.radio1
  flags : ∀ n, s.port.flags.getLsbD n = true → t.port.flags.getLsbD n = true

theorem HushStays.of_rest {s t : State} (rend : t.rend = s.rend) (port : t.port = s.port) : HushStays s t :=
  ⟨congrArg (fun r => r.hush.radio1) rend, fun _ h => port ▸ h⟩

theorem HushStays.refl (s : State) : HushStays s s := .of_rest rfl rfl

theorem HushStays.trans {s t u : State} (h : HushStays s t) (h' : HushStays t u) : HushStays s u :=
  ⟨h'.hush.trans h.hush, fun n x => h'.flags n (h.flags n x)⟩

theorem HushStays.of_tells {s t : State} (h : OnlyTells s t) (rend : t.rend = s.rend) : HushStays s t :=
  ⟨congrArg (fun r => r.hush.radio1) rend, h.flags⟩

theorem HushStays.mapRend (s : State) {f : Renderer → Renderer} (h : (f s.rend).hush = s.rend.hush) : HushStays s (s.mapRend f) :=
  ⟨congrArg PerSource.radio1 h, fun _ h => h⟩

theorem HushStays.raise (s : State) (n : Notice) : HushStays s (s.raise n) := .of_tells (s.raise_tells n) rfl

theorem HushStays.liftHush (s : State) {src : Source} (h : src ≠ .radio1) : HushStays s (s.liftHush src) := by
  refine ⟨?_, (s.liftHush_work src).tells.flags⟩
  unfold State.liftHush
  split
  · cases src <;> first | rfl | exact absurd rfl h
  · rfl

theorem HushStays.orderHush (s : State) {src : Source} (h : src ≠ .radio1) (n : Nat) : HushStays s (s.orderHush src n) := by
  refine ⟨?_, (s.orderHush_work src n).tells.flags⟩
  unfold State.orderHush
  split
  · rfl
  · cases src <;> first | rfl | exact absurd rfl h

theorem HushStays.setZone (s : State) (z : Zone) (zs : ZoneState) : HushStays s (s.setZone z zs) := .of_rest rfl rfl

theorem HushStays.setAnn (s : State) (p : Path) (a : Announcement) : HushStays s (s.setAnn p a) := .of_rest rfl rfl

theorem voiceSource_ne_radio1 (v : Voice) : voiceSource v ≠ .radio1 := by cases v <;> decide

/-! ## Claims -/

theorem State.entReport_hush (s : State) (z : Zone) (b : Bool) : HushStays s (s.entReport z b) := by
  unfold State.entReport
  dsimp only
  split
  · split
    · exact .setZone ..
    · exact .refl s
  · split
    · split
      · exact (HushStays.setZone ..).trans (.raise ..)
      · exact .refl s
    · split
      · exact (HushStays.setZone ..).trans (.raise ..)
      · exact .refl s

theorem State.captureAfter_hush (s base : State) : HushStays s (s.captureAfter base) :=
  have ⟨port, _, rend, _⟩ := s.captureAfter_rest base
  .of_rest rend port

theorem State.evaluateTold_hush (s : State) (z : Zone) (fresh : List Source) (filed : Bool) :
    HushStays s (s.evaluateTold z fresh filed) := by
  unfold State.evaluateTold
  dsimp only
  have rated (zs : ZoneState) (y : Nat) (q : List Source) (b a : List Claim) :
      HushStays s ((s.setZone z zs).mapRend (·.rates z y q b a)) :=
    (HushStays.setZone s z zs).trans (.mapRend _ (by simp))
  exact ((rated ..).trans (State.entReport_hush ..)).trans (.of_rest (State.reports_rest _).2.2 (State.reports_rest _).1)

/-- A change of a zone's list with its evaluation. -/
theorem State.setZone_evaluateTold_hush (s : State) (z : Zone) (zs : ZoneState) (fresh : List Source) (filed : Bool) :
    HushStays s ((s.setZone z zs).evaluateTold z fresh filed) :=
  (HushStays.setZone ..).trans (State.evaluateTold_hush ..)

theorem State.replaceTold_hush (s : State) (z : Zone) (old new : Source) : HushStays s (s.replaceTold z old new) :=
  ((HushStays.setZone ..).trans (.mapRend _ rfl)).trans (State.evaluateTold_hush ..)

theorem State.fileTold_hush (s : State) (z : Zone) (src : Source) (shadow : Bool) : HushStays s (s.fileTold z src shadow) := by
  unfold State.fileTold
  split
  · exact s.setZone_evaluateTold_hush ..
  · split
    · exact s.replaceTold_hush ..
    · exact s.setZone_evaluateTold_hush ..

theorem State.file_hush (s : State) (z : Zone) (src : Source) (shadow : Bool) : HushStays s (s.file z src shadow) :=
  (s.fileTold_hush ..).trans (State.captureAfter_hush ..)

theorem State.withdrawTold_hush (s : State) (z : Zone) (src : Source) : HushStays s (s.withdrawTold z src) := by
  unfold State.withdrawTold
  split
  · exact .refl s
  · exact ((HushStays.setZone ..).trans (.mapRend _ rfl)).trans (State.evaluateTold_hush ..)

theorem State.withdraw_hush (s : State) (z : Zone) (src : Source) : HushStays s (s.withdraw z src) := by
  unfold State.withdraw
  split
  · exact .refl s
  · exact (s.withdrawTold_hush ..).trans (State.captureAfter_hush ..)

theorem State.takeZone_hush (s : State) (p : Path) (was now : ZoneSet) (z : Zone) : HushStays s (s.takeZone p was now z) := by
  unfold State.takeZone
  split
  · exact s.file_hush ..
  · split
    · exact s.withdraw_hush ..
    · exact .refl s

theorem State.takingPath_hush (s : State) (p : Path) : HushStays s (s.takingPath p) := by
  unfold State.takingPath
  dsimp only
  split
  · exact .refl s
  · exact (((HushStays.setAnn ..).trans (State.takeZone_hush ..)).trans (State.takeZone_hush ..)).trans (State.takeZone_hush ..)

theorem State.takingUpdate_hush (s : State) : HushStays s s.takingUpdate :=
  (s.takingPath_hush .p1).trans (State.takingPath_hush ..)

theorem State.setEnt_hush (s : State) (z : Zone) (src : Option Source) : HushStays s (s.setEnt z src) := by
  unfold State.setEnt
  split
  · split
    · exact .refl s
    · exact ((s.replaceTold_hush ..).trans (State.captureAfter_hush ..)).trans (State.takingUpdate_hush _)
  · exact (s.file_hush ..).trans (State.takingUpdate_hush _)
  · exact (s.withdraw_hush ..).trans (State.takingUpdate_hush _)
  · exact .refl s

/-! ## Announcements -/

theorem State.bringClaim_hush (s : State) (v : Voice) (mask : ZoneSet) (z : Zone) : HushStays s (s.bringClaim v mask z) := by
  unfold State.bringClaim
  dsimp only
  split
  · exact .refl s
  · exact s.fileTold_hush ..
  · exact s.withdrawTold_hush ..
  · exact .refl s

theorem State.becomeCurrent_frontHush (s : State) (v : Voice) (e : Entry) : HushStays s (s.becomeCurrent v e) := by
  unfold State.becomeCurrent
  dsimp only
  have ready (r : VoiceRec) : HushStays s ((s.setUse e.clip (.playing v)).setVoice v r) := .of_rest rfl rfl
  exact ((((((ready _).trans (State.bringClaim_hush ..)).trans (State.bringClaim_hush ..)).trans
    (State.bringClaim_hush ..)).trans (State.bringClaim_hush ..)).trans (State.captureAfter_hush ..)).trans
    (.liftHush _ (voiceSource_ne_radio1 v))

theorem State.placeReplay_hush (s : State) (p : Path) (n : Nat) : HushStays s (s.placeReplay p n) := by
  unfold State.placeReplay State.place
  split
  next t h =>
    split at h
    · cases h
    · obtain rfl := Except.ok.inj h
      have queued (e : Entry) (r : VoiceRec) : HushStays s ((s.setUse e.clip (.queued .traffic)).setVoice .traffic r) := .of_rest rfl rfl
      unfold State.accept
      dsimp only
      split
      · exact (queued _ _).trans (State.becomeCurrent_frontHush ..)
      · exact queued _ _
  · exact .refl s

theorem State.oweCapture_rend (s : State) (n : Nat) (st : CompStatus) : (s.oweCapture n st).rend = s.rend := by
  unfold State.oweCapture State.append State.buildChimeDone State.setWaiters
  (repeat' split) <;> rfl

theorem State.grantAttempt_rend (s : State) : s.grantAttempt.rend = s.rend := by
  have slot (u : State) (o : LinkOwner) : (u.attemptSlot o).rend = u.rend := by
    unfold State.attemptSlot State.deliverFree
    (repeat' split) <;> simp
  rw [State.grantAttempt, slot, slot]

theorem State.freeClip_hush (s : State) (n : Nat) : HushStays s (s.freeClip n) := by
  refine .of_tells (s.freeClip_tells n) ?_
  rw [State.freeClip, State.grantAttempt_rend]
  simp [State.deliverFree]

theorem State.closeClip_hush (s : State) (n len : Nat) : HushStays s (s.closeClip n len) := by
  refine .of_tells (s.closeClip_tells n len) ?_
  unfold State.closeClip
  dsimp only
  split
  · rw [State.grantAttempt_rend]
    simp [State.deliverFree]
  · simp [State.deliverFree]

theorem State.closeOwn_hush (s : State) (p : Path) : HushStays s (s.closeOwn p) := by
  have closed (n : Nat) (st : CompStatus) : HushStays s (s.closeCapture p n st) := by
    unfold State.closeCapture
    dsimp only
    split
    · exact (s.freeClip_hush n).trans (.of_rest rfl rfl)
    · exact ((s.closeClip_hush ..).trans (State.placeReplay_hush ..)).trans
        (.of_tells (State.oweCapture_tells ..) (State.oweCapture_rend ..))
  unfold State.closeOwn
  split
  · split
    · exact closed ..
    · exact .refl s
  · exact .refl s

theorem State.endAnn_hush (s : State) (p : Path) : HushStays s (s.endAnn p) := by
  unfold State.endAnn
  dsimp only
  split
  · exact .refl s
  · have withdrawn (t : State) (src : Source) : HushStays t (t.withdrawAll src) :=
      (((t.withdraw_hush ..).trans (State.withdraw_hush ..)).trans (State.withdraw_hush ..)).trans (State.withdraw_hush ..)
    exact (((((s.closeOwn_hush p).trans (.setAnn ..)).trans (withdrawn ..)).trans (.setAnn ..)).trans (.raise ..)).trans
      (State.captureAfter_hush ..)

theorem State.annSync_hush (s : State) (p : Path) : HushStays s (s.annSync p) := by
  have begun : HushStays s (s.beginAnn p) := by
    unfold State.beginAnn
    exact ((HushStays.setAnn ..).trans (State.takingPath_hush ..)).trans (.raise ..)
  unfold State.annSync
  dsimp only
  split
  · exact s.endAnn_hush p
  · split
    · split
      · exact begun
      · exact .refl s
    · split
      · exact .refl s
      · exact .setAnn ..
    · split
      · exact .setAnn ..
      · exact .refl s

end Sys2Proof.Machine
end

section
/-! SUPPORT. What the plan of P2 leaves (R109): P1 with its seek, peek and hold count, RADIO_1's hush and the flags; and, where no window
runs or waits, the scan. -/

namespace Sys2Proof.Machine

/-! ## Paths -/

@[simp] theorem State.setPath_path (s : State) (p : Path) (x : PathRec) : (s.setPath p x).path p = x := PerPath.get_set_same ..

theorem State.setPath_path_ne (s : State) {p r : Path} (x : PathRec) (h : p ≠ r) : (s.setPath p x).path r = s.path r :=
  PerPath.get_set_ne _ _ h

@[simp] theorem State.setPath_path_p1 (s : State) (x : PathRec) : (s.setPath .p2 x).path .p1 = s.path .p1 := rfl

@[simp] theorem State.setPath_path_p2 (s : State) (x : PathRec) : (s.setPath .p1 x).path .p2 = s.path .p2 := rfl

theorem State.path_of_tun {s t : State} (h : t.tun = s.tun) (p : Path) : t.path p = s.path p := congrArg (fun x => x.path.get p) h

@[simp] theorem State.annSync_path (s : State) (p r : Path) : (s.annSync p).path r = s.path r := State.path_of_tun (by simp) r

@[simp] theorem State.orderHush_path (s : State) (src : Source) (n : Nat) (r : Path) : (s.orderHush src n).path r = s.path r :=
  State.path_of_tun (by simp) r

@[simp] theorem State.liftHush_path (s : State) (src : Source) (r : Path) : (s.liftHush src).path r = s.path r :=
  State.path_of_tun (by simp) r

@[simp] theorem State.setEnt_path (s : State) (z : Zone) (src : Option Source) (r : Path) : (s.setEnt z src).path r = s.path r :=
  State.path_of_tun (by simp) r

@[simp] theorem State.mapSta_path (s : State) (f : Table → Table) (r : Path) : (s.mapSta f).path r = s.path r := rfl

@[simp] theorem State.dropAssoc_path (s : State) (p r : Path) : (s.dropAssoc p).path r = s.path r := rfl

@[simp] theorem State.raise_path (s : State) (n : Notice) (r : Path) : (s.raise n).path r = s.path r := rfl

@[simp] theorem State.mapScan_path (s : State) (f : Scan → Scan) (r : Path) : (s.mapScan f).path r = s.path r := rfl

@[simp] theorem State.endWindow_tun (s : State) : s.endWindow.tun = s.tun := by
  unfold State.endWindow
  split <;> rfl

@[simp] theorem State.endWindow_path (s : State) (r : Path) : s.endWindow.path r = s.path r := State.path_of_tun (by simp) r

@[simp] theorem State.cancelTrial_path (s : State) (r : Path) : s.cancelTrial.path r = s.path r := rfl

@[simp] theorem State.enterRear_path (s : State) (st : Station) (r : Path) : (s.enterRear st).path r = s.path r := by
  unfold State.enterRear
  dsimp only
  split <;> simp

/-! ## What stands of P1 -/

/-- P1, its seek, its peek and its hold count stand, RADIO_1's hush stays, no flag falls, and no AF check begins. -/
structure KeepsFront (s t : State) : Prop where
  hush : HushStays s t
  p1 : t.path .p1 = s.path .p1
  seek : t.tun.seek = s.tun.seek
  peek : t.tun.peek = s.tun.peek
  holdCount : t.tun.holdCount = s.tun.holdCount
  holdDue : t.tun.holdDue = s.tun.holdDue
  check : s.tun.check = none → t.tun.check = none

theorem KeepsFront.of_tun {s t : State} (hush : HushStays s t) (tun : t.tun = s.tun) : KeepsFront s t :=
  ⟨hush, State.path_of_tun tun .p1, by rw [tun], by rw [tun], by rw [tun], by rw [tun], fun h => by rw [tun, h]⟩

theorem KeepsFront.refl (s : State) : KeepsFront s s := .of_tun (.refl s) rfl

theorem KeepsFront.trans {s t u : State} (h : KeepsFront s t) (h' : KeepsFront t u) : KeepsFront s u :=
  ⟨h.hush.trans h'.hush, h'.p1.trans h.p1, h'.seek.trans h.seek, h'.peek.trans h.peek, h'.holdCount.trans h.holdCount,
    h'.holdDue.trans h.holdDue, fun hc => h'.check (h.check hc)⟩

theorem KeepsFront.mapSta (s : State) (f : Table → Table) : KeepsFront s (s.mapSta f) := .of_tun (.of_rest rfl rfl) rfl

theorem KeepsFront.mapScan (s : State) (f : Scan → Scan) : KeepsFront s (s.mapScan f) := .of_tun (.of_rest rfl rfl) rfl

theorem KeepsFront.raise (s : State) (n : Notice) : KeepsFront s (s.raise n) := .of_tun (.raise s n) rfl

theorem KeepsFront.setPath (s : State) (x : PathRec) : KeepsFront s (s.setPath .p2 x) :=
  ⟨.of_rest rfl rfl, rfl, rfl, rfl, rfl, rfl, id⟩

theorem State.annSync_front (s : State) (p : Path) : KeepsFront s (s.annSync p) := .of_tun (s.annSync_hush p) (by simp)

theorem State.setEnt_front (s : State) (z : Zone) (src : Option Source) : KeepsFront s (s.setEnt z src) :=
  .of_tun (s.setEnt_hush z src) (by simp)

theorem State.setWish_front (s : State) (z : Zone) (w : Wish) : KeepsFront s (s.setWish z w) := by
  unfold State.setWish
  split <;> exact ⟨.of_rest rfl rfl, rfl, rfl, rfl, rfl, rfl, id⟩

theorem State.endWindow_front (s : State) : KeepsFront s s.endWindow := by
  refine .of_tun ?_ s.endWindow_tun
  unfold State.endWindow
  split <;> exact .of_rest rfl rfl

theorem State.cancelTrial_front (s : State) : KeepsFront s s.cancelTrial :=
  ⟨.of_rest rfl rfl, rfl, rfl, rfl, rfl, rfl, fun h => by simp [State.cancelTrial, h]⟩

/-! ## P2's tunes and its plan -/

theorem State.startTune_front (s : State) (st : Station) : KeepsFront s (s.startTune .p2 st) := by
  have begun (x : PathRec) : KeepsFront s ((s.setPath .p2 x).dropAssoc .p2) := (KeepsFront.setPath s x).trans (.mapSta ..)
  unfold State.startTune State.beginTune
  dsimp only
  split
  · exact .setPath ..
  · exact .setPath ..
  · rw [if_neg (show ¬ Path.p2 = Path.p1 by decide)]
    split
    · have hushed (t : State) : KeepsFront t (t.orderHush .radio2 5) := .of_tun (.orderHush t (by decide) 5) (by simp)
      exact ((begun _).trans (hushed _)).trans (State.annSync_front ..)
    · exact (begun _).trans (State.annSync_front ..)

theorem State.enterRear_front (s : State) (st : Station) : KeepsFront s (s.enterRear st) := by
  have entered : KeepsFront s s.endWindow.cancelTrial := s.endWindow_front.trans (State.cancelTrial_front _)
  have lifted (t : State) : KeepsFront t (t.liftHush .radio2) := .of_tun (.liftHush t (by decide)) (by simp)
  unfold State.enterRear
  dsimp only
  split
  · exact ((entered.trans (.mapSta ..)).trans (lifted _)).trans (State.annSync_front ..)
  · exact entered

theorem State.setRole_front (s : State) (r : Role) (st : Option Station) : KeepsFront s (s.setRole r st) := by
  have left (x : PathRec) : KeepsFront s
      (if (s.path .p2).role = .rear then ((s.setPath .p2 x).dropAssoc .p2).annSync .p2 else s.setPath .p2 x) := by
    split
    · exact ((KeepsFront.setPath s x).trans (.mapSta ..)).trans (State.annSync_front ..)
    · exact .setPath ..
  unfold State.setRole
  dsimp only
  split
  · exact .refl s
  · split
    · exact (left _).trans (State.enterRear_front ..)
    · exact left _

theorem State.sendP2_front (s : State) (st : Option Station) : KeepsFront s (s.sendP2 st) := by
  unfold State.sendP2
  dsimp only
  split
  · split
    · exact .refl s
    · exact s.startTune_front _
  · split
    · exact .refl s
    · exact .setPath ..

theorem State.planP2_front (s : State) : KeepsFront s s.planP2 := (s.setRole_front _ _).trans (State.sendP2_front ..)

theorem State.replan_of_none {s : State} (h : s.tun.check = none) : s.replan = s.planP2 := by
  rw [State.replan, State.afAdvance, s.planP2_front.check h]

theorem State.scanAfterAf_front (s : State) : KeepsFront s s.scanAfterAf := by
  have named (t : State) : KeepsFront t t.nameVisit := by
    unfold State.nameVisit
    dsimp only
    split
    · exact (t.setRole_front _ _).trans (State.startTune_front ..)
    · exact (t.setRole_front _ _).trans (State.sendP2_front ..)
  unfold State.scanAfterAf
  split
  · split
    · exact (KeepsFront.mapScan s _).trans (named _)
    · exact (KeepsFront.mapScan s _).trans (.mapScan ..)
  · exact .refl s

/-- R115: a check that ends leaves P1 as it is, with its hold count empty. -/
theorem State.finishCheck_front (s : State) :
    KeepsFront (s.mapTun (fun t => { t.emptyHold with check := none })) s.finishCheck :=
  (State.planP2_front _).trans (State.scanAfterAf_front _)

/-- R115: after an abandoned check none runs, and P1, its seek, its peek and its hush stand. -/
structure Abandons (s t : State) : Prop where
  hush : HushStays s t
  p1 : t.path .p1 = s.path .p1
  seek : t.tun.seek = s.tun.seek
  peek : t.tun.peek = s.tun.peek
  check : t.tun.check = none
  hold : s.tun.holdCount = 0 → s.tun.holdDue = false → t.tun.holdCount = 0 ∧ t.tun.holdDue = false

theorem HushStays.mapTun (s : State) (f : Tuner → Tuner) : HushStays s (s.mapTun f) := .of_rest rfl rfl

theorem State.abandonCheck_of_none {s : State} (h : s.tun.check = none) : s.abandonCheck = s := by
  rw [State.abandonCheck, h]

theorem State.abandonCheck_abandons (s : State) : Abandons s s.abandonCheck := by
  unfold State.abandonCheck
  split
  next h => exact ⟨.refl s, rfl, rfl, rfl, h, fun hc hd => ⟨hc, hd⟩⟩
  next =>
    have finished := s.finishCheck_front
    exact ⟨(HushStays.mapTun ..).trans finished.hush, finished.p1, finished.seek, finished.peek, finished.check rfl,
      fun _ _ => ⟨finished.holdCount, finished.holdDue⟩⟩

theorem State.countDevice_front (old s : State) : KeepsFront s (State.countDevice old s) := by
  unfold State.countDevice
  dsimp only
  split
  · exact (KeepsFront.mapSta ..).trans (.raise ..)
  · exact .mapSta ..

/-! ## The scan -/

/-- Where no scan window runs or waits, the scan stands. -/
structure ScanStays (s t : State) : Prop where
  scan : s.scan.window = none → s.scan.waiting = false → t.scan = s.scan

theorem ScanStays.of_scan {s t : State} (h : t.scan = s.scan) : ScanStays s t := ⟨fun _ _ => h⟩

theorem ScanStays.refl (s : State) : ScanStays s s := .of_scan rfl

theorem ScanStays.trans {s t u : State} (h : ScanStays s t) (h' : ScanStays t u) : ScanStays s u := ⟨fun window waiting => by
  have same := h.scan window waiting
  rw [h'.scan (by rw [same, window]) (by rw [same, waiting]), same]⟩

theorem ScanStays.mapTun (s : State) (f : Tuner → Tuner) : ScanStays s (s.mapTun f) := .of_scan rfl

theorem State.endWindow_scan (s : State) : ScanStays s s.endWindow := ⟨fun window _ => by rw [State.endWindow, window]⟩

theorem State.beginTune_scan (s : State) (p : Path) (st : Station) : (s.beginTune p st).scan = s.scan := by
  unfold State.beginTune State.dropAssoc State.setPath
  dsimp only
  (repeat' split) <;> simp

theorem State.startTune_scan (s : State) (p : Path) (st : Station) : ScanStays s (s.startTune p st) := by
  unfold State.startTune
  dsimp only
  split
  · exact .of_scan rfl
  · exact .of_scan rfl
  · exact .of_scan (s.beginTune_scan p st)

theorem State.enterRear_scan (s : State) (st : Station) : ScanStays s (s.enterRear st) := by
  have cut : ScanStays s s.endWindow.cancelTrial := s.endWindow_scan.trans (.of_scan rfl)
  unfold State.enterRear
  dsimp only
  split
  · exact cut.trans (.of_scan (by simp))
  · exact cut

theorem State.setRole_scan (s : State) (r : Role) (st : Option Station) : ScanStays s (s.setRole r st) := by
  have left (x : PathRec) : ScanStays s
      (if (s.path .p2).role = .rear then ((s.setPath .p2 x).dropAssoc .p2).annSync .p2 else s.setPath .p2 x) := by
    split
    · exact .of_scan (by simp [State.dropAssoc, State.setPath])
    · exact .of_scan rfl
  unfold State.setRole
  dsimp only
  split
  · exact .refl s
  · split
    · exact (left _).trans (State.enterRear_scan ..)
    · exact left _

theorem State.planP2_scan (s : State) : ScanStays s s.planP2 := by
  have sent (t : State) (st : Option Station) : ScanStays t (t.sendP2 st) := by
    unfold State.sendP2
    dsimp only
    split
    · split
      · exact .refl t
      · exact t.startTune_scan _ _
    · split
      · exact .refl t
      · exact .of_scan rfl
  exact (s.setRole_scan _ _).trans (sent ..)

theorem State.finishCheck_scan (s : State) : ScanStays s s.finishCheck := by
  have waited (t : State) : ScanStays t t.scanAfterAf := ⟨fun _ waiting => by
    rw [State.scanAfterAf, waiting]
    rfl⟩
  exact ((ScanStays.mapTun ..).trans (State.planP2_scan _)).trans (waited _)

theorem State.resolveWishes_scan (s : State) : s.resolveWishes.scan = s.scan := by
  unfold State.resolveWishes State.joinP1 State.takeP2 State.followCabin State.setWish
  dsimp only
  (repeat' split) <;> simp

theorem State.judge_scan (s : State) (c : AfCheck) (f q : Nat) (code : Option Nat) : ScanStays s (s.judge c f q code).1 := by
  unfold State.judge State.switchTo
  dsimp only
  split
  · refine ScanStays.trans ?_ (State.finishCheck_scan _)
    refine ScanStays.trans ?_ (State.startTune_scan ..)
    exact .of_scan (State.resolveWishes_scan _)
  · exact .of_scan rfl

theorem State.beginTrial_scan (s : State) (c : AfCheck) (f : Nat) : ScanStays s (s.beginTrial c f) := by
  have begun (g : Tuner → Tuner) : ScanStays s ((s.mapTun g).endWindow).planP2 :=
    ((ScanStays.mapTun s g).trans (State.endWindow_scan _)).trans (State.planP2_scan _)
  unfold State.beginTrial
  dsimp only
  split
  · exact (begun _).trans (.of_scan rfl)
  · exact begun _

theorem State.afTry_scan (l : List Nat) (s : State) : ScanStays s (State.afTry l s) := by
  induction l generalizing s with
  | nil =>
    unfold State.afTry
    split
    · exact s.finishCheck_scan
    · exact .refl s
  | cons f fs ih =>
    unfold State.afTry
    dsimp only
    split
    · exact .refl s
    · split
      · split
        · exact s.judge_scan ..
        · exact (s.judge_scan ..).trans (ih _)
      · split
        · exact s.beginTrial_scan ..
        · exact .refl s

theorem State.replan_scan (s : State) : ScanStays s s.replan := by
  have advanced (t : State) : ScanStays t t.afAdvance := by
    unfold State.afAdvance
    split
    · exact .refl t
    · split
      · exact .refl t
      · exact State.afTry_scan ..
  exact s.planP2_scan.trans (advanced _)

end Sys2Proof.Machine
end

section
/-! SUPPORT. The frames of the tuner's requests, and a step that changes no record of the station table. -/

namespace Sys2Proof.Machine

theorem TunerFrame.trans {s t u : State} (h : TunerFrame s t) (h' : TunerFrame t u) : TunerFrame s u := by
  simp_all only [TunerFrame, and_self]

theorem tunerFrame_of_claim {s t : State} (h : ClaimFrame s t) : TunerFrame s t := by
  simp_all only [TunerFrame, ClaimFrame, and_self]

/-- A request that passes its gate, with an effect within the frame of the tuner's operations. -/
theorem answers_tunerFrame {c : Instr} {s v : State} (cls verb : Nat) {g : Gate} {code q : Byte} {body : State → Reply × State}
    {r : Reply} (hp : s.port.resetPending = false) (hg : gateRefusal g s = none) (he : exec c s = serve cls verb q g s body)
    (hc : codeByte cls verb = code) (hb : body s.taking = (r, v)) (frame : TunerFrame s.taking v) :
    Answers c s (s.untaken v) code q r ∧ TunerFrame s (s.untaken v) :=
  ⟨answers_effect cls verb hp hg he hc hb (by simp_all only [TunerFrame]) (by simp_all only [TunerFrame]), frame.untaken⟩

/-! ## Nothing changed (R120) -/

theorem StaSlot.changed_self (x : StaSlot) : StaSlot.changed x x = false := by simp [StaSlot.changed]

theorem countSlots_self (l : List StaSlot) : countSlots l l = l := by
  induction l with
  | nil => rfl
  | cons x xs ih => simp [countSlots, ih, StaSlot.changed_self]

theorem anyChanged_self (l : List StaSlot) : anyChanged l l = false := by
  induction l with
  | nil => rfl
  | cons x xs ih => simp [anyChanged, ih, StaSlot.changed_self]

theorem keepReservation_self (l : List StaSlot) (r : Option (Nat × BitVec 16)) : keepReservation l l r = r := by
  unfold keepReservation
  split
  · rfl
  · split
    next h h' => simp_all [StaSlot.changed_self]
    next => rfl

/-- A step that leaves the slots as they are has nothing counted. -/
theorem State.countDevice_of_slots {s u : State} (h : u.sta.slots = s.sta.slots) : State.countDevice s u = u := by
  unfold State.countDevice
  simp only [h, anyChanged_self, Bool.false_eq_true, if_false, State.mapSta, Table.count, countSlots_self, keepReservation_self]
  rw [← h]

theorem State.countDevice_self (s : State) : State.countDevice s s = s := State.countDevice_of_slots rfl

theorem State.countDevice_tun (old s : State) : (State.countDevice old s).tun = s.tun := by
  unfold State.countDevice
  dsimp only
  split <;> rfl

theorem State.countDevice_scan (old s : State) : (State.countDevice old s).scan = s.scan := by
  unfold State.countDevice
  dsimp only
  split <;> rfl

@[simp] theorem State.countDevice_path (old s : State) (p : Path) : (State.countDevice old s).path p = s.path p :=
  State.path_of_tun (State.countDevice_tun old s) p

end Sys2Proof.Machine
end

section
/-! SUPPORT. TUNER.FLAGS and TUNER.CONFIG (R112). -/

namespace Sys2Proof.Machine

/-! ## What follows a change of each flag -/

def State.withFlags (s : State) (f : TunerFlags) : State := s.mapTun (fun t => { t with flags := f })

def State.afFollows (s : State) (old f : TunerFlags) : State := if old.af ∧ f.af = false then s.afCleared else s

def State.scanFollows (s : State) (old f : TunerFlags) : State :=
  if old.scan ∧ f.scan = false then s.scanCleared else if old.scan = false ∧ f.scan then s.scanSet else s

def State.planFollows (s : State) (old f : TunerFlags) : State :=
  if old.diversity = f.diversity ∧ old.scan = f.scan then s else s.replan

def State.taFollows (s : State) (old f : TunerFlags) : State :=
  if old.ta = f.ta then s else (s.annSync .p1).annSync .p2

theorem State.setFlags_eq (s : State) (f : TunerFlags) :
    s.setFlags f = ((((s.withFlags f).afFollows s.tun.flags f).scanFollows s.tun.flags f).planFollows s.tun.flags f).taFollows
      s.tun.flags f := rfl

theorem State.taFollows_frame (s : State) (old f : TunerFlags) : ClaimFrame s (s.taFollows old f) := by
  unfold State.taFollows
  split <;> simp [ClaimFrame]

theorem State.setFlags_frame (s : State) (f : TunerFlags) : TunerFrame (s.withFlags f) (s.setFlags f) := by
  have af (t : State) (o : TunerFlags) : TunerFrame t (t.afFollows o f) := by
    unfold State.afFollows
    split
    · exact t.afCleared_frame
    · simp [TunerFrame]
  have scan (t : State) (o : TunerFlags) : TunerFrame t (t.scanFollows o f) := by
    unfold State.scanFollows
    split
    · exact t.scanCleared_frame
    · split
      · exact t.scanSet_frame
      · simp [TunerFrame]
  have plan (t : State) (o : TunerFlags) : TunerFrame t (t.planFollows o f) := by
    unfold State.planFollows
    split
    · simp [TunerFrame]
    · exact t.replan_frame
  exact (((af _ _).trans (scan _ _)).trans (plan _ _)).trans (tunerFrame_of_claim (State.taFollows_frame ..))

theorem State.taFollows_tun (s : State) (old f : TunerFlags) : (s.taFollows old f).tun = s.tun := by
  unfold State.taFollows
  split <;> simp

theorem State.taFollows_scan (s : State) (old f : TunerFlags) : (s.taFollows old f).scan = s.scan := by
  unfold State.taFollows
  split <;> simp

theorem State.scanFollows_tun (s : State) (old f : TunerFlags) : (s.scanFollows old f).tun = s.tun := by
  unfold State.scanFollows State.scanSet
  (repeat' split) <;> rfl

/-- R112: the flags that stand already. -/
theorem State.setFlags_same (s : State) : s.setFlags s.tun.flags = s := by
  have af : ¬ (s.tun.flags.af = true ∧ s.tun.flags.af = false) := by simp
  have cleared : ¬ (s.tun.flags.scan = true ∧ s.tun.flags.scan = false) := by simp
  have set : ¬ (s.tun.flags.scan = false ∧ s.tun.flags.scan = true) := by simp
  simp only [State.setFlags_eq, State.afFollows, if_neg af, State.scanFollows, if_neg cleared, if_neg set, State.planFollows,
    and_self, if_true, State.taFollows]
  rfl

theorem State.planFollows_front {s : State} (h : s.tun.check = none) (old f : TunerFlags) : KeepsFront s (s.planFollows old f) := by
  unfold State.planFollows
  split
  · exact .refl s
  · rw [State.replan_of_none h]
    exact s.planP2_front

theorem State.planFollows_scan (s : State) (old f : TunerFlags) : ScanStays s (s.planFollows old f) := by
  unfold State.planFollows
  split
  · exact .refl s
  · exact s.replan_scan

/-- R112: AF enable is cleared: the check ends and the hold count is empty. -/
theorem State.setFlags_af {s : State} {f : TunerFlags} (on : s.tun.flags.af = true) (off : f.af = false) :
    (s.setFlags f).tun.check = none ∧ (s.setFlags f).tun.holdCount = 0 ∧ (s.setFlags f).tun.holdDue = false := by
  have cleared : (s.withFlags f).afFollows s.tun.flags f = (s.withFlags f).afCleared := if_pos ⟨on, off⟩
  have ended : Abandons ((s.withFlags f).mapTun Tuner.emptyHold) (s.withFlags f).afCleared := State.abandonCheck_abandons _
  have scanned := (s.withFlags f).afCleared.scanFollows_tun s.tun.flags f
  have planned := State.planFollows_front (by rw [scanned, ended.check]) s.tun.flags f
  have ⟨count, due⟩ := ended.hold rfl rfl
  rw [State.setFlags_eq, cleared, State.taFollows_tun, planned.holdCount, planned.holdDue, scanned]
  exact ⟨planned.check (by rw [scanned, ended.check]), count, due⟩

/-- R128, R131: scan enable is cleared: the window and its timer end. -/
theorem State.setFlags_scanCleared {s : State} {f : TunerFlags} (on : s.tun.flags.scan = true) (off : f.scan = false) :
    (s.setFlags f).scan.window = none ∧ (s.setFlags f).scan.timer = none ∧ (s.setFlags f).scan.waiting = false := by
  have cleared (t : State) : t.scanFollows s.tun.flags f = t.scanCleared := if_pos ⟨on, off⟩
  have planned (t : State) := (t.scanCleared.planFollows_scan s.tun.flags f).scan rfl rfl
  rw [State.setFlags_eq, cleared, State.taFollows_scan, planned]
  exact ⟨rfl, rfl, rfl⟩

/-- R128: scan enable is set while no timer and no window runs and none waits: the timer starts. -/
theorem State.setFlags_scanSet {s : State} {f : TunerFlags} (off : s.tun.flags.scan = false) (on : f.scan = true)
    (timer : s.scan.timer = none) (window : s.scan.window = none) (waiting : s.scan.waiting = false) :
    (s.setFlags f).scan.timer = some (s.scan.interval * 1000) := by
  have kept : ((s.withFlags f).afFollows s.tun.flags f).scan = s.scan := by
    unfold State.afFollows
    split
    · have ended (t : State) : ScanStays t t.abandonCheck := by
        unfold State.abandonCheck
        split
        · exact .refl t
        · exact t.finishCheck_scan
      exact (ended _).scan window waiting
    · rfl
  have set (t : State) (h : t.scan = s.scan) : t.scanFollows s.tun.flags f = t.startInterval := by
    simp [State.scanFollows, State.scanSet, off, on, h, timer, window, waiting]
  have planned (t : State) (h : t.scan = s.scan) :=
    (t.startInterval.planFollows_scan s.tun.flags f).scan (show t.scan.window = none by rw [h, window])
      (show t.scan.waiting = false by rw [h, waiting])
  rw [State.setFlags_eq, set _ kept, State.taFollows_scan, planned _ kept]
  change some (((s.withFlags f).afFollows s.tun.flags f).scan.interval * 1000) = _
  rw [kept]

/-! ## The requests -/

theorem exec_tunerFlags (q : Byte) (op : Option SetOp) (named : TunerFlags) (s : State) :
    exec (.tunerFlags q op named) s = execTunerFlags q op named s := rfl

theorem exec_tunerConfig (q : Byte) (a b c d : Nat) (s : State) :
    exec (.tunerConfig q a b c d) s = execTunerConfig q a b c d s := rfl

theorem clampNat_eq {a b : Nat} (h : a ≤ b) (x : Nat) : clampNat a b x = max a (min b x) := by
  unfold clampNat
  (repeat' split) <;> omega

/-- Settles O42. -/
theorem tunerFlagsAndSettings : Obligations.TunerFlagsAndSettings := by
  refine ⟨fun s q op named hs => ?_, fun s q named hs => answers_runOnly 5 2 hs (exec_tunerFlags ..) rfl rfl,
    fun s q a b c d hs => ?_⟩
  · intro e o f
    have edited : TunerFlags.edit op o named = f := by cases op <;> rfl
    have frame : TunerFrame (s.taking.withFlags f) (State.countDevice s.taking (s.taking.setFlags f)) :=
      (s.taking.setFlags_frame f).trans (State.countDevice_frame ..)
    have answer := answers_effect 5 2 hs.2 hs.gate (exec_tunerFlags q (some op) named s) rfl
      (v := State.countDevice s.taking (s.taking.setFlags f)) (r := .done (.tunerFlags f))
      (by rw [← edited]; rfl) (by simp_all only [TunerFrame]; rfl) (by simp_all only [TunerFrame]; rfl)
    have tun : (s.untaken (State.countDevice s.taking (s.taking.setFlags f))).tun = (s.taking.setFlags f).tun :=
      State.countDevice_tun ..
    have scan : (s.untaken (State.countDevice s.taking (s.taking.setFlags f))).scan = (s.taking.setFlags f).scan :=
      State.countDevice_scan ..
    refine ⟨_, answer, TunerFrame.untaken (s := s.withFlags f) frame, fun same => ?_, fun on off => ?_, fun on off => ?_,
      fun off on timer window waiting => ?_⟩
    · have stays : s.taking.setFlags f = s.taking := by rw [same]; exact s.taking.setFlags_same
      rw [stays, State.countDevice_self, s.untaken_taking]
    · rw [tun]
      exact State.setFlags_af on off
    · rw [scan]
      exact State.setFlags_scanCleared on off
    · rw [scan]
      exact State.setFlags_scanSet (s := s.taking) off on timer window waiting
  · intro t
    have clamped : (⟨min a 100, clampNat 500 10000 b, min c 50, min d 100⟩ : TunerSettings) = t := by
      rw [clampNat_eq (by decide)]
    refine answers_portless 5 3 hs (exec_tunerConfig q a b c d s) rfl
      (v := s.taking.mapTun (fun u => { u with settings := t })) ?_ rfl
    rw [← clamped]
    rfl

end Sys2Proof.Machine
end

section
/-! SUPPORT. A tune of P1 (R103), and where the plan sends P2 (R109). -/

namespace Sys2Proof.Machine

/-! ## A tune order (R103) -/

/-- R103: a tune order names the station, and the path is in TUNING. -/
theorem State.startTune_started (s : State) (p : Path) (st : Station) :
    ((s.startTune p st).path p).station = st ∧ ((s.startTune p st).path p).state = .tuning ∧
      ((s.startTune p st).path p).role = (s.path p).role := by
  unfold State.startTune State.beginTune
  dsimp only
  split
  next h _ => simp [h]
  next => simp [PathRec.command]
  next =>
    generalize (if p = .p1 then s.mapTun Tuner.emptyHold else s) = t
    split
    · simp [PathRec.fadeFirst, PathRec.cleared]
    · simp [PathRec.command, PathRec.cleared]

/-- What a tune of P1 leaves: P2, and P1's seek, peek and AF check. -/
structure TunesFront (s t : State) : Prop where
  p2 : t.path .p2 = s.path .p2
  seek : t.tun.seek = s.tun.seek
  peek : t.tun.peek = s.tun.peek
  check : t.tun.check = s.tun.check
  flags : ∀ n, s.port.flags.getLsbD n = true → t.port.flags.getLsbD n = true

theorem TunesFront.trans {s t u : State} (h : TunesFront s t) (h' : TunesFront t u) : TunesFront s u :=
  ⟨h'.p2.trans h.p2, h'.seek.trans h.seek, h'.peek.trans h.peek, h'.check.trans h.check, fun n x => h'.flags n (h.flags n x)⟩

theorem TunesFront.of_tun {s t : State} (tun : t.tun = s.tun)
    (flags : ∀ n, s.port.flags.getLsbD n = true → t.port.flags.getLsbD n = true) : TunesFront s t :=
  ⟨State.path_of_tun tun _, by rw [tun], by rw [tun], by rw [tun], flags⟩

theorem TunesFront.setPath (s : State) (x : PathRec) : TunesFront s (s.setPath .p1 x) := ⟨rfl, rfl, rfl, rfl, fun _ h => h⟩

theorem TunesFront.emptyHold (s : State) : TunesFront s (s.mapTun Tuner.emptyHold) := ⟨rfl, rfl, rfl, rfl, fun _ h => h⟩

theorem TunesFront.annSync (s : State) (p : Path) : TunesFront s (s.annSync p) := .of_tun (by simp) (s.annSync_hush p).flags

theorem State.startTune_tunes (s : State) (st : Station) : TunesFront s (s.startTune .p1 st) := by
  have begun (x : PathRec) : TunesFront s (((s.mapTun Tuner.emptyHold).setPath .p1 x).dropAssoc .p1) :=
    ((TunesFront.emptyHold s).trans (.setPath ..)).trans (.of_tun rfl fun _ h => h)
  have hushed (t : State) : TunesFront t (t.orderHush .radio1 5) :=
    .of_tun (by simp) (t.orderHush_work .radio1 5).tells.flags
  unfold State.startTune State.beginTune
  dsimp only
  split
  · exact .setPath ..
  · exact .setPath ..
  · rw [if_pos rfl]
    split
    · exact ((begun _).trans (hushed _)).trans (.annSync ..)
    · exact (begun _).trans (.annSync ..)

/-- R103: from LOCKED, with RADIO_1 not hushed, the fade of 6 ms comes first. -/
theorem State.startTune_fades {s : State} (locked : (s.path .p1).state = .locked) (open' : s.rend.hush.radio1 = false) (st : Station) :
    ((s.startTune .p1 st).path .p1).phase = some .fading ∧ ((s.startTune .p1 st).path .p1).wait = some 6 ∧
      (s.startTune .p1 st).rend.hush.radio1 = true := by
  have tuned : s.startTune .p1 st = (((((s.mapTun Tuner.emptyHold).setPath .p1
      ({ (s.path .p1).cleared with station := st } : PathRec).fadeFirst).dropAssoc .p1).orderHush .radio1 5).annSync .p1) := by
    have begun : s.startTune .p1 st = s.beginTune .p1 st := by
      unfold State.startTune
      dsimp only
      rw [locked]
    rw [begun, State.beginTune]
    exact if_pos ⟨rfl, open', by rw [locked]; decide, by rw [locked]; decide⟩
  rw [tuned, (State.annSync_hush ..).hush]
  exact ⟨by simp [PathRec.fadeFirst], by simp [PathRec.fadeFirst], State.orderHush_hush _ .radio1 5⟩

/-! ## Where the plan sends P2 (R109) -/

/-- The other rear zone keeps or needs P2 at no other station. -/
theorem State.plan_of_need {s : State} {z : Zone} {w : Station} (hz : z.rear = true) (on : s.entSource z = some .radio2)
    (wish : s.wish z = .station w)
    (other : s.entSource (otherRear z) = some .radio2 → s.wish (otherRear z) = .station w ∨
      ((∀ x, s.wish (otherRear z) ≠ .station x) ∧ (s.path .p2).station = w)) : s.plan = (.rear, some w) := by
  have need : s.rearNeed z (s.wish z) = some w := by simp [State.rearNeed, on, wish]
  have others : s.rearNeed (otherRear z) (s.wish (otherRear z)) = none ∨ s.rearNeed (otherRear z) (s.wish (otherRear z)) = some w := by
    unfold State.rearNeed
    split
    next h =>
      rcases other h with same | ⟨no, st⟩
      · rw [same]
        exact .inr rfl
      · refine .inr ?_
        split
        next x hx => exact absurd hx (no x)
        next => rw [st]
    next => exact .inl rfl
  unfold State.plan
  cases z with
  | cabin => cases hz
  | driver => cases hz
  | rearL =>
    have first : s.rearNeed .rearL s.tun.wishL = some w := need
    rw [first]
  | rearR =>
    have second : s.rearNeed .rearR s.tun.wishR = some w := need
    rw [second]
    rcases others with no | same
    · have first : s.rearNeed .rearL s.tun.wishL = none := no
      rw [first]
    · have first : s.rearNeed .rearL s.tun.wishL = some w := same
      rw [first]

@[simp] theorem State.setRole_path (s : State) (r : Role) (st : Option Station) :
    (s.setRole r st).path .p2 = { s.path .p2 with role := r } := by
  unfold State.setRole
  dsimp only
  split
  next h => rw [← h]
  next =>
    split
    · rw [State.enterRear_path]
      split <;> simp
    · split <;> simp

/-- R109: P2 has the role of the plan, and where the plan names a station, it is tuned or being tuned to it; a P2 that was already is
left as it is. -/
theorem State.planP2_sent {s : State} {r : Role} {q : Station} (plan : s.plan = (r, some q)) :
    (s.planP2.path .p2).role = r ∧ (s.planP2.path .p2).station = q ∧
      ((s.planP2.path .p2).state = .tuning ∨
        ((s.planP2.path .p2).state = .locked ∧ (s.path .p2).state = .locked ∧ (s.path .p2).station = q)) ∧
      ((s.path .p2).station = q → ((s.path .p2).state = .tuning ∨ (s.path .p2).state = .locked) →
        s.planP2.path .p2 = { s.path .p2 with role := r }) := by
  have ⟨station, state, role⟩ := (s.setRole r (some q)).startTune_started .p2 q
  have role' := s.setRole_path r (some q)
  unfold State.planP2
  rw [plan]
  dsimp only
  unfold State.sendP2
  dsimp only
  rw [role']
  split
  next h =>
    obtain ⟨at_, tuned⟩ := h
    rw [role']
    refine ⟨rfl, at_, ?_, fun _ _ => rfl⟩
    rcases tuned with tuning | locked
    · exact .inl tuning
    · exact .inr ⟨locked, locked, at_⟩
  next h => exact ⟨role.trans (by rw [role']), station, .inl state, fun at_ tuned => absurd ⟨at_, tuned⟩ h⟩

end Sys2Proof.Machine
end

section
/-! SUPPORT. The rear wishes (R107) leave P1 and P2, and a lock of P1 (R103). -/

namespace Sys2Proof.Machine

theorem State.followCabin_front (s : State) (z : Zone) : KeepsFront s (s.followCabin z) :=
  ((s.setWish_front z .cabin).trans (State.setEnt_front ..)).trans (.raise ..)

theorem State.takeP2_front (s : State) (z : Zone) : KeepsFront s (s.takeP2 z) := by
  unfold State.takeP2
  split
  · exact s.followCabin_front z
  · exact s.setEnt_front ..

theorem State.joinP1_front (s : State) (z : Zone) : KeepsFront s (s.joinP1 z) := by
  unfold State.joinP1
  split
  · exact s.setEnt_front ..
  · exact .refl s

theorem State.resolveWishes_front (s : State) : KeepsFront s s.resolveWishes := by
  have joined : KeepsFront s ((s.joinP1 .rearL).joinP1 .rearR) := (s.joinP1_front _).trans (State.joinP1_front ..)
  unfold State.resolveWishes
  dsimp only
  (repeat' split)
  · exact joined
  · exact joined.trans (State.takeP2_front ..)
  · exact joined.trans (State.takeP2_front ..)
  · exact (joined.trans (State.takeP2_front ..)).trans (State.takeP2_front ..)
  · exact (joined.trans (State.followCabin_front ..)).trans (State.takeP2_front ..)
  · exact (joined.trans (State.followCabin_front ..)).trans (State.takeP2_front ..)

theorem State.raise_flag (s : State) {n : Notice} (h : n.num < 64) : (s.raise n).port.flags.getLsbD n.num = true :=
  Port.raise_sets s.port n h

/-- R103, R113: P1 enters LOCKED at its station: TUNED is raised and RADIO_1's hush is lifted; its seek, its peek and its check stand. -/
structure LocksFront (s t : State) : Prop where
  state : (t.path .p1).state = .locked
  station : (t.path .p1).station = (s.path .p1).station
  hush : t.rend.hush.radio1 = false
  tuned : t.port.flags.getLsbD 15 = true
  seek : t.tun.seek = s.tun.seek
  check : t.tun.check = s.tun.check

theorem State.enterLocked_locks (s : State) : LocksFront s (s.enterLocked .p1) := by
  have path (t : State) : ((t.liftHush .radio1).raise .tuned).path .p1 = t.path .p1 := by simp
  have tun (t : State) : ((t.liftHush .radio1).raise .tuned).tun = t.tun := by simp
  have locked : s.enterLocked .p1 = (((s.setPath .p1 { s.path .p1 with
      state := .locked, phase := none, wait := none, retry := 0, retryTimer := none, retrying := false, measured := false }).mapSta
      (·.setAssoc .p1 ⟨none, true⟩)).liftHush .radio1).raise .tuned := rfl
  rw [locked]
  exact ⟨by rw [path]; simp, by rw [path]; simp, State.liftHush_hush _ .radio1, State.raise_flag _ (n := .tuned) (by decide),
    by rw [tun]; rfl, by rw [tun]; rfl⟩

/-- What keeps P1 keeps its lock. -/
theorem LocksFront.keep {s t u : State} (h : LocksFront s t) (h' : KeepsFront t u) (check : s.tun.check = none) :
    LocksFront s u :=
  ⟨by rw [h'.p1, h.state], by rw [h'.p1, h.station], h'.hush.hush.trans h.hush, h'.hush.flags _ h.tuned, h'.seek.trans h.seek,
    by rw [check]; exact h'.check (by rw [h.check, check])⟩

end Sys2Proof.Machine
end

section
/-! SUPPORT. TUNER.SEEK and its steps (R113). -/

namespace Sys2Proof.Machine

/-! ## The next frequency -/

theorem State.seekNext_of_free {s : State} {d : SeekDir} (h : (s.path .p2).role ≠ .rear ∨
    (s.path .p2).station ≠ ⟨(s.path .p1).station.band, Band.next (s.path .p1).station.band d (s.path .p1).station.freq⟩) :
    s.seekNext d = Band.next (s.path .p1).station.band d (s.path .p1).station.freq :=
  if_neg fun ⟨rear, at_⟩ => h.elim (absurd rear) (absurd at_)

theorem State.seekNext_of_taken {s : State} {d : SeekDir} (rear : (s.path .p2).role = .rear)
    (at_ : (s.path .p2).station = ⟨(s.path .p1).station.band, Band.next (s.path .p1).station.band d (s.path .p1).station.freq⟩) :
    s.seekNext d = Band.next (s.path .p1).station.band d
      (Band.next (s.path .p1).station.band d (s.path .p1).station.freq) :=
  if_pos ⟨rear, at_⟩

theorem Band.next_ne (b : Band) (d : SeekDir) (f : Nat) : Band.next b d f ≠ f := by
  have ends : Band.lo b < Band.hi b ∧ 0 < Band.step b ∧ Band.step b ≤ Band.lo b := by cases b <;> decide
  cases d <;> unfold Band.next <;> dsimp only <;> split <;> omega

/-- R113: the next step would pass over the start, which P2 has in REAR. -/
theorem State.seekOver_iff (s : State) (k : Seek) : s.seekOver k = true ↔
    Band.next (s.path .p1).station.band k.dir (s.path .p1).station.freq = k.start ∧ (s.path .p2).role = .rear ∧
      (s.path .p2).station = ⟨(s.path .p1).station.band, k.start⟩ := by
  simp only [State.seekOver, Bool.and_eq_true, beq_iff_eq, bne_iff_ne]
  constructor
  · rintro ⟨next, passes⟩
    refine ⟨next, ?_⟩
    by_contra free
    have direct : s.seekNext k.dir = _ := State.seekNext_of_free (by rw [next]; exact not_and_or.mp free)
    exact passes (direct.trans next)
  · rintro ⟨next, rear, at_⟩
    refine ⟨next, ?_⟩
    rw [State.seekNext_of_taken rear (by rw [next, at_]), next]
    exact Band.next_ne _ _ _

/-! ## The grid -/

/-- A frequency of the band's grid. -/
def Band.onGrid (b : Band) (g : Nat) : Prop := Band.lo b ≤ g ∧ g ≤ Band.hi b ∧ Band.step b ∣ g - Band.lo b

/-- The number of grid values. -/
def Band.values (b : Band) : Nat := (Band.hi b - Band.lo b) / Band.step b + 1

def Band.place (b : Band) (g : Nat) : Nat := (g - Band.lo b) / Band.step b

/-- The grid steps from a frequency on to the start. -/
def Band.left (b : Band) (d : SeekDir) (start g : Nat) : Nat :=
  match d with
  | .up => (Band.place b start + Band.values b - Band.place b g) % Band.values b
  | .down => (Band.place b g + Band.values b - Band.place b start) % Band.values b

/-- R113: a step stays on the grid and leaves one grid step fewer to the start. -/
theorem Band.next_left {b : Band} {d : SeekDir} {f start : Nat} (hf : Band.onGrid b f) (hs : Band.onGrid b start) (ne : f ≠ start) :
    Band.onGrid b (Band.next b d f) ∧ Band.left b d start (Band.next b d f) < Band.left b d start f := by
  obtain ⟨lo, hi, i, hi'⟩ := hf
  obtain ⟨lo', hi'', j, hj⟩ := hs
  unfold Band.onGrid Band.left Band.next
  cases d <;> dsimp only <;> split <;> cases b <;> simp only [Band.place, Band.values, Band.lo, Band.hi, Band.step] at * <;> omega

theorem Band.values_eq (b : Band) : Band.values b = match b with | .fm => 411 | .am => 133 := by cases b <;> rfl

/-- R113: so does a step that passes over P2's station, unless that is the start. -/
theorem State.seekNext_left {s : State} {d : SeekDir} {start : Nat}
    (hf : Band.onGrid (s.path .p1).station.band (s.path .p1).station.freq) (hs : Band.onGrid (s.path .p1).station.band start)
    (ne : (s.path .p1).station.freq ≠ start)
    (passed : ¬ (Band.next (s.path .p1).station.band d (s.path .p1).station.freq = start ∧ (s.path .p2).role = .rear ∧
      (s.path .p2).station = ⟨(s.path .p1).station.band, start⟩)) :
    Band.onGrid (s.path .p1).station.band (s.seekNext d) ∧
      Band.left (s.path .p1).station.band d start (s.seekNext d) <
        Band.left (s.path .p1).station.band d start (s.path .p1).station.freq := by
  obtain ⟨grid, fewer⟩ := Band.next_left (d := d) hf hs ne
  by_cases taken : (s.path .p2).role = .rear ∧
      (s.path .p2).station = ⟨(s.path .p1).station.band, Band.next (s.path .p1).station.band d (s.path .p1).station.freq⟩
  · have ne' : Band.next (s.path .p1).station.band d (s.path .p1).station.freq ≠ start := fun next =>
      passed ⟨next, taken.1, by rw [taken.2, next]⟩
    obtain ⟨grid', fewer'⟩ := Band.next_left (d := d) grid hs ne'
    rw [State.seekNext_of_taken taken.1 taken.2]
    exact ⟨grid', fewer'.trans fewer⟩
  · rw [State.seekNext_of_free (not_and_or.mp taken)]
    exact ⟨grid, fewer⟩

/-! ## The entry to SEEKING -/

/-- R113: P1's record in SEEKING, before the first step. -/
def PathRec.seeking (x : PathRec) : PathRec :=
  { x with state := .seeking, phase := none, wait := none, retry := 0, retryTimer := none, retrying := false,
           decoded := Decoded.absent }

/-- R113: RADIO_1 is hushed and P1 is in SEEKING, before the first step. -/
def State.seekEntered (s : State) : State :=
  ((((s.setPath .p1 (s.path .p1).seeking).mapTun Tuner.emptyHold).dropAssoc .p1).orderHush .radio1 5).annSync .p1

theorem State.enterSeek_eq (s : State) (d : SeekDir) :
    let t := (s.mapTun (fun u => { u with seek := none, peek := none })).abandonCheck
    s.enterSeek d = (t.seekEntered.seekStep ⟨d, (t.path .p1).station.freq, false⟩).replan := rfl

/-- R113 steps 1 and 2. -/
theorem State.seekStep_spec (s : State) (k : Seek) :
    (s.seekStep k).path .p1 = { s.path .p1 with
      station := ⟨(s.path .p1).station.band, s.seekNext k.dir⟩, wait := some 20, retry := 0 } ∧
    (s.seekStep k).tun.seek = some { k with settling := false } ∧ (s.seekStep k).tun.peek = s.tun.peek ∧
    (s.seekStep k).tun.check = s.tun.check ∧ (s.seekStep k).rend = s.rend := ⟨rfl, rfl, rfl, rfl, rfl⟩

theorem State.seekEntered_path (s : State) :
    s.seekEntered.path .p1 = (s.path .p1).seeking ∧ s.seekEntered.path .p2 = s.path .p2 := by
  have tun (t : State) : ((t.orderHush .radio1 5).annSync .p1).tun = t.tun := by simp
  exact ⟨State.path_of_tun (tun _) .p1, State.path_of_tun (tun _) .p2⟩

theorem State.seekEntered_rest (s : State) : s.seekEntered.tun.check = s.tun.check ∧ s.seekEntered.tun.peek = s.tun.peek ∧
    s.seekEntered.rend.hush.radio1 = true := by
  have tun (t : State) : ((t.orderHush .radio1 5).annSync .p1).tun = t.tun := by simp
  refine ⟨by rw [State.seekEntered, tun]; rfl, by rw [State.seekEntered, tun]; rfl, ?_⟩
  exact (State.annSync_hush _ .p1).hush.trans (State.orderHush_hush _ .radio1 5)

/-- R113: P1 seeks at the next frequency, with RADIO_1 hushed; no check and no peek runs. -/
theorem State.enterSeek_seeks (s : State) (d : SeekDir) :
    ((s.enterSeek d).path .p1).state = .seeking ∧ ((s.enterSeek d).path .p1).wait = some 20 ∧
      (s.enterSeek d).rend.hush.radio1 = true ∧ (s.enterSeek d).tun.check = none ∧ (s.enterSeek d).tun.peek = none ∧
      (s.tun.check = none → (s.enterSeek d).tun.seek = some ⟨d, (s.path .p1).station.freq, false⟩ ∧
        ((s.enterSeek d).path .p1).station.freq = s.seekNext d) := by
  have abandoned := (s.mapTun (fun u => { u with seek := none, peek := none })).abandonCheck_abandons
  have still (h : s.tun.check = none) := (s.mapTun (fun u => { u with seek := none, peek := none })).abandonCheck_of_none h
  rw [State.enterSeek_eq]
  generalize (s.mapTun (fun u => { u with seek := none, peek := none })).abandonCheck = t at abandoned still
  obtain ⟨check, peek, hush⟩ := t.seekEntered_rest
  obtain ⟨front, rear⟩ := t.seekEntered_path
  obtain ⟨path, seek, peek', check', rend⟩ := t.seekEntered.seekStep_spec ⟨d, (t.path .p1).station.freq, false⟩
  have none' := check'.trans (check.trans abandoned.check)
  rw [State.replan_of_none none']
  have kept := (t.seekEntered.seekStep ⟨d, (t.path .p1).station.freq, false⟩).planP2_front
  rw [kept.p1, kept.hush.hush, kept.peek, kept.seek, path, rend, peek', peek, seek]
  refine ⟨by rw [front]; rfl, rfl, hush, kept.check none', abandoned.peek, fun h => ?_⟩
  have same := still h
  refine ⟨by rw [same]; rfl, ?_⟩
  show t.seekEntered.seekNext d = _
  unfold State.seekNext
  rw [front, rear, same]
  rfl

/-! ## A step's measurement -/

theorem exec_tunerSeek (q : Byte) (d : Option SeekDir) (s : State) : exec (.tunerSeek q d) s = execTunerSeek q d s := rfl

theorem exec_seekStepMeasurement {s : State} (run : s.port.op = .run) (fs mp adj : Nat) :
    exec (.seekStepMeasurement fs mp adj) s = .next (State.countDevice s (s.seekMeasure fs mp adj)) := by
  change Host.Outcome.next (if s.running then _ else _) = _
  rw [if_pos (s.running_iff.mpr run)]

/-- A step's measurement that is due. -/
theorem State.seekMeasure_due {s : State} {k : Seek} (state : (s.path .p1).state = .seeking) (seek : s.tun.seek = some k)
    (settling : k.settling = true) (wait : (s.path .p1).wait = some 0) (fs mp adj : Nat) :
    s.seekMeasure fs mp adj =
      if s.tun.settings.seekThreshold ≤ quality fs mp adj ∨ (s.path .p1).station.freq = k.start ∨ s.seekOver k = true then s.seekStop
      else s.seekStep k := by
  simp [State.seekMeasure, seek, state, settling, wait]

/-- R113: a seek that stops locks P1 where it stands. -/
theorem State.seekStop_locks {s : State} (check : s.tun.check = none) :
    LocksFront (s.mapTun (fun t => { t with seek := none })) s.seekStop := by
  have locked := (s.mapTun (fun t => { t with seek := none })).enterLocked_locks
  have resolved := locked.keep (State.resolveWishes_front _) check
  rw [State.seekStop, State.replan_of_none (resolved.check.trans check)]
  exact resolved.keep (State.planP2_front _) check

/-- Settles O45. -/
theorem seekStepsThroughTheBand : Obligations.SeekStepsThroughTheBand := by
  refine ⟨fun s q d hs => ?_, fun s q hs => answers_lockable 5 4 hs (exec_tunerSeek ..) rfl rfl,
    fun s d => ⟨State.seekNext_of_free, State.seekNext_of_taken⟩, fun s d start => ?_, fun s k fs mp adj run state seek settling wait =>
    ⟨fun low away ahead => ?_, fun check ends => ?_⟩⟩
  · obtain ⟨answer, frame⟩ := answers_tunerFrame 5 4 hs.1.2 hs.gate (exec_tunerSeek q (some d) s) rfl
      (v := State.countDevice s.taking (s.taking.enterSeek d)) rfl ((State.enterSeek_frame ..).trans (State.countDevice_frame ..))
    have counted := State.countDevice_front s.taking (s.taking.enterSeek d)
    obtain ⟨state, wait, hush, check, peek, first⟩ := s.taking.enterSeek_seeks d
    refine ⟨_, answer, frame, ?_⟩
    change ((State.countDevice s.taking (s.taking.enterSeek d)).path .p1).state = _ ∧
      ((State.countDevice s.taking (s.taking.enterSeek d)).path .p1).wait = _ ∧
      (State.countDevice s.taking (s.taking.enterSeek d)).rend.hush.radio1 = _ ∧
      (State.countDevice s.taking (s.taking.enterSeek d)).tun.check = _ ∧
      (State.countDevice s.taking (s.taking.enterSeek d)).tun.peek = _ ∧
      (_ → (State.countDevice s.taking (s.taking.enterSeek d)).tun.seek = _ ∧
        ((State.countDevice s.taking (s.taking.enterSeek d)).path .p1).station.freq = _)
    rw [State.countDevice_path, State.countDevice_tun, counted.hush.hush]
    exact ⟨state, wait, hush, check, peek, first⟩
  · intro b f onGrid values place left hf hs ne ahead
    obtain ⟨grid, fewer⟩ := State.seekNext_left (s := s) hf hs ne ahead
    exact ⟨grid, by cases d <;> exact fewer, by cases d <;> exact Nat.mod_lt _ (Nat.succ_pos _), Band.values_eq b⟩
  · have goes : s.seekMeasure fs mp adj = s.seekStep k := by
      rw [State.seekMeasure_due state seek settling wait, if_neg]
      rintro (high | back | passes)
      · omega
      · exact away back
      · exact ahead ((s.seekOver_iff k).mp passes)
    rw [exec_seekStepMeasurement run, goes, State.countDevice_of_slots (s := s) (u := s.seekStep k) rfl]
    rfl
  · have stops : s.seekMeasure fs mp adj = s.seekStop := by
      rw [State.seekMeasure_due state seek settling wait, if_pos]
      exact ends.imp id (Or.imp id (s.seekOver_iff k).mpr)
    have locked := (State.seekStop_locks check).keep (State.countDevice_front s _) check
    exact ⟨_, by rw [exec_seekStepMeasurement run, stops], by simp [TunerFrame], locked.state, locked.station, locked.seek,
      locked.tuned, locked.hush⟩

end Sys2Proof.Machine
end

section
/-! SUPPORT. What the rear wishes give each rear zone (R107): its ENTERTAINMENT source and its wish, from its own and the other rear zone's. -/

namespace Sys2Proof.Machine

/-- R5: every zone's claims have their sources' classes. -/
def Classed (s : State) : Prop := ∀ y, ClassesOk (s.zone y).claims

theorem KeepsSources.classed {s t : State} (h : KeepsSources s t) (hs : Classed s) : Classed t := fun y => (h.list y (hs y)).1

theorem KeepsSources.source {s t : State} (h : KeepsSources s t) (hs : Classed s) (z : Zone) : t.entSource z = s.entSource z :=
  (h.list z (hs z)).2

/-- A rear zone as the wishes see it. -/
structure RearView where
  src : Option Source
  wish : Wish

def State.view (s : State) (z : Zone) : RearView := ⟨s.entSource z, s.wish z⟩

/-- R107: a zone on RADIO_2 whose wish is P1's station joins the cabin. -/
def RearView.joined (st : Station) (v : RearView) : RearView :=
  if v.wish = .station st ∧ v.src = some .radio2 then ⟨some .radio1, v.wish⟩ else v

/-- R107: the station for which a zone on a radio source needs P2. -/
def RearView.needs (st : Station) (v : RearView) : Option Station :=
  match v.wish with
  | .station w => if w ≠ st ∧ (v.src = some .radio1 ∨ v.src = some .radio2) then some w else none
  | _ => none

/-- R105, R107: the zone follows the cabin. -/
def RearView.follower : RearView := ⟨some .radio1, .cabin⟩

/-- The part's view of zone z is `v`, REAR_FOLLOW raised where `told`, and the other zones' views, the paths and the classes are as they
were. -/
structure Gives (s t : State) (z : Zone) (v : RearView) : Prop where
  view : t.view z = v
  others : ∀ y, y ≠ z → t.view y = s.view y
  paths : ∀ p, t.path p = s.path p
  classed : Classed t
  flags : ∀ n, s.port.flags.getLsbD n = true → t.port.flags.getLsbD n = true

theorem State.setEnt_radio {s : State} (hs : Classed s) (z : Zone) {x : Source} (hx : classOf x = .entertainment) :
    Gives s (s.setEnt z (some x)) z ⟨some x, s.wish z⟩ := by
  have put : PutsEnt s (s.setEnt z (some x)) z (some x) := by
    unfold State.setEnt
    split
    next c y hc hy =>
      obtain rfl := Option.some.inj hy
      split
      next he => exact ⟨⟨hs z, show s.entSource z = _ by rw [State.entSource, hc, ← he]; rfl⟩, fun _ _ => .refl _⟩
      next => exact (State.replaceEnt_puts (hs z) hc hx).trans (State.takingUpdate_keeps _)
    next y hn hy =>
      obtain rfl := Option.some.inj hy
      exact (State.file_puts (hs z) hn hx false).trans (State.takingUpdate_keeps _)
    next h => cases h
    next h => cases h
  have tun : (s.setEnt z (some x)).tun = s.tun := by simp
  have wish (y : Zone) : (s.setEnt z (some x)).wish y = s.wish y := by
    unfold State.wish
    rw [tun]
  refine ⟨congrArg₂ RearView.mk put.list.2 (wish z), fun y hy => congrArg₂ RearView.mk (put.others y hy (hs y)).2 (wish y),
    fun p => State.setEnt_path .., fun y => ?_, (s.setEnt_hush z _).flags⟩
  by_cases hy : y = z
  · rw [hy]
    exact put.list.1
  · exact (put.others y hy (hs y)).1

theorem State.followCabin_gives {s : State} (hs : Classed s) {z : Zone} (hz : z.rear = true) :
    Gives s (s.followCabin z) z .follower ∧ (s.followCabin z).port.flags.getLsbD (rearFollow z).num = true := by
  have wished := KeepsSources.setWish s z .cabin
  have classed := wished.classed hs
  have put := State.setEnt_radio classed z (x := .radio1) rfl
  have wish (y : Zone) (hy : y ≠ z) : (s.setWish z .cabin).wish y = s.wish y := by
    cases z <;> cases y <;> first | rfl | exact absurd rfl hy
  have path (p : Path) : (s.setWish z .cabin).path p = s.path p := by cases z <;> rfl
  have flags : (s.setWish z .cabin).port = s.port := by cases z <;> rfl
  refine ⟨⟨?_, fun y hy => ?_, fun p => (put.paths p).trans (path p), put.classed, fun n h => ?_⟩, ?_⟩
  · exact put.view.trans (congrArg (RearView.mk _) (State.wish_setWish hz _))
  · exact (put.others y hy).trans (congrArg₂ RearView.mk (wished.source hs y) (wish y hy))
  · exact (State.raise_tells _ _).flags n (put.flags n (flags ▸ h))
  · exact State.raise_flag _ (by cases z <;> decide)

theorem State.joinP1_gives {s : State} (hs : Classed s) (z : Zone) :
    Gives s (s.joinP1 z) z ((s.view z).joined (s.path .p1).station) := by
  unfold State.joinP1 RearView.joined
  split
  next h =>
    rw [if_pos (show (s.view z).wish = _ ∧ (s.view z).src = _ from h)]
    exact State.setEnt_radio hs z rfl
  next h =>
    rw [if_neg (show ¬ ((s.view z).wish = _ ∧ (s.view z).src = _) from h)]
    exact ⟨rfl, fun _ _ => rfl, fun _ => rfl, hs, fun _ h => h⟩

/-- R107: what a zone that needs P2 is given where it is to have it. -/
def RearView.taken (failed : Prop) [Decidable failed] (v : RearView) : RearView :=
  if failed then .follower else ⟨some .radio2, v.wish⟩

theorem State.takeP2_gives {s : State} (hs : Classed s) {z : Zone} (hz : z.rear = true) :
    Gives s (s.takeP2 z) z ((s.view z).taken ((s.path .p2).state = .failed)) ∧
      ((s.path .p2).state = .failed → (s.takeP2 z).port.flags.getLsbD (rearFollow z).num = true) := by
  unfold State.takeP2 RearView.taken
  split
  next h =>
    have ⟨given, told⟩ := State.followCabin_gives hs hz
    exact ⟨given, fun _ => told⟩
  next h => exact ⟨State.setEnt_radio hs z rfl, fun hf => absurd hf h⟩

theorem State.needs_view (s : State) (z : Zone) : s.needs z = (s.view z).needs (s.path .p1).station := by
  unfold State.needs RearView.needs State.view
  dsimp only
  cases s.wish z with
  | none => rfl
  | cabin => rfl
  | station w =>
    dsimp only
    split
    next h => simp_all
    next h => simp_all
    next h1 h2 => simp_all

/-- Both rear zones' views are named; the paths stand, the classes stay in order and no flag falls. -/
structure GivesBoth (s t : State) (l r : RearView) : Prop where
  left : t.view .rearL = l
  right : t.view .rearR = r
  paths : ∀ p, t.path p = s.path p
  classed : Classed t
  flags : ∀ n, s.port.flags.getLsbD n = true → t.port.flags.getLsbD n = true

section
variable {s t u : State} {l r l' r' : RearView}

theorem GivesBoth.thenLeft (h : GivesBoth s t l r) (h' : Gives t u .rearL l') : GivesBoth s u l' r :=
  ⟨h'.view, (h'.others _ (by decide)).trans h.right, fun p => (h'.paths p).trans (h.paths p), h'.classed,
    fun n x => h'.flags n (h.flags n x)⟩

theorem GivesBoth.thenRight (h : GivesBoth s t l r) (h' : Gives t u .rearR r') : GivesBoth s u l r' :=
  ⟨(h'.others _ (by decide)).trans h.left, h'.view, fun p => (h'.paths p).trans (h.paths p), h'.classed,
    fun n x => h'.flags n (h.flags n x)⟩

theorem GivesBoth.takeLeft (h : GivesBoth s t l r) :
    GivesBoth s (t.takeP2 .rearL) (l.taken ((s.path .p2).state = .failed)) r ∧
      ((s.path .p2).state = .failed → (t.takeP2 .rearL).port.flags.getLsbD 17 = true) := by
  have ⟨given, told⟩ := State.takeP2_gives h.classed (z := .rearL) rfl
  simp only [h.left, h.paths] at given told
  exact ⟨h.thenLeft given, told⟩

theorem GivesBoth.takeRight (h : GivesBoth s t l r) :
    GivesBoth s (t.takeP2 .rearR) l (r.taken ((s.path .p2).state = .failed)) ∧
      ((s.path .p2).state = .failed → (t.takeP2 .rearR).port.flags.getLsbD 18 = true) ∧
      ∀ n, t.port.flags.getLsbD n = true → (t.takeP2 .rearR).port.flags.getLsbD n = true := by
  have ⟨given, told⟩ := State.takeP2_gives h.classed (z := .rearR) rfl
  simp only [h.right, h.paths] at given told
  exact ⟨h.thenRight given, told, given.flags⟩
end

/-- R107: what the two rear zones are given, their wishes for P1's station already met. -/
def resolvedViews (st : Station) (failed : Prop) [Decidable failed] (l r : RearView) : RearView × RearView :=
  match l.needs st, r.needs st with
  | none, none => (l, r)
  | some _, none => (l.taken failed, r)
  | none, some _ => (l, r.taken failed)
  | some a, some b =>
    if a = b ∨ failed then (l.taken failed, r.taken failed)
    else if r.src = some .radio2 ∧ l.src ≠ some .radio2 then (.follower, r.taken failed)
    else (l.taken failed, .follower)

theorem RearView.taken_ne_follower {failed : Prop} [Decidable failed] {v : RearView} (h : v.taken failed = .follower) : failed := by
  unfold RearView.taken at h
  split at h
  · assumption
  · injection h with src
    cases src

/-- R107: the wishes resolved; a zone that needs P2 and is made to follow the cabin has REAR_FOLLOW raised. -/
theorem State.resolveWishes_gives {s : State} (hs : Classed s) :
    let st := (s.path .p1).station
    let l := (s.view .rearL).joined st
    let r := (s.view .rearR).joined st
    let given := resolvedViews st ((s.path .p2).state = .failed) l r
    GivesBoth s s.resolveWishes given.1 given.2 ∧
      (l.needs st ≠ none → given.1 = .follower → s.resolveWishes.port.flags.getLsbD 17 = true) ∧
      (r.needs st ≠ none → given.2 = .follower → s.resolveWishes.port.flags.getLsbD 18 = true) := by
  intro st l r given
  have atFirst : GivesBoth s s (s.view .rearL) (s.view .rearR) := ⟨rfl, rfl, fun _ => rfl, hs, fun _ h => h⟩
  have left : GivesBoth s (s.joinP1 .rearL) l (s.view .rearR) := atFirst.thenLeft (State.joinP1_gives hs _)
  have joined : GivesBoth s ((s.joinP1 .rearL).joinP1 .rearR) l r := left.thenRight (by
    have second := State.joinP1_gives left.classed .rearR
    rwa [left.right, left.paths] at second)
  have needL := ((s.joinP1 .rearL).joinP1 .rearR).needs_view .rearL
  have needR := ((s.joinP1 .rearL).joinP1 .rearR).needs_view .rearR
  rw [joined.left, joined.paths] at needL
  rw [joined.right, joined.paths] at needR
  have srcL : ((s.joinP1 .rearL).joinP1 .rearR).entSource .rearL = l.src := congrArg RearView.src joined.left
  have srcR : ((s.joinP1 .rearL).joinP1 .rearR).entSource .rearR = r.src := congrArg RearView.src joined.right
  have failed := joined.paths .p2
  have given_eq : given = resolvedViews st ((s.path .p2).state = .failed) l r := rfl
  clear_value given
  unfold State.resolveWishes
  unfold resolvedViews at given_eq
  dsimp only
  generalize (s.joinP1 .rearL).joinP1 .rearR = t at *
  rw [needL, needR]
  cases hl : l.needs st with
  | none =>
    cases hr : r.needs st with
    | none =>
      rw [hl, hr] at given_eq
      subst given_eq
      exact ⟨joined, fun h => absurd rfl h, fun h => absurd rfl h⟩
    | some b =>
      rw [hl, hr] at given_eq
      subst given_eq
      obtain ⟨both, told, -⟩ := joined.takeRight
      exact ⟨both, fun h => absurd rfl h, fun _ h => told (RearView.taken_ne_follower h)⟩
  | some a =>
    cases hr : r.needs st with
    | none =>
      rw [hl, hr] at given_eq
      subst given_eq
      obtain ⟨both, told⟩ := joined.takeLeft
      exact ⟨both, fun _ h => told (RearView.taken_ne_follower h), fun h => absurd rfl h⟩
    | some b =>
      rw [hl, hr] at given_eq
      dsimp only at given_eq ⊢
      rw [failed, srcL, srcR]
      split at given_eq
      next same =>
        rw [if_pos same]
        subst given_eq
        obtain ⟨first, told⟩ := joined.takeLeft
        obtain ⟨both, told', keeps⟩ := first.takeRight
        exact ⟨both, fun _ h => keeps _ (told (RearView.taken_ne_follower h)), fun _ h => told' (RearView.taken_ne_follower h)⟩
      next apart =>
        rw [if_neg apart]
        split at given_eq
        next right =>
          rw [if_pos right]
          subst given_eq
          obtain ⟨follows, told⟩ := State.followCabin_gives joined.classed (z := .rearL) rfl
          obtain ⟨both, told', keeps⟩ := (joined.thenLeft follows).takeRight
          exact ⟨both, fun _ _ => keeps _ told, fun _ h => told' (RearView.taken_ne_follower h)⟩
        next left' =>
          rw [if_neg left']
          subst given_eq
          obtain ⟨follows, told⟩ := State.followCabin_gives joined.classed (z := .rearR) rfl
          obtain ⟨both, told'⟩ := (joined.thenRight follows).takeLeft
          have keeps := (State.takeP2_gives (joined.thenRight follows).classed (z := .rearL) rfl).1.flags
          exact ⟨both, fun _ h => told' (RearView.taken_ne_follower h), fun _ _ => keeps _ told⟩

end Sys2Proof.Machine
end

section
/-! SUPPORT. The rear wishes of one rear zone (R107), whichever of the two it is. -/

namespace Sys2Proof.Machine

/-- R107: what a rear zone `v` is given beside the other rear zone `w`: `x`. -/
structure RearView.Given (st : Station) (failed : Prop) (v w x : RearView) : Prop where
  unneeded : v.needs st = none → x = v
  fails : ∀ a, v.needs st = some a → failed → x = .follower
  takes : ∀ a, v.needs st = some a → ¬ failed →
    (∀ b, w.needs st = some b → a = b ∨ (v.src = some .radio2 ∧ w.src ≠ some .radio2)) → x = ⟨some .radio2, v.wish⟩
  yields : ∀ a b, v.needs st = some a → w.needs st = some b → ¬ failed → a ≠ b → w.src = some .radio2 → v.src ≠ some .radio2 →
    x = .follower

theorem RearView.taken_failed {failed : Prop} [Decidable failed] (h : failed) (v : RearView) : v.taken failed = .follower := if_pos h

theorem RearView.taken_not {failed : Prop} [Decidable failed] (h : ¬ failed) (v : RearView) :
    v.taken failed = ⟨some .radio2, v.wish⟩ := if_neg h

theorem resolvedViews_given (st : Station) (failed : Prop) [Decidable failed] (l r : RearView) :
    RearView.Given st failed l r (resolvedViews st failed l r).1 ∧ RearView.Given st failed r l (resolvedViews st failed l r).2 := by
  unfold resolvedViews
  cases hl : l.needs st with
  | none =>
    cases hr : r.needs st with
    | none => exact ⟨⟨fun _ => rfl, by simp [hl], by simp [hl], by simp [hl]⟩, ⟨fun _ => rfl, by simp [hr], by simp [hr], by simp [hr]⟩⟩
    | some b => exact ⟨⟨fun _ => rfl, by simp [hl], by simp [hl], by simp [hl]⟩,
        ⟨by simp [hr], fun _ _ h => r.taken_failed h, fun _ _ h _ => r.taken_not h, by simp [hl]⟩⟩
  | some a =>
    cases hr : r.needs st with
    | none => exact ⟨⟨by simp [hl], fun _ _ h => l.taken_failed h, fun _ _ h _ => l.taken_not h, by simp [hr]⟩,
        ⟨fun _ => rfl, by simp [hr], by simp [hr], by simp [hr]⟩⟩
    | some b =>
      dsimp only
      split
      next same =>
        have apart (h : ¬ failed) : a = b := same.resolve_right h
        exact ⟨⟨by simp [hl], fun _ _ h => l.taken_failed h, fun _ _ h _ => l.taken_not h, fun _ _ h h' f ne _ _ => by simp_all⟩,
          ⟨by simp [hr], fun _ _ h => r.taken_failed h, fun _ _ h _ => r.taken_not h, fun _ _ h h' f ne _ _ => by simp_all⟩⟩
      next apart =>
        obtain ⟨ne, works⟩ := not_or.mp apart
        split
        next right =>
          exact ⟨⟨by simp [hl], fun _ _ h => absurd h works, fun _ h _ both => by simp_all, fun _ _ _ _ _ _ _ _ => rfl⟩,
            ⟨by simp [hr], fun _ _ h => absurd h works, fun _ _ h _ => r.taken_not h, fun _ _ _ _ _ _ _ no => absurd right.1 no⟩⟩
        next left =>
          exact ⟨⟨by simp [hl], fun _ _ h => absurd h works, fun _ _ h _ => l.taken_not h, fun _ _ _ _ _ _ on no => absurd ⟨on, no⟩ left⟩,
            ⟨by simp [hr], fun _ _ h => absurd h works, fun c h _ both => absurd (both a hl) (by
              obtain rfl := Option.some.inj (hr.symm.trans h)
              exact not_or.mpr ⟨Ne.symm ne, left⟩), fun _ _ _ _ _ _ _ _ => rfl⟩⟩

theorem otherRear_rear (z : Zone) : (otherRear z).rear = true := by cases z <;> rfl

theorem otherRear_otherRear {z : Zone} (hz : z.rear = true) : otherRear (otherRear z) = z := by
  cases z with
  | cabin => cases hz
  | driver => cases hz
  | rearL => rfl
  | rearR => rfl

theorem otherRear_eq {z : Zone} (hz : z.rear = true) : (if z = .rearL then Zone.rearR else .rearL) = otherRear z := by
  cases z with
  | cabin => cases hz
  | driver => cases hz
  | rearL => rfl
  | rearR => rfl

theorem rearFollow_num {z : Zone} (hz : z.rear = true) : (rearFollow z).num = if z = .rearL then 17 else 18 := by
  cases z with
  | cabin => cases hz
  | driver => cases hz
  | rearL => rfl
  | rearR => rfl

/-- R107: what a rear zone is given, and the notice that it follows the cabin. -/
theorem State.resolveWishes_zone {s : State} (hs : Classed s) {z : Zone} (hz : z.rear = true) :
    let st := (s.path .p1).station
    let v := (s.view z).joined st
    RearView.Given st ((s.path .p2).state = .failed) v ((s.view (otherRear z)).joined st) (s.resolveWishes.view z) ∧
      (v.needs st ≠ none → s.resolveWishes.view z = .follower → s.resolveWishes.port.flags.getLsbD (rearFollow z).num = true) := by
  intro st v
  obtain ⟨both, left, right⟩ := State.resolveWishes_gives hs
  obtain ⟨givenL, givenR⟩ := resolvedViews_given st ((s.path .p2).state = .failed) ((s.view .rearL).joined st) ((s.view .rearR).joined st)
  rw [← both.left] at left givenL
  rw [← both.right] at right givenR
  cases z with
  | cabin => cases hz
  | driver => cases hz
  | rearL => exact ⟨givenL, left⟩
  | rearR => exact ⟨givenR, right⟩

end Sys2Proof.Machine
end

section
/-! SUPPORT. TUNER.FRONT (R106): P1's tune, and what the wishes and the plan make of the rear zones. -/

namespace Sys2Proof.Machine

/-- R106: P1 stands at the station already. -/
theorem State.frontTune_same {s : State} {st : Station} (station : (s.path .p1).station = st) (locked : (s.path .p1).state = .locked) :
    s.frontTune st = s.abandonCheck := if_pos ⟨station, locked⟩

/-- R106: P1's station is named, and the seek, the peek and the check have ended. -/
def State.frontNamed (s : State) (st : Station) : State :=
  let t := (s.mapTun (fun u => { u with seek := none, peek := none })).abandonCheck
  t.setPath .p1 { t.path .p1 with station := st }

theorem State.frontTune_eq {s : State} {st : Station} (h : (s.path .p1).station ≠ st ∨ (s.path .p1).state ≠ .locked) :
    s.frontTune st = ((s.frontNamed st).resolveWishes.startTune .p1 st).replan :=
  if_neg fun ⟨station, locked⟩ => h.elim (absurd station) (absurd locked)

theorem State.frontNamed_rest (s : State) (st : Station) :
    (s.frontNamed st).path .p1 = { s.path .p1 with station := st } ∧ (s.frontNamed st).tun.seek = none ∧
      (s.frontNamed st).tun.peek = none ∧ (s.frontNamed st).tun.check = none ∧
      (s.frontNamed st).rend.hush.radio1 = s.rend.hush.radio1 := by
  have abandoned := (s.mapTun (fun u => { u with seek := none, peek := none })).abandonCheck_abandons
  refine ⟨?_, abandoned.seek, abandoned.peek, abandoned.check, abandoned.hush.hush⟩
  unfold State.frontNamed
  rw [State.setPath_path, abandoned.p1]
  rfl

/-- R103, R106: P1 is tuned to the station; no seek, peek or check runs; from LOCKED, RADIO_1 not hushed, the fade comes first. -/
theorem State.frontTune_tunes {s : State} {st : Station} (h : (s.path .p1).station ≠ st ∨ (s.path .p1).state ≠ .locked) :
    ((s.frontTune st).path .p1).station = st ∧ ((s.frontTune st).path .p1).state = .tuning ∧ (s.frontTune st).tun.seek = none ∧
      (s.frontTune st).tun.peek = none ∧ (s.frontTune st).tun.check = none ∧
      ((s.path .p1).state = .locked → s.rend.hush.radio1 = false → ((s.frontTune st).path .p1).phase = some .fading ∧
        ((s.frontTune st).path .p1).wait = some 6 ∧ (s.frontTune st).rend.hush.radio1 = true) := by
  obtain ⟨path, seek, peek, check, hush⟩ := s.frontNamed_rest st
  have resolved := (s.frontNamed st).resolveWishes_front
  have tuned := (s.frontNamed st).resolveWishes.startTune_tunes st
  have none' : ((s.frontNamed st).resolveWishes.startTune .p1 st).tun.check = none := tuned.check.trans (resolved.check check)
  obtain ⟨station, state, -⟩ := (s.frontNamed st).resolveWishes.startTune_started .p1 st
  have planned := ((s.frontNamed st).resolveWishes.startTune .p1 st).planP2_front
  rw [State.frontTune_eq h, State.replan_of_none none', planned.p1, planned.seek, planned.peek, planned.hush.hush]
  refine ⟨station, state, tuned.seek.trans (resolved.seek.trans seek), tuned.peek.trans (resolved.peek.trans peek),
    planned.check none', fun locked open' => ?_⟩
  exact State.startTune_fades (by rw [resolved.p1, path]; exact locked) (resolved.hush.hush.trans (hush.trans open')) st

/-! ## The rear zones and P2 -/

theorem State.planP2_wishes (s : State) : KeepsWishes s s.planP2 := (s.setRole_wishes _ _).trans (State.sendP2_wishes ..)

theorem KeepsWishes.view {s t : State} (h : KeepsWishes s t) (hs : Classed s) (z : Zone) : t.view z = s.view z :=
  congrArg₂ RearView.mk (h.sources.source hs z) (h.wish z)

/-- R106: P1's tune has begun and the wishes are resolved; P2 is still to be planned. -/
def State.frontTuned (s : State) (st : Station) : State := (s.frontNamed st).resolveWishes.startTune .p1 st

theorem State.frontTune_planned {s : State} {st : Station} (h : (s.path .p1).station ≠ st ∨ (s.path .p1).state ≠ .locked) :
    s.frontTune st = (s.frontTuned st).planP2 := by
  rw [State.frontTune_eq h]
  refine State.replan_of_none ((State.startTune_tunes _ st).check.trans ?_)
  exact (s.frontNamed st).resolveWishes_front.check (s.frontNamed_rest st).2.2.2.1

section
variable {s : State} {st : Station} (hs : Classed s) (check : s.tun.check = none)
include hs check

omit hs in
theorem State.frontNamed_view (z : Zone) : (s.frontNamed st).view z = s.view z := by
  have still : (s.mapTun (fun u => { u with seek := none, peek := none })).abandonCheck = _ := State.abandonCheck_of_none check
  rw [State.frontNamed, still]
  cases z <;> rfl

theorem State.frontNamed_classed : Classed (s.frontNamed st) := by
  have still : (s.mapTun (fun u => { u with seek := none, peek := none })).abandonCheck = _ := State.abandonCheck_of_none check
  rw [State.frontNamed, still]
  exact hs

theorem State.frontTuned_classed : Classed (s.frontTuned st) :=
  (State.startTune_wishes _ .p1 st).sources.classed (State.resolveWishes_gives (State.frontNamed_classed hs check)).1.classed

/-- R106: P2 as the plan finds it. -/
theorem State.frontTuned_p2 : (s.frontTuned st).path .p2 = s.path .p2 := by
  have still : (s.mapTun (fun u => { u with seek := none, peek := none })).abandonCheck = _ := State.abandonCheck_of_none check
  have named : (s.frontNamed st).path .p2 = s.path .p2 := by
    rw [State.frontNamed, still]
    rfl
  have resolved := (State.resolveWishes_gives (State.frontNamed_classed (st := st) hs check)).1.paths .p2
  exact (State.startTune_tunes _ st).p2.trans (resolved.trans named)

/-- R107: what a rear zone is given by TUNER.FRONT. -/
theorem State.frontTuned_zone {z : Zone} (hz : z.rear = true) :
    RearView.Given st ((s.path .p2).state = .failed) ((s.view z).joined st) ((s.view (otherRear z)).joined st)
        ((s.frontTuned st).view z) ∧
      (((s.view z).joined st).needs st ≠ none → (s.frontTuned st).view z = .follower →
        (s.frontTuned st).port.flags.getLsbD (rearFollow z).num = true) := by
  have classed := State.frontNamed_classed (st := st) hs check
  have zone := State.resolveWishes_zone classed hz
  have station : ((s.frontNamed st).path .p1).station = st := by rw [(s.frontNamed_rest st).1]
  have failed : (s.frontNamed st).path .p2 = s.path .p2 := by
    have tuned := State.frontTuned_p2 (st := st) hs check
    rwa [State.frontTuned, (State.startTune_tunes _ st).p2, (State.resolveWishes_gives classed).1.paths] at tuned
  have view : (s.frontTuned st).view z = (s.frontNamed st).resolveWishes.view z :=
    (State.startTune_wishes _ .p1 st).view (State.resolveWishes_gives classed).1.classed z
  simp only [station, failed, State.frontNamed_view check] at zone
  rw [view]
  exact ⟨zone.1, fun need follows => (State.startTune_tunes _ st).flags _ (zone.2 need follows)⟩
end

theorem RearView.joined_of_ne {st : Station} {v : RearView} (h : v.wish ≠ .station st) : v.joined st = v :=
  if_neg fun both => h both.1

theorem RearView.joined_wish (st : Station) (v : RearView) : (v.joined st).wish = v.wish := by
  unfold RearView.joined
  split
  · rfl
  · rfl

theorem RearView.needs_iff {st w : Station} {v : RearView} : v.needs st = some w ↔
    v.wish = .station w ∧ w ≠ st ∧ (v.src = some .radio1 ∨ v.src = some .radio2) := by
  unfold RearView.needs
  cases v.wish with
  | none => simp
  | cabin => simp
  | station x =>
    simp only [Option.ite_none_right_eq_some, Option.some.injEq, Wish.station.injEq]
    constructor
    · rintro ⟨c, rfl⟩
      exact ⟨rfl, c⟩
    · rintro ⟨rfl, c⟩
      exact ⟨c, rfl⟩

theorem RearView.needs_joined {st w : Station} {v : RearView} : (v.joined st).needs st = some w ↔
    v.wish = .station w ∧ w ≠ st ∧ (v.src = some .radio1 ∨ v.src = some .radio2) := by
  rw [RearView.needs_iff, RearView.joined_wish]
  refine and_congr_right fun wish => and_congr_right fun ne => ?_
  rw [RearView.joined_of_ne (fun same => ne (Wish.station.inj (wish.symm.trans same)))]

theorem RearView.needs_none {st : Station} {v : RearView} (h : ∀ w, v.wish = .station w → w = st) : (v.joined st).needs st = none :=
  Option.eq_none_iff_forall_not_mem.mpr fun _ need => (needs_joined.mp need).2.1 (h _ (needs_joined.mp need).1)

end Sys2Proof.Machine
end

section
/-! OBLIGATIONS. TUNER.FRONT (O40). -/

namespace Sys2Proof.Machine

/-! ## The band's grid (R103, R106) -/

/-- R106: the rounded frequency is on the grid, within the range and less than half a step away. -/
theorem Band.round_nearest {b : Band} {f : Nat} (low : Band.lo b ≤ f) (high : f ≤ Band.hi b) :
    ∃ k, Band.round b f = Band.lo b + k * Band.step b ∧ Band.round b f ≤ Band.hi b ∧
      2 * (max f (Band.round b f) - min f (Band.round b f)) < Band.step b := by
  refine ⟨(f - Band.lo b + Band.step b / 2) / Band.step b, by rw [Band.round, Nat.mul_comm], ?_⟩
  cases b with
  | fm =>
    simp only [Band.round, Band.lo, Band.hi, Band.step] at *
    omega
  | am =>
    simp only [Band.round, Band.lo, Band.hi, Band.step] at *
    omega

theorem stationOf_within {b : Band} {f : Nat} (low : Band.lo b ≤ f) (high : f ≤ Band.hi b) :
    stationOf (some b) f = some ⟨b, Band.round b f⟩ := if_pos (decide_eq_true ⟨low, high⟩)

theorem stationOf_outside {b : Band} {f : Nat} (h : f < Band.lo b ∨ Band.hi b < f) : stationOf (some b) f = none :=
  if_neg fun within => by
    have := of_decide_eq_true within
    omega

/-! ## What the tune leaves of the rear zones and of P2 -/

/-- R106, R120: the whole of TUNER.FRONT's effect. -/
def State.fronted (s : State) (st : Station) : State := State.countDevice s (s.frontTune st)

theorem State.fronted_front (s : State) (st : Station) : KeepsFront (s.frontTune st) (s.fronted st) := State.countDevice_front ..

theorem State.fronted_same {s : State} {st : Station} (station : (s.path .p1).station = st) (locked : (s.path .p1).state = .locked) :
    (s.fronted st).path .p1 = s.path .p1 ∧ (s.tun.check = none → s.fronted st = s) := by
  have same := State.frontTune_same station locked
  constructor
  · rw [(s.fronted_front st).p1, same]
    exact s.abandonCheck_abandons.p1
  · intro check
    rw [State.fronted, same, State.abandonCheck_of_none check, State.countDevice_self]

theorem State.fronted_tunes {s : State} {st : Station} (h : (s.path .p1).station ≠ st ∨ (s.path .p1).state ≠ .locked) :
    ((s.fronted st).path .p1).station = st ∧ ((s.fronted st).path .p1).state = .tuning ∧ (s.fronted st).tun.seek = none ∧
      (s.fronted st).tun.peek = none ∧ (s.fronted st).tun.check = none ∧
      ((s.path .p1).state = .locked → s.rend.hush.radio1 = false → ((s.fronted st).path .p1).phase = some .fading ∧
        ((s.fronted st).path .p1).wait = some 6 ∧ (s.fronted st).rend.hush.radio1 = true) := by
  rw [State.fronted, State.countDevice_path, State.countDevice_tun, (State.countDevice_front s (s.frontTune st)).hush.hush]
  exact State.frontTune_tunes h

theorem State.fronted_station (s : State) (st : Station) : ((s.fronted st).path .p1).station = st := by
  by_cases h : (s.path .p1).station = st ∧ (s.path .p1).state = .locked
  · rw [(State.fronted_same h.1 h.2).1]
    exact h.1
  · exact (State.fronted_tunes (not_and_or.mp h)).1

/-- R107: a zone on a radio source that wishes a station other than the cabin's. -/
abbrev RearView.wants (st : Station) (v : RearView) (w : Station) : Prop :=
  v.wish = .station w ∧ w ≠ st ∧ (v.src = some .radio1 ∨ v.src = some .radio2)

theorem RearView.wants.joined {st w : Station} {v : RearView} (h : v.wants st w) : v.joined st = v :=
  RearView.joined_of_ne fun same => h.2.1 (Wish.station.inj (h.1.symm.trans same))

theorem RearView.joined_leaves {st : Station} {v : RearView} (h : v.src ≠ some .radio2 ∨ v.wish = .station st) :
    (v.joined st).src ≠ some .radio2 := by
  unfold RearView.joined
  split
  next => nofun
  next no => exact h.elim id fun wish on => no ⟨wish, on⟩

section
variable {s : State} {st : Station} (hs : Classed s) (check : s.tun.check = none)
  (h : (s.path .p1).station ≠ st ∨ (s.path .p1).state ≠ .locked)
include hs check h

theorem State.fronted_view (z : Zone) : (s.fronted st).view z = (s.frontTuned st).view z := by
  rw [State.fronted, State.frontTune_planned h]
  exact ((State.planP2_wishes _).trans (State.countDevice_wishes ..)).view (State.frontTuned_classed hs check) z

/-- R107: what a rear zone is given by the whole of TUNER.FRONT. -/
theorem State.fronted_zone {z : Zone} (hz : z.rear = true) :
    RearView.Given st ((s.path .p2).state = .failed) ((s.view z).joined st) ((s.view (otherRear z)).joined st)
      ((s.fronted st).view z) := by
  rw [State.fronted_view hs check h]
  exact (State.frontTuned_zone hs check hz).1

/-- R107: a zone that needs P2 and is made to follow the cabin has REAR_FOLLOW raised. -/
theorem State.fronted_told {z : Zone} {w : Station} (hz : z.rear = true) (need : (s.view z).wants st w)
    (follows : (s.fronted st).view z = .follower) : (s.fronted st).port.flags.getLsbD (if z = .rearL then 17 else 18) = true := by
  rw [State.fronted_view hs check h] at follows
  have told := (State.frontTuned_zone (st := st) hs check hz).2 (by rw [RearView.needs_joined.mpr need]; nofun) follows
  rw [← rearFollow_num hz, State.fronted, State.frontTune_planned h]
  exact (State.countDevice_front ..).hush.flags _ ((State.planP2_front _).hush.flags _ told)

theorem State.fronted_joins {z : Zone} (hz : z.rear = true) (unneeded : ∀ w, ¬ (s.view z).wants st w) :
    (s.fronted st).view z = (s.view z).joined st :=
  (State.fronted_zone hs check h hz).unneeded
    (Option.eq_none_iff_forall_not_mem.mpr fun w need => unneeded w (RearView.needs_joined.mp need))

theorem State.fronted_takes {z : Zone} {w : Station} (hz : z.rear = true) (need : (s.view z).wants st w)
    (works : (s.path .p2).state ≠ .failed) (apart : ∀ x, (s.view (otherRear z)).wants st x →
      w = x ∨ ((s.view z).src = some .radio2 ∧ (s.view (otherRear z)).src ≠ some .radio2)) :
    (s.fronted st).view z = ⟨some .radio2, .station w⟩ := by
  have given := (State.fronted_zone hs check h hz).takes w (RearView.needs_joined.mpr need) works fun x need' => by
    have wanted : (s.view (otherRear z)).wants st x := RearView.needs_joined.mp need'
    rw [need.joined, wanted.joined]
    exact apart x wanted
  rw [given, RearView.joined_wish, need.1]

theorem State.fronted_yields {z : Zone} {w x : Station} (hz : z.rear = true) (need : (s.view z).wants st w)
    (need' : (s.view (otherRear z)).wants st x) (works : (s.path .p2).state ≠ .failed) (ne : w ≠ x)
    (on : (s.view (otherRear z)).src = some .radio2) (off : (s.view z).src ≠ some .radio2) : (s.fronted st).view z = .follower :=
  (State.fronted_zone hs check h hz).yields w x (RearView.needs_joined.mpr need) (RearView.needs_joined.mpr need') works ne
    (by rwa [need'.joined]) (by rwa [need.joined])

theorem State.fronted_fails {z : Zone} {w : Station} (hz : z.rear = true) (need : (s.view z).wants st w)
    (failed : (s.path .p2).state = .failed) : (s.fronted st).view z = .follower :=
  (State.fronted_zone hs check h hz).fails w (RearView.needs_joined.mpr need) failed

/-- R109: P2 is planned for a zone that is left on RADIO_2, with which the other rear zone agrees where it is there too. -/
theorem State.fronted_p2 {z : Zone} {w : Station} (hz : z.rear = true) (zone : (s.fronted st).view z = ⟨some .radio2, .station w⟩)
    (other : ((s.fronted st).view (otherRear z)).src = some .radio2 → ((s.fronted st).view (otherRear z)).wish = .station w) :
    ((s.fronted st).path .p2).role = .rear ∧ ((s.fronted st).path .p2).station = w ∧
      (((s.fronted st).path .p2).state = .tuning ∨ ((s.fronted st).path .p2).state = .locked) := by
  rw [State.fronted_view hs check h] at zone other
  have plan := State.plan_of_need hz (congrArg RearView.src zone) (congrArg RearView.wish zone) fun on => .inl (other on)
  obtain ⟨role, station, state, -⟩ := State.planP2_sent plan
  rw [State.fronted, State.countDevice_path, State.frontTune_planned h]
  exact ⟨role, station, state.imp_right And.left⟩
end

theorem exec_tunerFront (q : Byte) (b : Option Band) (f : Nat) (s : State) : exec (.tunerFront q b f) s = execTunerFront q b f s := rfl

theorem answers_tunerFront {s : State} {b : Band} {f : Nat} (hs : Unlocked s) (q : Byte) (low : Band.lo b ≤ f) (high : f ≤ Band.hi b) :
    let u := s.untaken (s.taking.fronted ⟨b, Band.round b f⟩)
    Answers (.tunerFront q (some b) f) s u 0x50 q (.done (.front ⟨b, Band.round b f⟩ (u.path .p2).role)) ∧ TunerFrame s u :=
  answers_tunerFrame 5 0 hs.1.2 hs.gate (exec_tunerFront ..) rfl (by rw [stationOf_within low high]; rfl)
    ((State.frontTune_frame ..).trans (State.countDevice_frame ..))

/-- Settles O40. -/
theorem frontTunesTheCabin : Obligations.FrontTunesTheCabin := by
  refine ⟨fun s q b f hs low high => ?_, fun b f => Band.round_nearest, fun s q f hs => ⟨?_, fun b out => ?_⟩,
    fun s q b f z hs claims check low high hz => ?_⟩
  · intro st
    obtain ⟨answer, frame⟩ := answers_tunerFront hs q low high
    refine ⟨_, answer, frame, s.taking.fronted_station st, fun station locked => ?_,
      fun h => (State.fronted_tunes (s := s.taking) h).2⟩
    obtain ⟨stands, still⟩ := State.fronted_same (s := s.taking) station locked
    refine ⟨stands, fun check => ?_⟩
    rw [still check, s.untaken_taking]
  · exact answers_lockable 5 0 hs (exec_tunerFront q none f s) rfl rfl
  · exact answers_lockable 5 0 hs (exec_tunerFront q (some b) f s) rfl (by rw [stationOf_outside out]; rfl)
  · intro st o needs h
    have classed : Classed s.taking := fun y => (claims y).classes
    have hz' : (otherRear z).rear = true := otherRear_rear z
    have back : otherRear (otherRear z) = z := otherRear_otherRear hz
    have takes {y : Zone} {w : Station} := State.fronted_takes (s := s.taking) (z := y) (w := w) classed check h
    have p2 {w : Station} := State.fronted_p2 (s := s.taking) (w := w) classed check h hz
    have other : o = otherRear z := otherRear_eq hz
    clear_value o
    subst other
    have asItIs (no : ∀ w, s.wish z ≠ .station w) : (s.taking.fronted st).view z = s.taking.view z :=
      (State.fronted_joins (s := s.taking) classed check h hz fun w need => no w need.1).trans (RearView.joined_of_ne (no st))
    have kept {w : Station} (wish : s.wish z = .station st) : ¬ needs z w := fun need => need.2.1 (Wish.station.inj (need.1.symm.trans wish))
    refine ⟨_, (answers_tunerFront hs q low high).1, fun wish => ?_, fun wish on => ?_, fun wish on => ?_,
      fun w need works alone apart => ?_, fun w need need' works => ?_, fun w x need need' ne on off works => ?_, fun w need failed => ?_⟩
    · have same := asItIs (by rw [wish]; nofun)
      exact ⟨congrArg RearView.src same, (congrArg RearView.wish same).trans wish⟩
    · have same := asItIs (by rw [wish]; nofun)
      exact ⟨(congrArg RearView.src same).trans on, (congrArg RearView.wish same).trans wish⟩
    · have joined := (State.fronted_joins (s := s.taking) classed check h hz fun w => kept wish).trans (if_pos ⟨wish, on⟩)
      exact ⟨congrArg RearView.src joined, (congrArg RearView.wish joined).trans wish⟩
    · have zone := takes hz need works fun x need' => absurd need' (alone x)
      have other := State.fronted_joins (s := s.taking) classed check h hz' alone
      have planned := p2 zone fun on => absurd (congrArg RearView.src other ▸ on) (RearView.joined_leaves apart)
      exact ⟨congrArg RearView.src zone, congrArg RearView.wish zone, planned⟩
    · have zone := takes hz need works fun x also => .inl (Wish.station.inj (need'.1.symm.trans also.1))
      have other := takes hz' need' works fun x also => .inl (Wish.station.inj (need.1.symm.trans (back ▸ also.1)))
      obtain ⟨role, station, -⟩ := p2 zone fun _ => congrArg RearView.wish other
      exact ⟨congrArg RearView.src zone, congrArg RearView.src other, role, station⟩
    · have away : s.entSource (otherRear z) ≠ some .radio2 := by rw [off]; nofun
      have zone := takes hz need works fun _ _ => .inr ⟨on, away⟩
      have other := State.fronted_yields (s := s.taking) classed check h hz' need' (back.symm ▸ need) works ne.symm (back.symm ▸ on) away
      obtain ⟨role, station, -⟩ := p2 zone fun on => absurd (congrArg RearView.src other ▸ on) (by nofun)
      exact ⟨congrArg RearView.src zone, congrArg RearView.wish zone, role, station, congrArg RearView.src other,
        congrArg RearView.wish other, State.fronted_told (s := s.taking) classed check h hz' need' other⟩
    · have zone := State.fronted_fails (s := s.taking) classed check h hz need failed
      exact ⟨congrArg RearView.src zone, congrArg RearView.wish zone, State.fronted_told (s := s.taking) classed check h hz need zone⟩

end Sys2Proof.Machine
end

section
/-! SUPPORT. What the plan of P2 leaves of the AF check, and what the check then does (R109, R111, R115). -/

namespace Sys2Proof.Machine

/-- R111: P2's trial is cut short; the check stays. -/
abbrev AfCheck.cut (c : AfCheck) : AfCheck := { c with trial := none }

theorem State.startTune_check (s : State) (st : Station) : (s.startTune .p2 st).tun.check = s.tun.check := by
  unfold State.startTune State.beginTune State.dropAssoc
  dsimp only
  (repeat' split) <;> simp [State.setPath]

theorem State.sendP2_check (s : State) (st : Option Station) : (s.sendP2 st).tun.check = s.tun.check := by
  unfold State.sendP2
  dsimp only
  split
  · split
    · rfl
    · exact s.startTune_check _
  · split
    · rfl
    · rfl

theorem State.enterRear_check (s : State) (st : Station) : (s.enterRear st).tun.check = s.tun.check.map AfCheck.cut := by
  have cut : s.endWindow.cancelTrial.tun.check = s.tun.check.map AfCheck.cut := by
    rw [State.cancelTrial, ← s.endWindow_tun]
    rfl
  unfold State.enterRear
  dsimp only
  split
  · rw [← cut]
    simp
  · exact cut

/-- R111: entering REAR cuts the trial; any other plan of P2's role leaves the check. -/
theorem State.setRole_check (s : State) (r : Role) (q : Option Station) :
    (s.setRole r q).tun.check = if (s.path .p2).role ≠ r ∧ r = .rear ∧ q ≠ none then s.tun.check.map AfCheck.cut else s.tun.check := by
  have left (x : PathRec) : (if (s.path .p2).role = .rear then ((s.setPath .p2 x).dropAssoc .p2).annSync .p2
      else s.setPath .p2 x).tun.check = s.tun.check := by
    split
    · simp [State.dropAssoc, State.setPath]
    · rfl
  unfold State.setRole
  dsimp only
  split
  next same => exact (if_neg fun h => h.1 same).symm
  next other =>
    split
    next => rw [State.enterRear_check, left, if_pos ⟨other, rfl, nofun⟩]
    next no => rw [left, if_neg fun h => (Option.ne_none_iff_exists'.mp h.2.2).elim fun st hst => no st h.2.1 hst]

theorem State.planP2_check (s : State) :
    s.planP2.tun.check =
      if (s.path .p2).role ≠ s.plan.1 ∧ s.plan.1 = .rear ∧ s.plan.2 ≠ none then s.tun.check.map AfCheck.cut else s.tun.check :=
  (State.sendP2_check ..).trans (State.setRole_check ..)

/-- R109: the check keeps the candidates that it has not tried. -/
theorem State.planP2_untried {s : State} {c : AfCheck} (h : s.planP2.tun.check = some c) :
    ∃ d, s.tun.check = some d ∧ c.untried = d.untried := by
  rw [State.planP2_check] at h
  split at h
  · obtain ⟨d, running, rfl⟩ := Option.map_eq_some_iff.mp h
    exact ⟨d, running, rfl⟩
  · exact ⟨c, h, rfl⟩

/-- R109: a P2 that is LOCKED after the plan was left at its station. -/
theorem State.planP2_locked {s : State} (h : (s.planP2.path .p2).state = .locked) :
    (s.planP2.path .p2).station = (s.path .p2).station := by
  cases plan : s.plan with
  | mk r st =>
    cases st with
    | some q =>
      obtain ⟨-, station, state, -⟩ := State.planP2_sent plan
      rcases state with tuning | ⟨-, -, same⟩
      · cases h.symm.trans tuning
      · exact station.trans same.symm
    | none =>
      exfalso
      revert h
      unfold State.planP2 State.sendP2
      rw [plan]
      dsimp only
      split
      next failed =>
        rw [failed]
        nofun
      next => simp

/-- The running check has candidates left, and P2 is LOCKED at none of them. -/
def State.Aloof (s : State) : Prop := ∀ c, s.tun.check = some c → c.untried ≠ [] ∧
  ∀ f ∈ c.untried, (s.path .p2).state = .locked → (s.path .p2).station ≠ ⟨.fm, f⟩

theorem State.planP2_aloof {s : State}
    (h : ∀ c, s.tun.check = some c → c.untried ≠ [] ∧ ∀ f ∈ c.untried, (s.path .p2).station ≠ ⟨.fm, f⟩) : s.planP2.Aloof := by
  intro c running
  obtain ⟨d, running', same⟩ := State.planP2_untried running
  rw [same]
  refine ⟨(h d running').1, fun f untried locked => ?_⟩
  rw [State.planP2_locked locked]
  exact (h d running').2 f untried

/-- R115: a check that is aloof tries its first candidate on a P2 that is free, and otherwise stays as it is. -/
theorem State.afAdvance_aloof {s : State} (h : s.Aloof) :
    s.afAdvance = s ∨ ((s.path .p2).role ≠ .rear ∧ ∃ c f, s.tun.check = some c ∧ s.afAdvance = s.beginTrial c f) := by
  unfold State.afAdvance
  split
  next => exact .inl rfl
  next c running =>
    split
    next => exact .inl rfl
    next =>
      obtain ⟨left, aloof⟩ := h c running
      cases untried : c.untried with
      | nil => exact absurd untried left
      | cons f fs =>
        unfold State.afTry
        rw [running]
        dsimp only
        split
        next heard => exact absurd heard.2.2 (aloof f (by simp [untried]) heard.2.1)
        next =>
          split
          next free => exact .inr ⟨free.1, c, f, rfl, rfl⟩
          next => exact .inl rfl

theorem State.beginTrial_wishes {s : State} {c : AfCheck} (running : s.tun.check = some c) (k : AfCheck) (f : Nat) :
    KeepsWishes s (s.beginTrial k f) := by
  have noted (t : State) (g : Tuner → Tuner) (l : (g t.tun).wishL = t.tun.wishL) (r : (g t.tun).wishR = t.tun.wishR)
      (check : t.tun.check = none → (g t.tun).check = none) : KeepsWishes t (t.mapTun g) := ⟨.of_arb rfl, l, r, check⟩
  have window (t : State) : KeepsWishes t t.endWindow := by
    unfold State.endWindow
    split
    · exact .refl t
    · exact (KeepsWishes.mapScan t _).trans (.mapScan ..)
  have begun : KeepsWishes s (((s.mapTun (fun u => { u with check := some { k with trial := some ⟨f, none, []⟩ } })).endWindow).planP2) :=
    ((noted s _ rfl rfl fun none' => by rw [running] at none'; cases none').trans (window _)).trans (State.planP2_wishes _)
  unfold State.beginTrial
  dsimp only
  split
  · exact begun.trans (noted _ _ rfl rfl fun none' => by rw [none']; rfl)
  · exact begun

/-- R109: planning P2 leaves the rear zones' sources and wishes where no candidate is judged. -/
theorem State.replan_keeps {s : State} (h : s.planP2.Aloof) : KeepsWishes s s.replan := by
  rcases State.afAdvance_aloof h with still | ⟨-, c, f, running, tried⟩
  · rw [State.replan, still]
    exact s.planP2_wishes
  · rw [State.replan, tried]
    exact s.planP2_wishes.trans (State.beginTrial_wishes running c f)

/-- R109: with P2 REAR the check waits. -/
theorem State.replan_rear {s : State} (h : s.planP2.Aloof) (rear : (s.planP2.path .p2).role = .rear) : s.replan = s.planP2 :=
  (State.afAdvance_aloof h).resolve_right fun tried => tried.1 rear

/-- R109: P2 is planned REAR while a rear zone is on RADIO_2. -/
theorem State.plan_rear {s : State} {z : Zone} (hz : z.rear = true) (on : s.entSource z = some .radio2) :
    ∃ q, s.plan = (.rear, some q) := by
  have need : ∃ q, s.rearNeed z (s.wish z) = some q := by
    unfold State.rearNeed
    rw [if_pos on]
    split
    · exact ⟨_, rfl⟩
    · exact ⟨_, rfl⟩
  unfold State.plan
  cases z with
  | cabin => cases hz
  | driver => cases hz
  | rearL =>
    obtain ⟨q, first⟩ := need
    have first : s.rearNeed .rearL s.tun.wishL = some q := first
    rw [first]
    exact ⟨q, rfl⟩
  | rearR =>
    obtain ⟨q, second⟩ := need
    have second : s.rearNeed .rearR s.tun.wishR = some q := second
    rw [second]
    cases first : s.rearNeed .rearL s.tun.wishL with
    | none => exact ⟨q, rfl⟩
    | some p => exact ⟨p, rfl⟩

end Sys2Proof.Machine
end

section
/-! OBLIGATIONS. TUNER.REAR (O41). -/

namespace Sys2Proof.Machine

/-- R108: the zone has its wish and its source; P2 is still to be planned. -/
def State.seated (s : State) (z : Zone) (st : Station) (x : Source) : State := (s.setWish z (.station st)).setEnt z (some x)

theorem State.seated_view {s : State} (hs : Classed s) {z : Zone} (hz : z.rear = true) (st : Station) {x : Source}
    (hx : classOf x = .entertainment) : (s.seated z st x).view z = ⟨some x, .station st⟩ ∧
      (∀ y, y ≠ z → (s.seated z st x).view y = s.view y) ∧ Classed (s.seated z st x) := by
  have wished := KeepsSources.setWish s z (.station st)
  have given := State.setEnt_radio (wished.classed hs) z hx
  have wish (y : Zone) (hy : y ≠ z) : (s.setWish z (.station st)).wish y = s.wish y := by
    cases z <;> cases y <;> first | rfl | exact absurd rfl hy
  exact ⟨given.view.trans (congrArg (RearView.mk _) (State.wish_setWish hz _)),
    fun y hy => (given.others y hy).trans (congrArg₂ RearView.mk (wished.source hs y) (wish y hy)), given.classed⟩

theorem State.seated_tun (s : State) (z : Zone) (st : Station) (x : Source) :
    (s.seated z st x).tun.check = s.tun.check ∧ (s.seated z st x).tun.peek = s.tun.peek ∧
      ∀ p, (s.seated z st x).path p = s.path p := by
  have tun : (s.seated z st x).tun = (s.setWish z (.station st)).tun := by simp [State.seated]
  refine ⟨by rw [tun, State.setWish_check], by rw [tun, (State.setWish_front ..).peek], fun p => ?_⟩
  rw [State.path_of_tun tun]
  cases z <;> rfl

/-- R108, R120: the whole of an accepted TUNER.REAR's effect. -/
def State.reared (s : State) (z : Zone) (st : Station) (x : Source) : State := State.countDevice s (s.seated z st x).replan

theorem exec_tunerRear (q : Byte) (m : Nat) (b : Option Band) (f : Nat) (s : State) :
    exec (.tunerRear q m b f) s = execTunerRear q m b f s := rfl

/-- R108: another zone, or no station of a band. -/
theorem answers_tunerRear_range {s : State} {q : Byte} {m : Nat} {b : Option Band} {f : Nat} (hs : Unlocked s)
    (out : (∀ z, zoneOf m = some z → z.rear = false) ∨ stationOf b f = none) :
    Answers (.tunerRear q m b f) s s 0x51 q (.refused .range []) := by
  refine answers_lockable 5 1 hs (exec_tunerRear q m b f s) rfl ?_
  dsimp only
  split
  next z st zone station =>
    rcases out with front | outside
    · rw [if_neg (by rw [front z zone]; nofun)]
      rfl
    · cases outside.symm.trans station
  next => rfl

theorem zoneOf_front {m : Nat} (h : m < 2 ∨ 3 < m) {z : Zone} (zone : zoneOf m = some z) : z.rear = false := by
  match m, h with
  | 0, _ | 1, _ =>
    obtain rfl := Option.some.inj zone
    rfl
  | 2, h | 3, h => omega
  | _ + 4, _ => cases zone

/-- R108: a refusal of a request that names a rear zone and a station. -/
theorem answers_tunerRear_refused {s : State} {q : Byte} {m : Nat} {b : Band} {f : Nat} {z : Zone} {c : RefCode}
    (hs : Unlocked s) (zone : zoneOf m = some z) (hz : z.rear = true) (low : Band.lo b ≤ f) (high : f ≤ Band.hi b)
    (refused : s.taking.rearTune z ⟨b, Band.round b f⟩ = .error c) : Answers (.tunerRear q m (some b) f) s s 0x51 q (.refused c []) := by
  refine answers_lockable 5 1 hs (exec_tunerRear q m (some b) f s) rfl ?_
  rw [zone, stationOf_within low high]
  dsimp only
  rw [if_pos hz, refused]
  rfl

theorem answers_tunerRear {s : State} {q : Byte} {m : Nat} {b : Band} {f : Nat} {z : Zone} {x : Source}
    (hs : Unlocked s) (zone : zoneOf m = some z) (hz : z.rear = true) (low : Band.lo b ≤ f) (high : f ≤ Band.hi b)
    (given : s.taking.rearTune z ⟨b, Band.round b f⟩ = .ok (s.taking.seated z ⟨b, Band.round b f⟩ x).replan) :
    let u := s.untaken (s.taking.reared z ⟨b, Band.round b f⟩ x)
    Answers (.tunerRear q m (some b) f) s u 0x51 q
      (.done (.rear ⟨b, Band.round b f⟩ (s.path .p2).role (u.entSource z) (u.entState z))) ∧ TunerFrame s u := by
  refine answers_tunerFrame 5 1 hs.1.2 hs.gate (exec_tunerRear q m (some b) f s) rfl ?_
    ((State.rearTune_frame given).trans (State.countDevice_frame ..))
  rw [zone, stationOf_within low high]
  dsimp only
  rw [if_pos hz, given]
  rfl

/-- The AF check has candidates, none of them at P2's station. -/
abbrev State.Apart (s : State) : Prop :=
  ∀ c, s.tun.check = some c → c.untried ≠ [] ∧ ∀ f ∈ c.untried, (s.path .p2).station ≠ ⟨.fm, f⟩

section
variable {s : State} (hs : Classed s) (apart : s.Apart) {z : Zone} (hz : z.rear = true) (st : Station)
include apart

theorem State.seated_aloof (x : Source) : (s.seated z st x).planP2.Aloof := by
  obtain ⟨check, -, path⟩ := s.seated_tun z st x
  refine State.planP2_aloof ?_
  rw [check, path]
  exact apart

include hs hz

theorem State.reared_view {x : Source} (hx : classOf x = .entertainment) (y : Zone) :
    (s.reared z st x).view y = (s.seated z st x).view y :=
  ((State.replan_keeps (State.seated_aloof apart st x)).trans (State.countDevice_wishes ..)).view (State.seated_view hs hz st hx).2.2 y

/-- R108, R109: with the zone on RADIO_2 only P2 is planned. -/
theorem State.reared_planned : (s.seated z st .radio2).replan = (s.seated z st .radio2).planP2 := by
  obtain ⟨q, plan⟩ := State.plan_rear hz (congrArg RearView.src (State.seated_view hs hz st (x := .radio2) rfl).1)
  exact State.replan_rear (State.seated_aloof apart st _) (State.planP2_sent plan).1

/-- R109, R111: P2 is REAR; the check goes on, its trial cut where P2 was not. -/
theorem State.reared_rear : ((s.reared z st .radio2).path .p2).role = .rear ∧ (s.reared z st .radio2).tun.peek = s.tun.peek ∧
    ((s.path .p2).role ≠ .rear → (s.reared z st .radio2).tun.check = s.tun.check.map AfCheck.cut) := by
  obtain ⟨q, plan⟩ := State.plan_rear hz (congrArg RearView.src (State.seated_view hs hz st (x := .radio2) rfl).1)
  obtain ⟨check, peek, path⟩ := s.seated_tun z st .radio2
  rw [State.reared, State.countDevice_path, State.countDevice_tun, State.reared_planned hs apart hz st, (State.planP2_front _).peek, peek]
  refine ⟨(State.planP2_sent plan).1, rfl, fun other => ?_⟩
  rw [State.planP2_check, plan, path, check]
  exact if_pos ⟨other, rfl, nofun⟩

/-- R108: P2 is at the station where the other rear zone is not on RADIO_2, or shares it. -/
theorem State.reared_p2 (share : s.entSource (otherRear z) = some .radio2 → s.wish (otherRear z) = .station st ∨
      ((∀ w, s.wish (otherRear z) ≠ .station w) ∧ (s.path .p2).station = st)) :
    ((s.reared z st .radio2).path .p2).station = st ∧
      (((s.reared z st .radio2).path .p2).state = .tuning ∨ ((s.reared z st .radio2).path .p2).state = .locked) ∧
      ((s.path .p2).station = st → (s.path .p2).role = .rear → ((s.path .p2).state = .tuning ∨ (s.path .p2).state = .locked) →
        (s.reared z st .radio2).path .p2 = s.path .p2) := by
  obtain ⟨own, others, -⟩ := State.seated_view hs hz st (x := .radio2) rfl
  obtain ⟨-, -, path⟩ := s.seated_tun z st .radio2
  have other : (s.seated z st .radio2).view (otherRear z) = s.view (otherRear z) := others _ (by cases z <;> decide)
  have plan : (s.seated z st .radio2).plan = (.rear, some st) := by
    refine State.plan_of_need hz (congrArg RearView.src own) (congrArg RearView.wish own) ?_
    rw [show State.entSource _ _ = _ from congrArg RearView.src other, show State.wish _ _ = _ from congrArg RearView.wish other, path]
    exact share
  obtain ⟨-, station, state, kept⟩ := State.planP2_sent plan
  rw [State.reared, State.countDevice_path, State.reared_planned hs apart hz st]
  rw [path] at kept
  refine ⟨station, state.imp_right And.left, fun at_ role tuned => ?_⟩
  rw [kept at_ tuned, ← role]
end

/-- Settles O41. -/
theorem rearTakesAStation : Obligations.RearTakesAStation := by
  refine ⟨fun s q m z b f hs claims named low high => ?_, fun s q m b f hs => ⟨fun out => ?_, ?_⟩⟩
  · intro st other apart
    have classed : Classed s.taking := fun y => (claims y).classes
    obtain ⟨zone, hz⟩ : zoneOf m = some z ∧ z.rear = true := by
      rcases named with ⟨rfl, rfl⟩ | ⟨rfl, rfl⟩ <;> exact ⟨rfl, rfl⟩
    have away : other = otherRear z := otherRear_eq hz
    clear_value other
    subst away
    have aloof (h : apart) : s.taking.Apart := fun c running => ⟨(h c running).1, fun g hg => ((h c running).2 g hg).1⟩
    refine ⟨fun h joins => ?_, fun off on busy => ?_, fun off share failed => ?_, fun h off share works => ?_⟩
    · have given : s.taking.rearTune z st = .ok (s.taking.seated z st .radio1).replan := if_pos joins
      obtain ⟨answer, frame⟩ := answers_tunerRear (q := q) hs zone hz low high given
      have view := (State.reared_view classed (aloof h) hz st (x := .radio1) rfl z).trans (State.seated_view classed hz st rfl).1
      have source : (s.untaken (s.taking.reared z st .radio1)).entSource z = some .radio1 := congrArg RearView.src view
      rw [source] at answer
      exact ⟨_, answer, frame, source, congrArg RearView.wish view⟩
    · exact answers_tunerRear_refused hs zone hz low high ((if_neg off).trans (if_pos ⟨on, busy⟩))
    · exact answers_tunerRear_refused hs zone hz low high
        ((if_neg off).trans ((if_neg fun both => both.2 (share both.1)).trans (if_pos failed)))
    · have given : s.taking.rearTune z st = .ok (s.taking.seated z st .radio2).replan :=
        (if_neg off).trans ((if_neg fun both => both.2 (share both.1)).trans (if_neg works))
      obtain ⟨answer, frame⟩ := answers_tunerRear (q := q) hs zone hz low high given
      obtain ⟨own, others, -⟩ := State.seated_view classed hz st (x := .radio2) rfl
      have seen (y : Zone) := State.reared_view classed (aloof h) hz st (x := .radio2) rfl y
      have view := (seen z).trans own
      have source : (s.untaken (s.taking.reared z st .radio2)).entSource z = some .radio2 := congrArg RearView.src view
      rw [source] at answer
      obtain ⟨role, peek, check⟩ := State.reared_rear classed (aloof h) hz st
      have p2 := State.reared_p2 classed (aloof h) hz st
      refine ⟨_, answer, frame, source, congrArg RearView.wish view, role, peek, check, fun alone => ?_, fun on same => ?_⟩
      · obtain ⟨station, state, -⟩ := p2 fun on => absurd on alone
        exact ⟨station, state⟩
      · have shared : s.wish (otherRear z) = .station st ∨ ((∀ w, s.wish (otherRear z) ≠ .station w) ∧ (s.path .p2).station = st) := by
          cases wish : s.wish (otherRear z) with
          | none => exact .inr ⟨nofun, share on⟩
          | cabin => exact .inr ⟨nofun, share on⟩
          | station w => exact .inl (by rw [same w wish])
        obtain ⟨station, -, kept⟩ := p2 fun _ => shared
        have stays := (seen (otherRear z)).trans (others _ (by cases z <;> decide))
        exact ⟨(congrArg RearView.src stays).trans on, station, kept (share on)⟩
  · refine answers_tunerRear_range hs ?_
    rcases out with below | above | outside
    · exact .inl fun _ => zoneOf_front (.inl below)
    · exact .inl fun _ => zoneOf_front (.inr above)
    · exact .inr (stationOf_outside outside)
  · exact answers_tunerRear_range hs (.inr rfl)

end Sys2Proof.Machine
end

section
/-! SUPPORT. What the station table's operations do to each record (R119 to R126), and how a step's changes of a slot are counted (R120). -/

namespace Sys2Proof.Machine

theorem getElem?_updateAt {α : Type} (f : α → α) : ∀ (n : Nat) (l : List α) (m : Nat),
    (updateAt f n l)[m]? = if m = n then l[m]?.map f else l[m]?
  | 0, [], _ => by simp [updateAt]
  | _ + 1, [], _ => by simp [updateAt]
  | 0, _ :: _, 0 => rfl
  | 0, _ :: _, _ + 1 => rfl
  | _ + 1, _ :: _, 0 => rfl
  | n + 1, _ :: l, m + 1 => by
    rw [updateAt, List.getElem?_cons_succ, getElem?_updateAt f n l m, List.getElem?_cons_succ]
    simp only [Nat.add_right_cancel_iff]

/-! ## Each record -/

@[simp] theorem Table.mapRec_recAt_same (t : Table) (n : Nat) (f : StationRec → StationRec) :
    (t.mapRec n f).recAt n = (t.recAt n).map f := by
  rw [Table.recAt, Table.mapRec, getElem?_updateAt, if_pos rfl, Table.recAt]
  cases t.slots[n]? <;> rfl

theorem Table.mapRec_slots_ne (t : Table) {n m : Nat} (h : m ≠ n) (f : StationRec → StationRec) :
    (t.mapRec n f).slots[m]? = t.slots[m]? := by
  rw [Table.mapRec, getElem?_updateAt, if_neg h]

theorem Table.mapRec_recAt_ne (t : Table) {n m : Nat} (h : m ≠ n) (f : StationRec → StationRec) :
    (t.mapRec n f).recAt m = t.recAt m := congrArg (·.bind StaSlot.record) (t.mapRec_slots_ne h f)

theorem Table.setRec_recAt_same {t : Table} {n : Nat} (h : n < t.slots.length) (r : Option StationRec) : (t.setRec n r).recAt n = r := by
  rw [Table.recAt, Table.setRec, getElem?_updateAt, if_pos rfl, List.getElem?_eq_getElem h]
  rfl

theorem Table.setRec_recAt_ne (t : Table) {n m : Nat} (h : m ≠ n) (r : Option StationRec) : (t.setRec n r).recAt m = t.recAt m := by
  rw [Table.recAt, Table.setRec, getElem?_updateAt, if_neg h, Table.recAt]

@[simp] theorem Table.setAssoc_recAt (t : Table) (p : Path) (a : Assoc) (m : Nat) : (t.setAssoc p a).recAt m = t.recAt m := rfl

@[simp] theorem Table.linkPreset_recAt (t : Table) (n k m : Nat) : (t.linkPreset n k).recAt m = t.recAt m := rfl

theorem Table.leave_recAt_ne (t : Table) {n m : Nat} (h : m ≠ n) : (t.leave n).recAt m = t.recAt m := t.setRec_recAt_ne h none

theorem Table.leave_recAt_same (t : Table) (n : Nat) : (t.leave n).recAt n = none := by
  by_cases h : n < t.slots.length
  · exact Table.setRec_recAt_same h none
  · have : (t.leave n).slots[n]? = none := List.getElem?_eq_none (by rw [(t.leave_frame n).2.2.1]; omega)
    rw [Table.recAt, this]
    rfl

/-- R122: a record that enters a slot is there, but for the preset that it may take. -/
theorem Table.enter_recAt {t : Table} {n : Nat} (h : n < t.slots.length) (r : StationRec) :
    (∃ q, (t.enter n r).recAt n = some { r with preset := q }) ∧ ∀ m, m ≠ n → (t.enter n r).recAt m = t.recAt m := by
  unfold Table.enter
  split
  · exact ⟨⟨_, Table.setRec_recAt_same h _⟩, fun m hm => t.setRec_recAt_ne hm _⟩
  · exact ⟨⟨r.preset, Table.setRec_recAt_same h _⟩, fun m hm => t.setRec_recAt_ne hm _⟩

theorem Table.recAt_lt {t : Table} {n : Nat} {r : StationRec} (h : t.recAt n = some r) : n < t.slots.length := by
  by_contra out
  rw [Table.recAt, List.getElem?_eq_none (by omega)] at h
  cases h

/-! ## The slot of a new record (R123, R126) -/

theorem TakesSlot.lt {t : Table} {i : Nat} (h : TakesSlot t i) : i < t.slots.length := by
  rcases h with ⟨inside, -⟩ | ⟨-, o, held, -⟩
  · exact inside
  · exact Table.recAt_lt held

/-- R123, R126: the rules name one slot. -/
theorem TakesSlot.unique {t : Table} {i j : Nat} (hi : TakesSlot t i) (hj : TakesSlot t j) : i = j := by
  rcases hi with ⟨inside, empty, lowest⟩ | ⟨full, o, held, scan, bare, oldest⟩
  · rcases hj with ⟨inside', empty', lowest'⟩ | ⟨full, -⟩
    · by_contra ne
      rcases Nat.lt_or_gt_of_ne ne with before | after
      · simpa [empty] using lowest' i before
      · simpa [empty'] using lowest j after
    · simpa [empty] using full i inside
  · rcases hj with ⟨inside', empty', -⟩ | ⟨-, o', held', scan', bare', oldest'⟩
    · simpa [empty'] using full j inside'
    · by_contra ne
      have one := oldest j o' (Ne.symm ne) held' scan' bare'
      have two := oldest' i o ne held scan bare
      omega

/-- R123, R126: a record is created in the slot that the rules name; the other records stand. -/
theorem Table.create_of_takes {t : Table} {i : Nat} (h : TakesSlot t i) (r : StationRec) :
    ∃ u q, t.create r = some (i, u) ∧ u.recAt i = some { r with preset := q } ∧ ∀ m, m ≠ i → u.recAt m = t.recAt m := by
  obtain ⟨takes, noRoom⟩ := t.create_takes r
  cases created : t.create r with
  | none => exact absurd h (noRoom created i)
  | some b =>
    obtain ⟨n, u⟩ := b
    obtain rfl := h.unique (takes n u created)
    unfold Table.create at created
    split at created
    next k _ =>
      obtain ⟨rfl, rfl⟩ := Prod.mk.inj (Option.some.inj created)
      obtain ⟨⟨q, entered⟩, others⟩ := Table.enter_recAt h.lt r
      exact ⟨_, q, rfl, entered, others⟩
    next =>
      split at created
      next k _ _ =>
        obtain ⟨rfl, rfl⟩ := Prod.mk.inj (Option.some.inj created)
        obtain ⟨⟨q, entered⟩, others⟩ := Table.enter_recAt (t := t.leave k) (by rw [(t.leave_frame k).2.2.1]; exact h.lt) r
        exact ⟨_, q, rfl, entered, fun m hm => (others m hm).trans (t.leave_recAt_ne hm)⟩
      next => cases created

theorem Table.create_of_full {t : Table} (h : ∀ i, ¬ TakesSlot t i) (r : StationRec) : t.create r = none := by
  cases created : t.create r with
  | none => rfl
  | some b => exact absurd ((t.create_takes r).1 b.1 b.2 created) (h b.1)

/-! ## Lookups (R121) -/

theorem findSlot_spec (f : StationRec → Bool) : ∀ (l : List StaSlot) (k n : Nat), findSlot f k l = some n →
    ∃ j x r, n = k + j ∧ l[j]? = some x ∧ x.record = some r ∧ f r = true
  | [], _, _, h => by cases h
  | x :: xs, k, n, h => by
    have rest (h : findSlot f (k + 1) xs = some n) : ∃ j y r, n = k + j ∧ (x :: xs)[j]? = some y ∧ y.record = some r ∧ f r = true := by
      obtain ⟨j, y, r, rfl, hy, hr, hf⟩ := findSlot_spec f xs (k + 1) n h
      exact ⟨j + 1, y, r, by omega, hy, hr, hf⟩
    unfold findSlot at h
    split at h
    next r hr =>
      split at h
      next hf =>
        obtain rfl := Option.some.inj h
        exact ⟨0, x, r, rfl, rfl, hr, hf⟩
      next => exact rest h
    next => exact rest h

/-- R121: a record that is found by a code has it. -/
theorem Table.byCode_code {t : Table} {c n : Nat} {r : StationRec} (found : t.byCode c = some n) (held : t.recAt n = some r) : r.code = c := by
  unfold Table.byCode at found
  split at found
  next => cases found
  next =>
    obtain ⟨j, x, r', at_, hx, hr, hc⟩ := findSlot_spec _ _ _ _ found
    obtain rfl : j = n := by omega
    rw [Table.recAt_of_slot hx, hr] at held
    obtain rfl := Option.some.inj held
    exact beq_iff_eq.mp hc

/-- R123: by the path's code, where a record has it, and else by its frequency. -/
theorem Table.lookup_both (t : Table) (x : PathRec) :
    t.lookup x true = (x.decoded.code.bind t.byCode).or (t.byFreq x.station.band x.station.freq) := by
  unfold Table.lookup
  cases x.decoded.code with
  | none => rfl
  | some c =>
    dsimp only [Option.bind_some]
    split
    next zero => rw [zero, Table.byCode, if_pos rfl, Option.none_or]
    next =>
      cases t.byCode c with
      | none => rfl
      | some n => rfl

/-! ## What a step's changes are counted as (R120) -/

section
variable {s u : State} (lengths : u.sta.slots.length = s.sta.slots.length)

theorem State.countDevice_sta (s u : State) : (State.countDevice s u).sta = s.sta.count u.sta := by
  unfold State.countDevice
  dsimp only
  split
  · rfl
  · rfl

@[simp] theorem State.countDevice_assoc (s u : State) : (State.countDevice s u).sta.assoc = u.sta.assoc := by
  rw [State.countDevice_sta]
  rfl

include lengths

theorem State.countDevice_slot {m : Nat} {o x : StaSlot} (before : s.sta.slots[m]? = some o) (after : u.sta.slots[m]? = some x) :
    (State.countDevice s u).sta.slots[m]? = some { x with revision := if StaSlot.changed o x then o.revision + 1 else o.revision } := by
  rw [State.countDevice_sta]
  exact countSlots_get _ _ m lengths.symm _ _ before after

theorem State.countDevice_outside {m : Nat} (h : s.sta.slots.length ≤ m) : (State.countDevice s u).sta.slots[m]? = none := by
  rw [State.countDevice_sta]
  refine List.getElem?_eq_none ?_
  rw [Table.count, countSlots_length]
  omega

/-- R120: the count leaves every record. -/
theorem State.countDevice_recAt (m : Nat) : (State.countDevice s u).sta.recAt m = u.sta.recAt m := by
  by_cases h : m < s.sta.slots.length
  · have after := List.getElem?_eq_getElem (lengths.symm ▸ h)
    rw [Table.recAt_of_slot after,
      Table.recAt_of_slot (State.countDevice_slot lengths (List.getElem?_eq_getElem h) after)]
  · rw [Table.recAt, State.countDevice_outside lengths (by omega), Table.recAt, List.getElem?_eq_none (by omega)]

/-- R120: a slot that stands is as it was. -/
theorem State.countDevice_slot_same {m : Nat} (same : u.sta.slots[m]? = s.sta.slots[m]?) :
    (State.countDevice s u).sta.slots[m]? = s.sta.slots[m]? := by
  by_cases h : m < s.sta.slots.length
  · have before := List.getElem?_eq_getElem h
    rw [State.countDevice_slot lengths before (same.trans before), before, StaSlot.changed_self]
    rfl
  · rw [State.countDevice_outside lengths (by omega), List.getElem?_eq_none (by omega)]

/-- R120: a changed slot's revision rises by 1, and STATION_CHANGED is raised. -/
theorem State.countDevice_changed {m : Nat} {o x : StaSlot} (before : s.sta.slots[m]? = some o) (after : u.sta.slots[m]? = some x)
    (changed : StaSlot.changed o x = true) :
    (State.countDevice s u).revisionOf m = s.revisionOf m + 1 ∧ (State.countDevice s u).port.flags.getLsbD 21 = true := by
  constructor
  · unfold State.revisionOf
    rw [State.countDevice_slot lengths before after, before, changed]
    rfl
  · have any : anyChanged s.sta.slots u.sta.slots = true := (anyChanged_spec _ _ lengths.symm).mpr ⟨m, o, x, before, after, changed⟩
    unfold State.countDevice
    dsimp only
    rw [if_pos any]
    exact Port.raise_sets _ .stationChanged (by decide)

theorem State.countDevice_rewritten {m : Nat} (inside : m < s.sta.slots.length)
    (differs : (u.sta.recAt m).map StationRec.content ≠ (s.sta.recAt m).map StationRec.content) :
    (State.countDevice s u).revisionOf m = s.revisionOf m + 1 ∧ (State.countDevice s u).port.flags.getLsbD 21 = true := by
  have before := List.getElem?_eq_getElem inside
  have after := List.getElem?_eq_getElem (lengths.symm ▸ inside)
  rw [Table.recAt_of_slot before, Table.recAt_of_slot after] at differs
  exact State.countDevice_changed lengths before after (decide_eq_true (.inl (Ne.symm differs)))
end

end Sys2Proof.Machine
end

section
/-! SUPPORT. What a path's decoded data and its frequency do to a record (R119, R123 to R125). -/

namespace Sys2Proof.Machine

/-- R124: a frequency that joins a list is in it. -/
theorem StationRec.join_lists (r : StationRec) (e : FreqEntry) : e.freq ∈ (r.join e).freqs.map FreqEntry.freq := by
  obtain ⟨⟨listed, room, full⟩, -⟩ := r.join_spec e
  by_cases old : e.freq ∈ r.freqs.map FreqEntry.freq
  · rwa [listed old]
  · by_cases short : r.freqs.length < 8
    · rw [room old short]
      simp
    · obtain ⟨k, x, -, -, joined, -⟩ := full old (by omega)
      rw [joined]
      simp

/-- R125: an AF joins where it is a frequency of the band, is not listed and there is room. -/
theorem StationRec.joinAf_eq (r : StationRec) (f : Nat) :
    r.joinAf f = { r with freqs := if Band.owns r.band f = true ∧ f ∉ r.freqs.map FreqEntry.freq ∧ r.freqs.length < 8 then
      r.freqs ++ [⟨f, 0, 65535⟩] else r.freqs } := by
  have listed : r.lists f = true ↔ f ∈ r.freqs.map FreqEntry.freq := by
    simp only [StationRec.lists, List.any_eq_true, beq_iff_eq, List.mem_map]
  unfold StationRec.joinAf
  by_cases h : Band.owns r.band f = false ∨ r.lists f = true ∨ 8 ≤ r.freqs.length
  · rw [if_pos h, if_neg]
    rintro ⟨owned, new, room⟩
    rcases h with other | old | full
    · cases owned.symm.trans other
    · exact new (listed.mp old)
    · omega
  · rw [if_neg h, if_pos]
    obtain ⟨owned, h⟩ := not_or.mp h
    obtain ⟨new, room⟩ := not_or.mp h
    exact ⟨Bool.of_not_eq_false owned, fun old => new (listed.mpr old), by omega⟩

/-- R125: AFs only add to a record's list, at its tail. -/
theorem StationRec.joinAf_adds (r : StationRec) (f : Nat) : ∃ l, r.joinAf f = { r with freqs := r.freqs ++ l } := by
  rw [StationRec.joinAf_eq]
  split
  · exact ⟨_, rfl⟩
  · exact ⟨[], by rw [List.append_nil]⟩

theorem StationRec.joinAfs_add (afs : List Nat) (r : StationRec) : ∃ l, afs.foldl StationRec.joinAf r = { r with freqs := r.freqs ++ l } := by
  induction afs generalizing r with
  | nil => exact ⟨[], by rw [List.append_nil]; rfl⟩
  | cons f fs ih =>
    obtain ⟨l, first⟩ := r.joinAf_adds f
    obtain ⟨l', rest⟩ := ih (r.joinAf f)
    refine ⟨l ++ l', ?_⟩
    rw [List.foldl_cons, rest, first, List.append_assoc]

/-- R125: what a record takes of a path's decoded data. -/
theorem StationRec.take_spec (r : StationRec) (d : Decoded) :
    ∃ l, r.take d = { r with name := d.name.or r.name, pty := d.pty.or r.pty, tp := r.tp || d.tp, freqs := r.freqs ++ l } ∧
      (d.afs = none → l = []) := by
  have fields : r.take d = match d.afs with
      | some l => l.foldl StationRec.joinAf { r with name := d.name.or r.name, pty := d.pty.or r.pty, tp := r.tp || d.tp }
      | none => { r with name := d.name.or r.name, pty := d.pty.or r.pty, tp := r.tp || d.tp } := by
    unfold StationRec.take
    cases d.name <;> cases d.pty <;> rfl
  rw [fields]
  cases d.afs with
  | none => exact ⟨[], by rw [List.append_nil], fun _ => rfl⟩
  | some afs =>
    obtain ⟨l, joined⟩ := StationRec.joinAfs_add afs { r with name := d.name.or r.name, pty := d.pty.or r.pty, tp := r.tp || d.tp }
    exact ⟨l, joined, nofun⟩

/-- R124: what the record with the code takes of the record without one. -/
theorem StationRec.absorb_spec (r old : StationRec) :
    ∃ l, r.absorb old = { r with name := r.name.or old.name, pty := r.pty.or old.pty, tp := r.tp || old.tp, freqs := r.freqs ++ l } := by
  have lists (entries : List FreqEntry) (r : StationRec) : ∃ l, entries.foldl (fun r e => if r.lists e.freq ∨ 8 ≤ r.freqs.length then r
      else { r with freqs := r.freqs ++ [e] }) r = { r with freqs := r.freqs ++ l } := by
    induction entries generalizing r with
    | nil => exact ⟨[], by rw [List.append_nil]; rfl⟩
    | cons e es ih =>
      rw [List.foldl_cons]
      split
      · exact ih r
      · obtain ⟨l, rest⟩ := ih { r with freqs := r.freqs ++ [e] }
        refine ⟨[e] ++ l, ?_⟩
        rw [rest, List.append_assoc]
  obtain ⟨l, joined⟩ := lists old.freqs r
  refine ⟨l, ?_⟩
  unfold StationRec.absorb
  dsimp only
  rw [joined]
  cases r.name <;> cases r.pty <;> rfl

/-! ## Associations (R123) -/

/-- R123: the record of an association that is formed. -/
def StationRec.heardOn (r : StationRec) (x : PathRec) : StationRec :=
  (StationRec.join { r with origin := if r.origin = Origin.scan then Origin.tuned else r.origin, age := 0 } x.entry).take x.decoded

theorem Table.associate_found {t : Table} {x : PathRec} {n : Nat} (p : Path)
    (found : (x.decoded.code.bind t.byCode).or (t.byFreq x.station.band x.station.freq) = some n) :
    t.associate p x = (t.mapRec n (·.heardOn x)).setAssoc p ⟨some n, false⟩ := by
  unfold Table.associate
  rw [t.lookup_both, found]
  rfl

theorem Table.associate_new {t : Table} {x : PathRec} (p : Path)
    (none' : (x.decoded.code.bind t.byCode).or (t.byFreq x.station.band x.station.freq) = none) :
    t.associate p x = t.createFor p x false := by
  unfold Table.associate
  rw [t.lookup_both, none']

theorem PathRec.entry_freq (x : PathRec) : x.entry.freq = x.station.freq := by
  unfold PathRec.entry
  split
  · rfl
  · rfl

theorem StationRec.heardOn_spec (r : StationRec) (x : PathRec) :
    (r.heardOn x).age = 0 ∧ (r.heardOn x).code = r.code ∧ x.station.freq ∈ (r.heardOn x).freqs.map FreqEntry.freq ∧
      (x.decoded.afs = none → Joined r.freqs x.entry (r.heardOn x).freqs) ∧
      (r.heardOn x).origin = (if r.origin = .scan then .tuned else r.origin) ∧
      (∀ v, x.decoded.name = some v → (r.heardOn x).name = some v) ∧ (∀ v, x.decoded.pty = some v → (r.heardOn x).pty = some v) ∧
      (x.decoded.tp = true → (r.heardOn x).tp = true) := by
  let base : StationRec := { r with origin := if r.origin = Origin.scan then Origin.tuned else r.origin, age := 0 }
  obtain ⟨joined, rest⟩ := base.join_spec x.entry
  have listed := base.join_lists x.entry
  obtain ⟨l, taken, added⟩ := (base.join x.entry).take_spec x.decoded
  have eq : r.heardOn x = _ := taken
  rw [rest] at eq
  rw [eq]
  refine ⟨rfl, rfl, ?_, fun no => ?_, rfl, fun v h => ?_, fun v h => ?_, fun h => ?_⟩
  · rw [← x.entry_freq, List.map_append]
    exact List.mem_append_left _ listed
  · dsimp only
    rw [added no, List.append_nil]
    exact joined
  · dsimp only
    rw [h]
    rfl
  · dsimp only
    rw [h]
    rfl
  · dsimp only
    rw [h, Bool.or_true]

/-- R123: the record that a path creates. -/
structure CreatedBy (x : PathRec) (r : StationRec) : Prop where
  code : r.code = x.decoded.code.getD 0
  band : r.band = x.station.band
  origin : r.origin = .tuned
  age : r.age = 0
  head : r.freqs.head? = some x.entry
  name : ∀ v, x.decoded.name = some v → r.name = some v

theorem StationRec.created (x : PathRec) (q : Option Nat) : CreatedBy x (StationRec.take { x.newRecord with preset := q } x.decoded) := by
  obtain ⟨l, taken, -⟩ := StationRec.take_spec { x.newRecord with preset := q } x.decoded
  rw [taken]
  refine ⟨rfl, rfl, rfl, rfl, rfl, fun v h => ?_⟩
  dsimp only
  rw [h]
  rfl

theorem Table.createFor_of_takes {t : Table} {i : Nat} (h : TakesSlot t i) (p : Path) (x : PathRec) (awaiting : Bool) :
    (t.createFor p x awaiting).assoc.get p = ⟨some i, awaiting⟩ ∧ (∃ r, (t.createFor p x awaiting).recAt i = some r ∧ CreatedBy x r) ∧
      ∀ m, m ≠ i → (t.createFor p x awaiting).recAt m = t.recAt m := by
  obtain ⟨u, q, created, entered, others⟩ := Table.create_of_takes h x.newRecord
  unfold Table.createFor
  rw [created]
  dsimp only
  refine ⟨PerPath.get_set_same .., ⟨_, ?_, StationRec.created x q⟩, fun m hm => ?_⟩
  · rw [Table.setAssoc_recAt, Table.mapRec_recAt_same, entered]
    rfl
  · rw [Table.setAssoc_recAt, Table.mapRec_recAt_ne _ hm, others m hm]

theorem Table.createFor_of_full {t : Table} (h : ∀ i, ¬ TakesSlot t i) (p : Path) (x : PathRec) (awaiting : Bool) :
    t.createFor p x awaiting = t.setAssoc p ⟨none, false⟩ := by
  unfold Table.createFor
  rw [Table.create_of_full h]

/-- R119, R120: a created record is a change of its slot, which held none or one of origin SCAN. -/
theorem CreatedBy.differs {t : Table} {i : Nat} {x : PathRec} {r : StationRec} (h : CreatedBy x r) (takes : TakesSlot t i) :
    (some r).map StationRec.content ≠ (t.recAt i).map StationRec.content := by
  rcases takes with ⟨-, empty, -⟩ | ⟨-, o, held, scan, -⟩
  · rw [empty]
    nofun
  · rw [held]
    intro same
    have content : r.content = o.content := Option.some.inj same
    have origin : r.content.origin = o.content.origin := by rw [content]
    change r.origin = o.origin at origin
    rw [h.origin, scan] at origin
    cases origin

end Sys2Proof.Machine
end

section
/-! SUPPORT. A code that arrives at a path (R124): the record that has it, the merge, and the record that takes it. -/

namespace Sys2Proof.Machine

/-- R124: the path's association holds an FM record without a code. -/
abbrev Table.Codeless (t : Table) (p : Path) (a : Nat) (o : StationRec) : Prop :=
  (t.assoc.get p).slot = some a ∧ t.recAt a = some o ∧ o.band = .fm ∧ o.code = 0

theorem Table.codeless_of {t : Table} {p : Path} {a : Nat} {o : StationRec} (h : t.Codeless p a o) : t.codeless p = some a := by
  obtain ⟨slot, held, fm, zero⟩ := h
  unfold Table.codeless
  rw [slot]
  dsimp only
  rw [held]
  exact if_pos ⟨fm, zero⟩

theorem Table.codeless_none {t : Table} {p : Path} (h : ∀ a o, ¬ t.Codeless p a o) : t.codeless p = none := by
  unfold Table.codeless
  split
  next a slot =>
    split
    next o held => exact if_neg fun both => h a o ⟨slot, held, both⟩
    next => rfl
  next => rfl

/-- R124: the record that has the code, heard on the path. -/
def StationRec.coded (r : StationRec) (x : PathRec) : StationRec := { r.join x.entry with age := 0 }

theorem StationRec.coded_spec (r : StationRec) (x : PathRec) : Joined r.freqs x.entry (r.coded x).freqs ∧
    r.coded x = { r with age := 0, freqs := (r.coded x).freqs } ∧ x.station.freq ∈ (r.coded x).freqs.map FreqEntry.freq := by
  obtain ⟨joined, rest⟩ := r.join_spec x.entry
  refine ⟨joined, ?_, x.entry_freq ▸ r.join_lists x.entry⟩
  unfold StationRec.coded
  rw [rest]

section
variable {t : Table} {c : Nat} (known : c ≠ 0) (p : Path) (x : PathRec)
include known

theorem Table.codeArrives_held {n : Nat} (found : t.byCode c = some n) (plain : ∀ a o, ¬ t.Codeless p a o) :
    t.codeArrives p x true c = (t.mapRec n (·.coded x)).setAssoc p ⟨some n, (t.assoc.get p).awaiting⟩ := by
  unfold Table.codeArrives
  rw [if_neg known, found, Table.codeless_none plain]
  rfl

theorem Table.codeArrives_merge {n a : Nat} {r o : StationRec} (found : t.byCode c = some n) (held : t.recAt n = some r)
    (zero : t.Codeless p a o) :
    a ≠ n ∧ t.codeArrives p x true c = ((t.mapRec n (·.coded x)).merge a n).setAssoc p ⟨some n, (t.assoc.get p).awaiting⟩ := by
  have ne : a ≠ n := by
    rintro rfl
    obtain rfl := Option.some.inj (held.symm.trans zero.2.1)
    exact known ((Table.byCode_code found held).symm.trans zero.2.2.2)
  refine ⟨ne, ?_⟩
  unfold Table.codeArrives
  rw [if_neg known, found, Table.codeless_of zero]
  dsimp only
  rw [if_pos rfl, if_neg ne]
  rfl

theorem Table.codeArrives_taken {a : Nat} {o : StationRec} (none' : t.byCode c = none) (zero : t.Codeless p a o) :
    t.codeArrives p x true c = t.mapRec a (fun r => { r with code := c }) := by
  unfold Table.codeArrives
  rw [if_neg known, none', Table.codeless_of zero]
  rfl

theorem Table.codeArrives_new (none' : t.byCode c = none) (slot : (t.assoc.get p).slot = none) :
    t.codeArrives p x true c = t.createFor p x (t.assoc.get p).awaiting := by
  unfold Table.codeArrives
  rw [if_neg known, none', Table.codeless_none fun a o zero => by cases slot.symm.trans zero.1]
  rfl
end

/-! ## The merge -/

/-- R124: the record that is merged into takes the other's data and, where it has none, its preset. -/
theorem Table.merge_spec {t : Table} {a b : Nat} {old r : StationRec} {y : StaSlot} (ne : a ≠ b) (source : t.recAt a = some old)
    (slot : t.slots[b]? = some y) (target : y.record = some r) :
    (t.merge a b).recAt a = none ∧
      ∃ q, (t.merge a b).slots[b]? = some ⟨some { r.absorb old with preset := q }, y.revision + 1⟩ := by
  have held : t.recAt b = some r := (Table.recAt_of_slot slot).trans target
  have touched : ((t.touch b).mapRec b (·.absorb old)).slots[b]? = some ⟨some (r.absorb old), y.revision + 1⟩ := by
    rw [Table.mapRec, getElem?_updateAt, if_pos rfl, Table.touch, getElem?_updateAt, if_pos rfl, slot]
    simp [target]
  have left (u : Table) : (u.leave a).slots[b]? = u.slots[b]? := by
    rw [Table.leave, Table.orphan, Table.setRec, getElem?_updateAt, if_neg (Ne.symm ne)]
  have preset : (r.absorb old).preset = r.preset := by
    obtain ⟨l, absorbed⟩ := r.absorb_spec old
    rw [absorbed]
  unfold Table.merge
  rw [source, held]
  dsimp only
  refine ⟨Table.leave_recAt_same .., ?_⟩
  rw [left]
  split
  next q _ _ =>
    refine ⟨some q, ?_⟩
    rw [Table.mapRec, getElem?_updateAt, if_pos rfl, Table.linkPreset, Table.mapPreset, touched]
    rfl
  next => exact ⟨r.preset, by rw [touched, ← preset]⟩

end Sys2Proof.Machine
end

section
/-! SUPPORT. A measurement of a LOCKED path and a decoded item (R102, R104, R110, R114, R123). -/

namespace Sys2Proof.Machine

/-! ## The measurement's parts -/

/-- R102: the path's record after the measurement. -/
def PathRec.heard (x : PathRec) (fs mp adj : Nat) : PathRec :=
  { x with fs := fs, mp := mp, adj := adj, q := quality fs mp adj, measured := true }

/-- R110: the watches that the measurement reaches. -/
def Watches.hear (w : Watches) (radio own : Nat) : Path → Watches
  | .p1 => w.deliver .q1 (radio : Int)
  | .p2 => w.deliver .q2 (own : Int)

/-- R123: a later good measurement makes the age of the path's record 0. -/
def Table.heardAgain (t : Table) (p : Path) : Table :=
  match (t.assoc.get p).slot with
  | some n => t.mapRec n (fun r => { r with age := 0 })
  | none => t

def State.heard (s : State) (p : Path) (fs mp adj : Nat) : State := s.setPath p ((s.path p).heard fs mp adj)

/-- R110, R114, R115: the measurement is handed to the watches, and to the hold count or the trial. -/
def State.handed (s : State) (q : Nat) : Path → State
  | .p1 => (s.deliver .q1 (s.radioQuality : Int)).holdStep
  | .p2 => (s.deliver .q2 (q : Int)).trialStep q

theorem State.measure_eq (s : State) (p : Path) (fs mp adj : Nat) :
    s.measure p fs mp adj = ((s.heard p fs mp adj).handed (quality fs mp adj) p).assocStep p := by
  cases p <;> rfl

theorem quality_eq (fs mp adj : Nat) :
    (quality fs mp adj : Int) = max 0 (min 100 (2 * ((fs : Int) - 15) - ((mp / 2 : Nat) : Int) - ((adj / 2 : Nat) : Int))) := by
  unfold quality clampInt
  (repeat' split) <;> omega

/-- R114: what the hold count becomes. -/
theorem State.holdStep_tun (s : State) : s.holdStep.tun =
    if s.tun.settings.afThreshold ≤ s.radioQuality then s.tun.emptyHold
    else if s.tun.flags.af ∧ s.tun.check.isNone ∧ (s.path .p1).station.band = .fm then s.tun.raiseHold else s.tun := by
  unfold State.holdStep
  split
  · rfl
  · split
    · rfl
    · rfl

theorem State.holdStep_rest (s : State) : (∀ p, s.holdStep.path p = s.path p) ∧ s.holdStep.sta = s.sta ∧ s.holdStep.wat = s.wat := by
  unfold State.holdStep
  split
  · exact ⟨fun _ => rfl, rfl, rfl⟩
  · split
    · exact ⟨fun _ => rfl, rfl, rfl⟩
    · exact ⟨fun _ => rfl, rfl, rfl⟩

theorem State.handed_rest (s : State) (q : Nat) (p : Path) :
    (∀ r, (s.handed q p).path r = s.path r) ∧ (s.handed q p).sta = s.sta ∧
      (s.handed q p).wat = s.wat.hear s.radioQuality q p := by
  cases p with
  | p1 => exact State.holdStep_rest _
  | p2 => exact ⟨fun _ => rfl, rfl, rfl⟩

theorem State.assocStep_rest (s : State) (p : Path) : (s.assocStep p).tun = s.tun ∧ (s.assocStep p).wat = s.wat := by
  unfold State.assocStep
  dsimp only
  split
  · exact ⟨rfl, rfl⟩
  · split
    · exact ⟨rfl, rfl⟩
    · split
      · exact ⟨rfl, rfl⟩
      · exact ⟨rfl, rfl⟩

/-- R123: the station table's part of a measurement that is good enough, on a path with a listener source. -/
theorem State.assocStep_sta {s : State} {p : Path} (carries : (s.path p).carries p = true) (good : s.sta.admitQ ≤ (s.path p).q) :
    (s.assocStep p).sta = if (s.sta.assoc.get p).awaiting then s.sta.associate p (s.path p)
      else s.sta.heardAgain p := by
  unfold State.assocStep
  dsimp only
  rw [if_neg (not_or.mpr ⟨by rw [carries]; nofun, by omega⟩)]
  split
  · rfl
  · unfold Table.heardAgain
    cases (s.sta.assoc.get p).slot with
    | none => rfl
    | some n => rfl

@[simp] theorem State.countDevice_wat (s u : State) : (State.countDevice s u).wat = u.wat := by
  unfold State.countDevice
  dsimp only
  split <;> simp

/-! ## The whole of it -/

/-- R102, R120: the whole of a measurement's effect. -/
def State.measured (s : State) (p : Path) (fs mp adj : Nat) : State := State.countDevice s (s.measure p fs mp adj)

theorem exec_pathMeasurement {s : State} (run : s.port.op = .run) {p : Path} (locked : (s.path p).state = .locked) (fs mp adj : Nat) :
    exec (.pathMeasurement p fs mp adj) s = .next (s.measured p fs mp adj) := by
  change Host.Outcome.next (if s.running ∧ (s.path p).state = .locked then _ else _) = _
  rw [if_pos ⟨s.running_iff.mpr run, locked⟩]
  rfl

theorem exec_pathMeasurement_off {s : State} {p : Path} (off : (s.path p).state ≠ .locked) (fs mp adj : Nat) :
    exec (.pathMeasurement p fs mp adj) s = .next s := by
  change Host.Outcome.next (if s.running ∧ (s.path p).state = .locked then _ else _) = _
  rw [if_neg fun both => off both.2]

section
variable (s : State) (p : Path) (fs mp adj : Nat)

theorem State.measured_path (r : Path) : (s.measured p fs mp adj).path r = (s.heard p fs mp adj).path r := by
  rw [State.measured, State.countDevice_path, State.measure_eq, State.path_of_tun (State.assocStep_rest ..).1]
  exact (State.handed_rest ..).1 r

theorem State.measured_tun : (s.measured p fs mp adj).tun = ((s.heard p fs mp adj).handed (quality fs mp adj) p).tun := by
  rw [State.measured, State.countDevice_tun, State.measure_eq, (State.assocStep_rest ..).1]

theorem State.radioQuality_of_path {s t : State} (h : ∀ p, t.path p = s.path p) : t.radioQuality = s.radioQuality := by
  unfold State.radioQuality
  rw [h, h]

theorem State.measured_quality : (s.measured p fs mp adj).radioQuality = (s.heard p fs mp adj).radioQuality :=
  State.radioQuality_of_path (s.measured_path p fs mp adj)

theorem State.measured_wat : (s.measured p fs mp adj).wat = s.wat.hear (s.measured p fs mp adj).radioQuality ((s.measured p fs mp adj).path .p2).q p := by
  have wat : (s.measured p fs mp adj).wat = ((s.heard p fs mp adj).handed (quality fs mp adj) p).wat := by
    rw [State.measured, State.countDevice_wat, State.measure_eq, (State.assocStep_rest ..).2]
  rw [wat, (State.handed_rest ..).2.2, State.measured_quality, State.measured_path]
  cases p <;> rfl

/-- R114: what P1's measurement makes of the hold count. -/
theorem State.measured_hold : (s.measured .p1 fs mp adj).tun.holdCount =
      (if s.tun.settings.afThreshold ≤ (s.measured .p1 fs mp adj).radioQuality then 0
        else if s.tun.flags.af ∧ s.tun.check.isNone ∧ (s.path .p1).station.band = .fm then s.tun.holdCount + 10 else s.tun.holdCount) ∧
    (s.measured .p1 fs mp adj).tun.holdDue =
      (if s.tun.settings.afThreshold ≤ (s.measured .p1 fs mp adj).radioQuality then false
        else if s.tun.flags.af ∧ s.tun.check.isNone ∧ (s.path .p1).station.band = .fm then
          decide (s.tun.settings.afHold ≤ s.tun.holdCount + 10) else s.tun.holdDue) := by
  rw [State.measured_tun, State.measured_quality]
  have tun : ((s.heard .p1 fs mp adj).handed (quality fs mp adj) .p1).tun =
      if s.tun.settings.afThreshold ≤ (s.heard .p1 fs mp adj).radioQuality then (s.heard .p1 fs mp adj).tun.emptyHold
      else if s.tun.flags.af ∧ s.tun.check.isNone ∧ (s.path .p1).station.band = .fm then (s.heard .p1 fs mp adj).tun.raiseHold
      else (s.heard .p1 fs mp adj).tun :=
    State.holdStep_tun ((s.heard .p1 fs mp adj).deliver .q1 ((s.heard .p1 fs mp adj).radioQuality : Int))
  rw [tun]
  split
  · exact ⟨rfl, rfl⟩
  · split
    · exact ⟨rfl, rfl⟩
    · exact ⟨rfl, rfl⟩

/-- R123: the table that a good measurement leaves, its changes not yet counted. -/
theorem State.measure_sta (listens : p = .p1 ∨ (s.path .p2).role = .rear) (good : s.sta.admitQ ≤ quality fs mp adj) :
    (s.measure p fs mp adj).sta = if (s.sta.assoc.get p).awaiting then s.sta.associate p ((s.path p).heard fs mp adj)
      else s.sta.heardAgain p := by
  obtain ⟨path, sta, -⟩ := (s.heard p fs mp adj).handed_rest (quality fs mp adj) p
  have own : ((s.heard p fs mp adj).handed (quality fs mp adj) p).path p = (s.path p).heard fs mp adj := by
    rw [path, State.heard, State.setPath_path]
  have sta' : ((s.heard p fs mp adj).handed (quality fs mp adj) p).sta = s.sta := sta
  rw [State.measure_eq, State.assocStep_sta, own, sta']
  · rw [own]
    cases p with
    | p1 => rfl
    | p2 => exact beq_iff_eq.mpr (listens.resolve_left nofun)
  · rw [own, sta']
    exact good

theorem State.measure_length : (s.measure p fs mp adj).sta.slots.length = s.sta.slots.length := by
  have frame := s.measure_frame p fs mp adj
  simp_all only [TunerFrame]
end

/-! ## A decoded item -/

/-- R104, R120: the whole of a decoded item's effect. -/
def State.itemRead (s : State) (p : Path) (item : DecodedItem) : State := State.countDevice s (s.decodeItem p item)

theorem exec_decodedField {s : State} (run : s.port.op = .run) {p : Path} (locked : (s.path p).state = .locked)
    (fm : (s.path p).station.band = .fm) (item : DecodedItem) : exec (.decodedField p item) s = .next (s.itemRead p item) := by
  change Host.Outcome.next (if s.running ∧ (s.path p).state = .locked ∧ (s.path p).station.band = .fm then _ else _) = _
  rw [if_pos ⟨s.running_iff.mpr run, locked, fm⟩]
  rfl

theorem exec_decodedField_off {s : State} {p : Path} (off : (s.path p).state ≠ .locked) (item : DecodedItem) :
    exec (.decodedField p item) s = .next s := by
  change Host.Outcome.next (if s.running ∧ (s.path p).state = .locked ∧ (s.path p).station.band = .fm then _ else _) = _
  rw [if_neg fun all => off all.2.1]

/-- R104: the path's record with the item read. -/
abbrev PathRec.reads (x : PathRec) (item : DecodedItem) : PathRec := { x with decoded := x.decoded.read item }

theorem State.tableItem_tun (s : State) (p : Path) (item : DecodedItem) : (s.tableItem p item).tun = s.tun := by
  unfold State.tableItem
  dsimp only
  (repeat' split) <;> rfl

theorem State.decodeItem_path (s : State) (p : Path) (item : DecodedItem) :
    (s.decodeItem p item).path p = (s.path p).reads item ∧ ∀ r, r ≠ p → (s.decodeItem p item).path r = s.path r := by
  unfold State.decodeItem
  dsimp only
  split
  next same => exact ⟨by rw [PathRec.reads, same], fun _ _ => rfl⟩
  next =>
    refine ⟨?_, fun r hr => ?_⟩
    · rw [State.annSync_path, State.path_of_tun (State.tableItem_tun ..), State.setPath_path]
    · rw [State.annSync_path, State.path_of_tun (State.tableItem_tun ..), State.setPath_path_ne _ _ hr.symm]

theorem State.annSync_sta (s : State) (p : Path) : (s.annSync p).sta = s.sta := by
  have frame := s.annSync_frame p
  simp_all only [ClaimFrame]

theorem State.decodeItem_length (s : State) (p : Path) (item : DecodedItem) :
    (s.decodeItem p item).sta.slots.length = s.sta.slots.length := by
  have frame := s.decodeItem_frame p item
  simp_all only [TunerFrame]

section
variable {s : State} {p : Path} (listens : p = .p1 ∨ (s.path .p2).role = .rear)
include listens

theorem PathRec.reads_carries (item : DecodedItem) : ((s.path p).reads item).carries p = true := by
  cases p with
  | p1 => rfl
  | p2 => exact beq_iff_eq.mpr (listens.resolve_left nofun)

/-- R124: a code that is new to the path reaches the table. -/
theorem State.decodeItem_code {c : Nat} (new : (s.path p).decoded.code ≠ some c) :
    (s.decodeItem p (.code c)).sta = s.sta.codeArrives p ((s.path p).reads (.code c)) true c := by
  have differs : (s.path p).decoded.read (.code c) ≠ (s.path p).decoded := fun same => new (congrArg Decoded.code same).symm
  have carries := PathRec.reads_carries listens (.code c)
  unfold State.decodeItem
  dsimp only
  rw [if_neg differs, State.annSync_sta]
  unfold State.tableItem
  dsimp only
  rw [State.setPath_path, carries, if_pos (.inl rfl)]
  rfl

/-- R125: any other item that is new to the path reaches its record. -/
theorem State.decodeItem_field {item : DecodedItem} (field : ∀ c, item ≠ .code c)
    (new : (s.path p).decoded.read item ≠ (s.path p).decoded) :
    (s.decodeItem p item).sta = s.sta.fieldArrives p item (((s.path p).decoded.read item).afs.getD []) := by
  have carries := PathRec.reads_carries listens item
  unfold State.decodeItem
  dsimp only
  rw [if_neg new, State.annSync_sta]
  unfold State.tableItem
  dsimp only
  rw [State.setPath_path, carries]
  cases item with
  | code c => exact absurd rfl (field c)
  | sync on =>
    refine Eq.symm ?_
    unfold Table.fieldArrives
    split
    · rfl
    · rfl
  | ta on =>
    refine Eq.symm ?_
    unfold Table.fieldArrives
    split
    · rfl
    · rfl
  | name v => rfl
  | pty v => rfl
  | tp v => rfl
  | af f => rfl
end

end Sys2Proof.Machine
end

section
/-! OBLIGATIONS. Measurements and decoded items (O44). -/

namespace Sys2Proof.Machine

/-! ## The station table after a measurement (R123) -/

section
variable {s : State} {p : Path} {fs mp adj : Nat} (listens : p = .p1 ∨ (s.path .p2).role = .rear)
  (good : s.sta.admitQ ≤ quality fs mp adj)
include listens good

/-- R123: the first good measurement since the lock, where a record is found. -/
theorem State.measured_found (awaiting : (s.sta.assoc.get p).awaiting = true) {n : Nat} {r : StationRec}
    (found : ((s.path p).decoded.code.bind s.sta.byCode).or (s.sta.byFreq (s.path p).station.band (s.path p).station.freq) = some n)
    (held : s.sta.recAt n = some r) :
    (s.measured p fs mp adj).sta.assoc.get p = ⟨some n, false⟩ ∧
      (s.measured p fs mp adj).sta.recAt n = some (r.heardOn ((s.path p).heard fs mp adj)) := by
  have sta := s.measure_sta p fs mp adj listens good
  rw [if_pos awaiting, Table.associate_found (x := (s.path p).heard fs mp adj) p found] at sta
  rw [State.measured, State.countDevice_assoc, State.countDevice_recAt (s.measure_length p fs mp adj), sta]
  exact ⟨PerPath.get_set_same .., by rw [Table.setAssoc_recAt, Table.mapRec_recAt_same, held]; rfl⟩

/-- R123: where none is found and none can be created. -/
theorem State.measured_full (awaiting : (s.sta.assoc.get p).awaiting = true)
    (none' : ((s.path p).decoded.code.bind s.sta.byCode).or (s.sta.byFreq (s.path p).station.band (s.path p).station.freq) = none)
    (full : ∀ i, ¬ TakesSlot s.sta i) :
    (s.measured p fs mp adj).sta.slots = s.sta.slots ∧ (s.measured p fs mp adj).sta.assoc.get p = ⟨none, false⟩ := by
  have sta := s.measure_sta p fs mp adj listens good
  rw [if_pos awaiting, Table.associate_new (x := (s.path p).heard fs mp adj) p none', Table.createFor_of_full full] at sta
  have slots : (s.measure p fs mp adj).sta.slots = s.sta.slots := by rw [sta]; rfl
  rw [State.measured, State.countDevice_of_slots slots, sta]
  exact ⟨rfl, PerPath.get_set_same ..⟩

/-- R123: where none is found and one is created. -/
theorem State.measured_new (awaiting : (s.sta.assoc.get p).awaiting = true)
    (none' : ((s.path p).decoded.code.bind s.sta.byCode).or (s.sta.byFreq (s.path p).station.band (s.path p).station.freq) = none)
    {i : Nat} (takes : TakesSlot s.sta i) :
    (∀ m, m ≠ i → (s.measured p fs mp adj).sta.recAt m = s.sta.recAt m) ∧
      (s.measured p fs mp adj).sta.assoc.get p = ⟨some i, false⟩ ∧
      (s.measured p fs mp adj).revisionOf i = s.revisionOf i + 1 ∧ (s.measured p fs mp adj).port.flags.getLsbD 21 = true ∧
      ∃ r, (s.measured p fs mp adj).sta.recAt i = some r ∧ CreatedBy ((s.path p).heard fs mp adj) r := by
  have sta := s.measure_sta p fs mp adj listens good
  rw [if_pos awaiting, Table.associate_new (x := (s.path p).heard fs mp adj) p none'] at sta
  obtain ⟨assoc, ⟨r, entered, created⟩, others⟩ := Table.createFor_of_takes takes p ((s.path p).heard fs mp adj) false
  rw [← sta] at assoc entered others
  have lengths := s.measure_length p fs mp adj
  obtain ⟨revision, told⟩ := State.countDevice_rewritten lengths takes.lt (by rw [entered]; exact created.differs takes)
  have records := State.countDevice_recAt lengths
  rw [State.measured, State.countDevice_assoc]
  exact ⟨fun m hm => (records m).trans (others m hm), assoc, revision, told, r, (records i).trans entered, created⟩

/-- R123: a later good measurement. -/
theorem State.measured_again (formed : (s.sta.assoc.get p).awaiting = false) {n : Nat} (slot : (s.sta.assoc.get p).slot = some n) :
    (s.measured p fs mp adj).sta.assoc = s.sta.assoc ∧
      (s.measured p fs mp adj).sta.recAt n = (s.sta.recAt n).map (fun r => { r with age := 0 }) := by
  have sta := s.measure_sta p fs mp adj listens good
  rw [if_neg (by rw [formed]; nofun), Table.heardAgain, slot] at sta
  rw [State.measured, State.countDevice_assoc, State.countDevice_recAt (s.measure_length p fs mp adj), sta]
  exact ⟨rfl, Table.mapRec_recAt_same ..⟩
end

/-! ## The station table after a decoded field (R125) -/

section
variable {s : State} {p : Path}

/-- R104: an item that the path has already changes nothing. -/
theorem State.itemRead_same {item : DecodedItem} (same : (s.path p).decoded.read item = (s.path p).decoded) : s.itemRead p item = s := by
  have still : s.decodeItem p item = s := if_pos same
  rw [State.itemRead, still, State.countDevice_self]

variable (listens : p = .p1 ∨ (s.path .p2).role = .rear)
include listens

theorem State.itemRead_unlinked {item : DecodedItem} (field : ∀ c, item ≠ .code c) (slot : (s.sta.assoc.get p).slot = none) :
    (s.itemRead p item).sta.slots = s.sta.slots := by
  by_cases same : (s.path p).decoded.read item = (s.path p).decoded
  · rw [State.itemRead_same same]
  · have sta := State.decodeItem_field listens field same
    rw [Table.fieldArrives, slot] at sta
    rw [State.itemRead, State.countDevice_of_slots (congrArg Table.slots sta), sta]

/-- R125: the record that a field reaches. -/
theorem State.itemRead_reaches {item : DecodedItem} {n : Nat} {r : StationRec} {g : StationRec → StationRec} (field : ∀ c, item ≠ .code c)
    (new : (s.path p).decoded.read item ≠ (s.path p).decoded) (held : s.sta.recAt n = some r)
    (reaches : s.sta.fieldArrives p item (((s.path p).decoded.read item).afs.getD []) = s.sta.mapRec n g) :
    (s.itemRead p item).sta.recAt n = some (g r) ∧
      ((g r).content ≠ r.content → (s.itemRead p item).revisionOf n = s.revisionOf n + 1 ∧
        (s.itemRead p item).port.flags.getLsbD 21 = true) := by
  have reached : (s.decodeItem p item).sta.recAt n = some (g r) := by
    rw [State.decodeItem_field listens field new, reaches, Table.mapRec_recAt_same, held]
    rfl
  refine ⟨(State.countDevice_recAt (s.decodeItem_length p item) n).trans reached, fun differs => ?_⟩
  refine State.countDevice_rewritten (s.decodeItem_length p item) (Table.recAt_lt held) ?_
  rw [reached, held]
  exact fun same => differs (Option.some.inj same)

variable {n : Nat} (slot : (s.sta.assoc.get p).slot = some n)
include slot

/-- R125: the other records' slots stand. -/
theorem State.itemRead_others {item : DecodedItem} (field : ∀ c, item ≠ .code c) {m : Nat} (hm : m ≠ n) :
    (s.itemRead p item).sta.slots[m]? = s.sta.slots[m]? := by
  by_cases same : (s.path p).decoded.read item = (s.path p).decoded
  · rw [State.itemRead_same same]
  · refine State.countDevice_slot_same (s.decodeItem_length p item) ?_
    rw [State.decodeItem_field listens field same, Table.fieldArrives, slot]
    cases item with
    | code c => exact absurd rfl (field c)
    | sync on => rfl
    | ta on => rfl
    | name v => exact Table.mapRec_slots_ne _ hm _
    | pty v => exact Table.mapRec_slots_ne _ hm _
    | tp v => exact Table.mapRec_slots_ne _ hm _
    | af f => exact Table.mapRec_slots_ne _ hm _
end

/-! ## The station table after a code (R124) -/

section
variable {s : State} {p : Path} {c : Nat} (listens : p = .p1 ∨ (s.path .p2).role = .rear) (known : c ≠ 0)
  (new : (s.path p).decoded.code ≠ some c)
include listens known new

/-- R124: a record has the code, and no record without one is merged. -/
theorem State.codeRead_held {n : Nat} {r : StationRec} (found : s.sta.byCode c = some n) (held : s.sta.recAt n = some r)
    (plain : ∀ a o, ¬ s.sta.Codeless p a o) :
    ((s.itemRead p (.code c)).sta.assoc.get p).slot = some n ∧
      (s.itemRead p (.code c)).sta.recAt n = some (r.coded ((s.path p).reads (.code c))) := by
  have sta := (State.decodeItem_code listens new).trans (Table.codeArrives_held known p _ found plain)
  rw [State.itemRead, State.countDevice_assoc, State.countDevice_recAt (s.decodeItem_length p _), sta]
  exact ⟨congrArg Assoc.slot (PerPath.get_set_same ..), by rw [Table.setAssoc_recAt, Table.mapRec_recAt_same, held]; rfl⟩

/-- R124: a record has the code, and the path's record without one is merged into it. -/
theorem State.codeRead_merge {n a : Nat} {r o : StationRec} (found : s.sta.byCode c = some n) (held : s.sta.recAt n = some r)
    (zero : s.sta.Codeless p a o) :
    ((s.itemRead p (.code c)).sta.assoc.get p).slot = some n ∧ (s.itemRead p (.code c)).sta.recAt a = none ∧
      (∃ q, (s.itemRead p (.code c)).sta.recAt n = some { (r.coded ((s.path p).reads (.code c))).absorb o with preset := q }) ∧
      (s.itemRead p (.code c)).revisionOf a = s.revisionOf a + 1 ∧ (s.itemRead p (.code c)).revisionOf n = s.revisionOf n + 1 ∧
      (s.itemRead p (.code c)).port.flags.getLsbD 21 = true := by
  let x := (s.path p).reads (.code c)
  have lengths := s.decodeItem_length p (.code c)
  obtain ⟨ne, arrives⟩ := Table.codeArrives_merge known p x found held zero
  have sta := (State.decodeItem_code listens new).trans arrives
  obtain ⟨y, before, record⟩ : ∃ y, s.sta.slots[n]? = some y ∧ y.record = some r :=
    ⟨_, List.getElem?_eq_getElem (Table.recAt_lt held), (Table.recAt_of_slot (List.getElem?_eq_getElem (Table.recAt_lt held))).symm.trans held⟩
  have heard : (s.sta.mapRec n (·.coded x)).slots[n]? = some { y with record := some (r.coded x) } := by
    rw [Table.mapRec, getElem?_updateAt, if_pos rfl, before]
    simp [record]
  obtain ⟨gone, q, merged⟩ := Table.merge_spec ne ((s.sta.mapRec_recAt_ne ne _).trans zero.2.1) heard rfl
  have after : (s.decodeItem p (.code c)).sta.slots[n]? = some ⟨some { (r.coded x).absorb o with preset := q }, y.revision + 1⟩ := by
    rw [sta]
    exact merged
  have emptied : (s.decodeItem p (.code c)).sta.recAt a = none := by
    rw [sta]
    exact gone
  obtain ⟨revision, told⟩ := State.countDevice_changed lengths before after
    (decide_eq_true (.inr (show y.revision ≠ y.revision + 1 by bv_omega)))
  obtain ⟨revision', -⟩ := State.countDevice_rewritten lengths (Table.recAt_lt zero.2.1) (by rw [emptied, zero.2.1]; nofun)
  have records := State.countDevice_recAt lengths
  refine ⟨?_, (records a).trans emptied, ⟨q, (records n).trans (Table.recAt_of_slot after)⟩, revision', revision, told⟩
  rw [State.itemRead, State.countDevice_assoc, sta]
  exact congrArg Assoc.slot (PerPath.get_set_same ..)

/-- R124: no record has the code, and the path's record without one takes it. -/
theorem State.codeRead_taken {a : Nat} {o : StationRec} (none' : s.sta.byCode c = none) (zero : s.sta.Codeless p a o) :
    (s.itemRead p (.code c)).sta.recAt a = some { o with code := c } ∧ ((s.itemRead p (.code c)).sta.assoc.get p).slot = some a ∧
      (s.itemRead p (.code c)).revisionOf a = s.revisionOf a + 1 ∧ (s.itemRead p (.code c)).port.flags.getLsbD 21 = true := by
  have lengths := s.decodeItem_length p (.code c)
  have sta := (State.decodeItem_code listens new).trans (Table.codeArrives_taken known p _ none' zero)
  have taken : (s.decodeItem p (.code c)).sta.recAt a = some { o with code := c } := by
    rw [sta, Table.mapRec_recAt_same, zero.2.1]
    rfl
  have counted := State.countDevice_rewritten lengths (Table.recAt_lt zero.2.1) (by
    rw [taken, zero.2.1]
    intro same
    have content : StationRec.content { o with code := c } = o.content := Option.some.inj same
    have code : (StationRec.content { o with code := c }).code = o.content.code := by rw [content]
    exact known (code.trans zero.2.2.2))
  refine ⟨(State.countDevice_recAt lengths a).trans taken, ?_, counted⟩
  rw [State.itemRead, State.countDevice_assoc, sta]
  exact zero.1

/-- R124: no record has the code, the path has no association, and none can be created. -/
theorem State.codeRead_full (none' : s.sta.byCode c = none) (slot : (s.sta.assoc.get p).slot = none) (full : ∀ i, ¬ TakesSlot s.sta i) :
    (s.itemRead p (.code c)).sta.slots = s.sta.slots ∧ ((s.itemRead p (.code c)).sta.assoc.get p).slot = none := by
  have sta := (State.decodeItem_code listens new).trans (Table.codeArrives_new known p _ none' slot)
  rw [Table.createFor_of_full full] at sta
  have slots : (s.decodeItem p (.code c)).sta.slots = s.sta.slots := by
    rw [sta]
    rfl
  rw [State.itemRead, State.countDevice_of_slots slots, sta]
  exact ⟨rfl, congrArg Assoc.slot (PerPath.get_set_same ..)⟩

/-- R124: no record has the code, the path has no association, and one is created. -/
theorem State.codeRead_new (none' : s.sta.byCode c = none) (slot : (s.sta.assoc.get p).slot = none) {i : Nat}
    (takes : TakesSlot s.sta i) :
    ((s.itemRead p (.code c)).sta.assoc.get p).slot = some i ∧ (s.itemRead p (.code c)).port.flags.getLsbD 21 = true ∧
      (∀ m, m ≠ i → (s.itemRead p (.code c)).sta.recAt m = s.sta.recAt m) ∧
      ∃ r, (s.itemRead p (.code c)).sta.recAt i = some r ∧ CreatedBy ((s.path p).reads (.code c)) r := by
  have lengths := s.decodeItem_length p (.code c)
  have sta := (State.decodeItem_code listens new).trans (Table.codeArrives_new known p _ none' slot)
  obtain ⟨assoc, ⟨r, entered, created⟩, others⟩ :=
    Table.createFor_of_takes takes p ((s.path p).reads (.code c)) (s.sta.assoc.get p).awaiting
  rw [← sta] at assoc entered others
  have told := (State.countDevice_rewritten lengths takes.lt (by rw [entered]; exact created.differs takes)).2
  have records := State.countDevice_recAt lengths
  refine ⟨?_, told, fun m hm => (records m).trans (others m hm), r, (records i).trans entered, created⟩
  rw [State.itemRead, State.countDevice_assoc, assoc]
end

end Sys2Proof.Machine
end

section
/-! OBLIGATIONS. Measurements and decoded items (O44), assembled. -/

namespace Sys2Proof.Machine

/-- R104: what an item makes of the decoded data, field by field. -/
theorem Decoded.read_eq (d : Decoded) (item : DecodedItem) : d.read item = match item with
    | .sync on => { d with sync := on }
    | .code c => { d with code := some c }
    | .name n => { d with name := some n }
    | .pty n => { d with pty := some n }
    | .tp on => { d with tp := on }
    | .ta on => { d with ta := on }
    | .af f => { d with afs := some (if f ∈ d.afs.getD [] ∨ 25 ≤ (d.afs.getD []).length then d.afs.getD []
        else d.afs.getD [] ++ [f]) } := by
  cases item with
  | af f => simp [Decoded.read]
  | sync on => rfl
  | code c => rfl
  | name n => rfl
  | pty n => rfl
  | tp on => rfl
  | ta on => rfl

theorem State.measured_frame (s : State) (p : Path) (fs mp adj : Nat) : TunerFrame s (s.measured p fs mp adj) :=
  (s.measure_frame p fs mp adj).trans (State.countDevice_frame ..)

theorem State.itemRead_frame (s : State) (p : Path) (item : DecodedItem) : TunerFrame s (s.itemRead p item) :=
  (s.decodeItem_frame p item).trans (State.countDevice_frame ..)

/-- Settles O44. -/
theorem measurementsAndDecodedData : Obligations.MeasurementsAndDecodedData := by
  unfold Obligations.MeasurementsAndDecodedData
  intro listens changed
  refine ⟨fun s p fs mp adj run locked => ?_, fun s p fs mp adj run locked hears good => ?_, fun s p item run locked fm hears => ?_,
    fun s p c run locked fm hears known new => ?_, fun s p fs mp adj off => exec_pathMeasurement_off off fs mp adj,
    fun s p item run locked fm => ?_, fun s p item off => exec_decodedField_off off item⟩
  · have own : (s.measured p fs mp adj).path p = (s.path p).heard fs mp adj := by
      rw [s.measured_path, State.heard, State.setPath_path]
    have other (r : Path) (hr : r ≠ p) : (s.measured p fs mp adj).path r = s.path r := by
      rw [s.measured_path, State.heard, State.setPath_path_ne _ _ hr.symm]
    have wat := s.measured_wat p fs mp adj
    refine ⟨_, exec_pathMeasurement run locked fs mp adj, s.measured_frame .., ?_⟩
    rw [own]
    refine ⟨rfl, rfl, rfl, locked, quality_eq fs mp adj, rfl, rfl, other, ?_, ?_, ?_, ?_, rfl⟩
    · rintro rfl enough
      obtain ⟨count, due⟩ := s.measured_hold fs mp adj
      exact ⟨count.trans (if_pos enough), due.trans (if_pos enough)⟩
    · rintro rfl low
      obtain ⟨count, due⟩ := s.measured_hold fs mp adj
      rw [if_neg (Nat.not_le.mpr low)] at count due
      refine ⟨fun af check fm => ?_, fun check => ?_⟩
      · rw [if_pos ⟨af, by rw [check]; rfl, fm⟩] at count due
        rw [count, due]
        exact ⟨rfl, decide_eq_true_iff⟩
      · rw [count, if_neg]
        rintro ⟨-, none', -⟩
        rw [Option.isNone_iff_eq_none.mp none'] at check
        cases check
    · rintro rfl
      rw [s.measured_tun]
      rfl
    · cases p with
      | p1 => exact wat
      | p2 => exact wat
  · intro x f d found
    refine ⟨_, exec_pathMeasurement run locked fs mp adj, fun awaiting n r at_ held => ?_, fun awaiting none' full => ?_,
      fun awaiting none' i takes => ?_, fun formed n slot => State.measured_again hears good formed slot⟩
    · obtain ⟨assoc, joined⟩ := State.measured_found hears good awaiting at_ held
      obtain ⟨age, code, listed, list, origin, name, pty, tp⟩ := r.heardOn_spec (x.heard fs mp adj)
      exact ⟨assoc, _, joined, age, code, listed, list, origin, name, pty, tp⟩
    · exact State.measured_full hears good awaiting none' full
    · obtain ⟨others, assoc, revision, told, r, entered, created⟩ := State.measured_new hears good awaiting none' takes
      exact ⟨others, assoc, revision, told, r, entered, created.code, created.band, created.origin, created.age, created.head, created.name⟩
  · intro d
    refine ⟨_, exec_decodedField run locked fm item, State.itemRead_unlinked hears, fun n r slot held =>
      ⟨fun field m hm => State.itemRead_others hears slot field hm, ?_, ?_, ?_, ?_⟩⟩
    · rintro v rfl new
      obtain ⟨joined, counted⟩ := State.itemRead_reaches hears (item := .name v) (g := fun r => { r with name := some v }) nofun
        (fun same => new (congrArg Decoded.name same).symm) held (by rw [Table.fieldArrives, slot])
      refine ⟨joined, fun other => counted fun same => other ?_⟩
      have name : (StationRec.content { r with name := some v }).name = r.content.name := by rw [same]
      exact name.symm
    · rintro v rfl new
      exact (State.itemRead_reaches hears (item := .pty v) (g := fun r => { r with pty := some v }) nofun
        (fun same => new (congrArg Decoded.pty same).symm) held (by rw [Table.fieldArrives, slot])).1
    · rintro v rfl new
      exact (State.itemRead_reaches hears (item := .tp v) (g := fun r => { r with tp := v }) nofun
        (fun same => new (congrArg Decoded.tp same).symm) held (by rw [Table.fieldArrives, slot])).1
    · rintro f rfl none'
      have afs : (d.read (.af f)).afs = some [f] := by
        rw [Decoded.read_eq]
        simp [none']
      rw [← r.joinAf_eq f]
      refine (State.itemRead_reaches hears (item := .af f) (g := fun r => r.joinAf f) nofun (fun same => ?_) held ?_).1
      · cases afs.symm.trans ((congrArg Decoded.afs same).trans none')
      · rw [afs, Table.fieldArrives, slot]
        rfl
  · intro f zero
    refine ⟨_, exec_decodedField run locked fm (.code c), fun n r found held => ?_, fun none' a o has => ?_, fun none' slot full => ?_,
      fun none' slot i takes => ?_⟩
    · let x := (s.path p).reads (.code c)
      have code : r.code = c := Table.byCode_code found held
      obtain ⟨joined, rest, listed⟩ := r.coded_spec x
      by_cases plain : ∀ a o, ¬ zero a o
      · obtain ⟨slot, heard⟩ := State.codeRead_held hears known new found held plain
        refine ⟨slot, _, heard, ?_, ?_, listed, fun _ => ⟨rest, joined⟩, fun a o has => absurd has (plain a o)⟩
        · rw [rest]
          exact code
        · rw [rest]
      · obtain ⟨a, o, has⟩ : ∃ a o, zero a o := by
          by_contra no
          exact plain fun a o has => no ⟨a, o, has⟩
        obtain ⟨slot, gone, ⟨q, merged⟩, revision, revision', told⟩ := State.codeRead_merge hears known new found held has
        obtain ⟨l, absorbed⟩ := (r.coded x).absorb_spec o
        refine ⟨slot, _, merged, ?_, ?_, ?_, fun no => absurd has (no a o), fun a' o' has' => ?_⟩
        · rw [absorbed, rest]
          exact code
        · rw [absorbed, rest]
        · rw [absorbed, List.map_append]
          exact List.mem_append_left _ listed
        · obtain rfl := Option.some.inj (has.1.symm.trans has'.1)
          obtain rfl := Option.some.inj (has.2.1.symm.trans has'.2.1)
          rw [absorbed, rest]
          exact ⟨gone, rfl, rfl, rfl, revision, revision', told⟩
    · exact State.codeRead_taken hears known new none' has
    · exact State.codeRead_full hears known new none' slot full
    · obtain ⟨assoc, told, others, r, entered, created⟩ := State.codeRead_new hears known new none' slot takes
      refine ⟨assoc, told, others, r, entered, created.code, created.band.trans fm, ?_, created.origin⟩
      rw [StationRec.primary, created.head]
      exact congrArg some (PathRec.entry_freq _)
  · intro d
    refine ⟨_, exec_decodedField run locked fm item, s.itemRead_frame p item, ?_, fun r hr => ?_⟩
    · refine (State.countDevice_path ..).trans ((s.decodeItem_path p item).1.trans ?_)
      cases item <;> exact congrArg (fun e => { s.path p with decoded := e }) (Decoded.read_eq d _)
    · rw [State.itemRead, State.countDevice_path]
      exact (s.decodeItem_path p item).2 r hr

end Sys2Proof.Machine
end
